-- ==== Sys2Proof/Word.lean ====
section
/-! DEFINITION. The words of the JV-4120: the byte of a serial line and the two-byte check code (R203). -/

namespace Sys2Proof

/-- One byte on a line: every frame field is made of these (R203). -/
abbrev Byte := BitVec 8

/-- The two-byte check code that closes a frame (R2, R203). -/
abbrev Word := BitVec 16

end Sys2Proof
end

