-- ==== Sys2Proof/Config.lean ====
section
/-! DEFINITION. The values the spec leaves open, as constants with no body. -/

namespace Sys2Proof

/-- FREE VALUE (log 6). The data bytes of a REPLY whose data, as R160, R204 and R207 lay it out, does not fit
the 56 payload bytes of R203 (READ SECTOR part 1 with 15 or 16 ring entries): the spec states no result there.
The argument is the data as laid out; nothing constrains the value. -/
opaque Config.overlongReply : List Byte → List Byte

end Sys2Proof
end

