-- ==== Sys2Proof/Syntax.lean ====
section
/-! DEFINITION. The commands and events the block takes: one constructor of `Instr` for each row of
spec/opcode_table.json, with the row's operands. -/

namespace Sys2Proof

/-- The three serial ports (chapter 1). -/
inductive PortId
  | crestA
  | crestB
  | valley
deriving DecidableEq, Repr

/-- The two crest ports (chapter 1): A serves the left bank, B the right bank. -/
inductive Side
  | a
  | b
deriving DecidableEq, Repr

/-- A frame without its SYNC byte and with LEN left implicit (it is the payload's length plus 4, R203).
`crc` is the check code the frame carries, right or wrong. -/
structure Frame where
  dst : Byte
  src : Byte
  kind : Byte
  seq : Byte
  payload : List Byte
  crc : Word
deriving DecidableEq, Repr

/-- The thirty-nine commands of the Command Reference (R146 to R184). -/
inductive Command
  | readIdent
  | readClock
  | setClock
  | loadConsole
  | loadStation
  | clearStation
  | readStation
  | parkStation
  | unparkStation
  | loadLane
  | clearLane
  | readLane
  | loadSector
  | clearSector
  | readSector
  | parkSector
  | unparkSector
  | clearTrip
  | loadZone
  | clearZone
  | readZone
  | forceStage
  | releaseForce
  | readDispatch
  | loadOutput
  | readOutput
  | setNotices
  | readNotices
  | clearNotices
  | readCounters
  | clearCounters
  | goWatch
  | goCommission
  | saveTables
  | eraseTables
  | restart
  | reset
  | readResetCause
  | clearResetCause
deriving DecidableEq, Repr

/-- One step of the part: an event at a pin, a timer or the supply, or a command at the command unit.
A command's operands are the SRC of the COMMAND frame, its tag, and its argument block as bytes (R207),
so that every check of R141 can be made on it. -/
inductive Instr
  /-- The supply starts (R28, R200). -/
  | powerOn
  /-- A break has been held one second on the Valley receive line (R6). -/
  | lineReset
  /-- More than four character times pass after a character on a port (R5). -/
  | idleGap (port : PortId)
  /-- A character with its stop bit at space arrives on a port (R5). -/
  | brokenCharacter (port : PortId)
  /-- A LEN byte out of range arrives on a port (R3). -/
  | oversizeError (port : PortId) (len : Byte)
  /-- The characters of one whole frame arrive on a port, SYNC to the second CRC byte (R3, R4). -/
  | frameReceived (port : PortId) (frame : Frame)
  /-- The last stop bit of the frame a port is sending ends (R17). -/
  | transmitCompletion (port : PortId)
  /-- The crystal divider produces a tenth tick (R21). -/
  | tenthTick
  /-- The phase of output K`k` has reached its cadence's on-time (R135). -/
  | cadenceOnTimeReached (k : Nat)
  /-- The phase of output K`k` has reached its cadence's cycle (R135). -/
  | cycleBoundary (k : Nat)
  /-- The silence countdown of a station has run out (R33). -/
  | silenceCountdownExpiry (station : Nat)
  /-- The blind countdown of a sector has run out (R74). -/
  | blindCountdownExpiry (sector : Nat)
  /-- The bin countdown of a sector has run out (R93). -/
  | binAdvance (sector : Nat)
  /-- The repeat countdown of a zone's siren record has run out (R126). -/
  | repeatCountdownExpiry (zone : Nat) (siren : Byte)
  /-- The status countdown has run out (R190). -/
  | statusCountdownExpiry
  /-- A zone's force remaining has reached 0 (R114). -/
  | forceExpiry (zone : Nat)
  /-- A zone's hold remaining has reached 0 (R112). -/
  | endOfHold (zone : Nat)
  /-- A zone's refresh remaining has reached 0 (R116). -/
  | refreshExpiry (zone : Nat)
  /-- A save in progress completes (R199). -/
  | saveCompletion
  | readIdent (src tag : Byte) (args : List Byte)
  | readClock (src tag : Byte) (args : List Byte)
  | setClock (src tag : Byte) (args : List Byte)
  | loadConsole (src tag : Byte) (args : List Byte)
  | loadStation (src tag : Byte) (args : List Byte)
  | clearStation (src tag : Byte) (args : List Byte)
  | readStation (src tag : Byte) (args : List Byte)
  | parkStation (src tag : Byte) (args : List Byte)
  | unparkStation (src tag : Byte) (args : List Byte)
  | loadLane (src tag : Byte) (args : List Byte)
  | clearLane (src tag : Byte) (args : List Byte)
  | readLane (src tag : Byte) (args : List Byte)
  | loadSector (src tag : Byte) (args : List Byte)
  | clearSector (src tag : Byte) (args : List Byte)
  | readSector (src tag : Byte) (args : List Byte)
  | parkSector (src tag : Byte) (args : List Byte)
  | unparkSector (src tag : Byte) (args : List Byte)
  | clearTrip (src tag : Byte) (args : List Byte)
  | loadZone (src tag : Byte) (args : List Byte)
  | clearZone (src tag : Byte) (args : List Byte)
  | readZone (src tag : Byte) (args : List Byte)
  | forceStage (src tag : Byte) (args : List Byte)
  | releaseForce (src tag : Byte) (args : List Byte)
  | readDispatch (src tag : Byte) (args : List Byte)
  | loadOutput (src tag : Byte) (args : List Byte)
  | readOutput (src tag : Byte) (args : List Byte)
  | setNotices (src tag : Byte) (args : List Byte)
  | readNotices (src tag : Byte) (args : List Byte)
  | clearNotices (src tag : Byte) (args : List Byte)
  | readCounters (src tag : Byte) (args : List Byte)
  | clearCounters (src tag : Byte) (args : List Byte)
  | goWatch (src tag : Byte) (args : List Byte)
  | goCommission (src tag : Byte) (args : List Byte)
  | saveTables (src tag : Byte) (args : List Byte)
  | eraseTables (src tag : Byte) (args : List Byte)
  | restart (src tag : Byte) (args : List Byte)
  | reset (src tag : Byte) (args : List Byte)
  | readResetCause (src tag : Byte) (args : List Byte)
  | clearResetCause (src tag : Byte) (args : List Byte)
  /-- A whole character arrives on a port's receive line (R3, R4). -/
  | characterReceived (port : PortId) (char : Byte)
  /-- A port's receive line returns to mark level (R5, R6). -/
  | lineReturnsToMark (port : PortId)
deriving DecidableEq, Repr

end Sys2Proof
end

