-- ==== Sys2Proof/Machine/State.lean ====
section
/-! DEFINITION. The state of the part as plain data: every register, counter, timer, queue, table and pin the
spec gives it, the queue of commands waiting to be taken, and the state after reset. -/

namespace Sys2Proof.Machine

/-! ## Names and small records -/

/-- The four stages, QUIET 0 to EVACUATE 3 (00_scope.md, Conventions). -/
inductive Stage
  | quiet
  | watch
  | prepare
  | evacuate
deriving DecidableEq, Repr

/-- The operating mode (R194). -/
inductive Mode
  | blank
  | commissioning
  | watching
deriving DecidableEq, Repr

/-- The set of causes of a sector or a zone (R81, R109); a sector never has FORCE or HELD. -/
structure Causes where
  level : Bool
  blind : Bool
  rapid : Bool
  surge : Bool
  tripFault : Bool
  trip : Bool
  force : Bool
  held : Bool
deriving DecidableEq, Repr

/-- No causes. -/
def Causes.none : Causes :=
  { level := false, blind := false, rapid := false, surge := false,
    tripFault := false, trip := false, force := false, held := false }

/-- The five counters of the time base with CLOCK UNSET, and so also a captured time (R21, R26, R27). -/
structure TimeStamp where
  day : Nat
  hour : Nat
  minute : Nat
  second : Nat
  tenth : Nat
  unset : Bool
deriving DecidableEq, Repr

/-- The time base (R21): the counters, and the prescaler phase as the number of tenth ticks since the
divider's group of five began. -/
structure TimeBase where
  now : TimeStamp
  phase : Nat
deriving DecidableEq, Repr

/-! ## Line ports (chapter 1) -/

/-- The receiver of a port (R3, R4), with the bytes of the frame being received. -/
inductive Receiver
  | hunt
  | length
  | body (len : Byte) (got : List Byte) (left : Nat)
  | check (len : Byte) (got : List Byte) (first : Option Byte)
deriving DecidableEq, Repr

/-- A port's receive line (R5, R6): at mark; at space since a broken character; at space in a break that
has already requested its line reset. -/
inductive LineLevel
  | mark
  | space
  | spent
deriving DecidableEq, Repr

/-- What waits on the transmit completion of a reply (R181, R182). -/
inductive ReplyEffect
  | nothing
  | restart
  | reset
deriving DecidableEq, Repr

/-- The frame a transmitter is sending (R17). -/
structure Sending where
  frame : Frame
  effect : ReplyEffect
deriving DecidableEq, Repr

/-- What every port holds: receiver, receive line, transmitter (IDLE is none) and the counts of R18 that
every port keeps. -/
structure Port where
  rx : Receiver
  line : LineLevel
  tx : Option Sending
  received : Nat
  crcError : Nat
  framing : Nat
  oversize : Nat
  badAddress : Nat
  sent : Nat
deriving DecidableEq, Repr

/-- A crest port: its crest-ward queue (R14) and the counts of R18 that crest ports keep. -/
structure CrestPort where
  port : Port
  queue : List Frame
  wrongSide : Nat
  parked : Nat
  unknownSource : Nat
  crestDrop : Nat
deriving DecidableEq, Repr

/-- The Valley port: the valley forward queue (R15), the sequence counter of R2 and its own counts. -/
structure ValleyPort where
  port : Port
  forward : List Frame
  seq : Byte
  notForPart : Nat
  forwardDrop : Nat
deriving DecidableEq, Repr

/-- The strap pins (R1). -/
structure Straps where
  rate : Fin 4
  addr : Fin 64
deriving DecidableEq, Repr

/-! ## Station Table (chapter 3) -/

/-- A station's class with the count its class calls for (R30). -/
inductive StationClass
  | sweep (lanes : Nat)
  | pulse (channels : Nat)
  | trip (wires : Nat)
deriving DecidableEq, Repr

/-- The configuration of a station entry (R30). -/
structure StationConfig where
  addr : Byte
  port : Side
  cls : StationClass
  limit : Nat
  divisor : Nat
  parked : Bool
deriving DecidableEq, Repr

/-- The state of a loaded station (R31, R32). -/
inductive Liveness
  | absent
  | live
  | silent
  | parked
deriving DecidableEq, Repr

/-- A wire as its monitor reports it (R38). -/
inductive WireState
  | intact
  | cut
  | fault
deriving DecidableEq, Repr

/-- The last contents of a station (R36, R37, R38): a sweep as received, an interval with one entry for each
configured channel (none is not reported), or one state for each configured wire. -/
inductive Contents
  | sweep (values : List Nat)
  | pulse (interval : Nat) (counts : List (Option Nat))
  | trip (wires : List WireState)
deriving DecidableEq, Repr

/-- The seven counters of a station (R45). -/
structure StationCounts where
  accepted : Nat
  duplicate : Nat
  stale : Nat
  missed : Nat
  wrongPort : Nat
  wrongKind : Nat
  malformed : Nat
deriving DecidableEq, Repr

def StationCounts.zero : StationCounts :=
  { accepted := 0, duplicate := 0, stale := 0, missed := 0, wrongPort := 0, wrongKind := 0, malformed := 0 }

/-- A loaded station entry: configuration and dynamic state (R30, R31). -/
structure Station where
  cfg : StationConfig
  live : Liveness
  lastSeq : Option Byte
  silence : Option Nat
  lastHeard : Option TimeStamp
  contents : Option Contents
  phase : Nat
  counts : StationCounts
deriving DecidableEq, Repr

/-! ## Lane Map (chapter 4) -/

/-- One candidate source of a lane (R47). -/
structure Candidate where
  station : Nat
  sweepLane : Nat
deriving DecidableEq, Repr

/-- The configuration of a lane (R47). -/
structure LaneConfig where
  datum : Nat
  lossLimit : Nat
  restoreCount : Nat
  cands : List Candidate
deriving DecidableEq, Repr

/-- A loaded lane (R47, R48). The tracked rank is none while SEEKING. -/
structure Lane where
  cfg : LaneConfig
  tracked : Option Nat
  clearance : Option Nat
  fill : Option Nat
  valueTime : Option TimeStamp
  loss : Nat
  credits : List Nat
deriving DecidableEq, Repr

/-- Why a lane's tracked rank changed (R62). -/
inductive SourceReason
  | found
  | echoLoss
  | silent
  | withdrawn
  | restore
  | reloaded
  | cleared
deriving DecidableEq, Repr

/-! ## Sector Assessment (chapters 5 and 6) -/

/-- One value for each of WATCH, PREPARE and EVACUATE. -/
structure Thresholds where
  watch : Nat
  prepare : Nat
  evacuate : Nat
deriving DecidableEq, Repr

/-- A set of lane indices for each of WATCH, PREPARE and EVACUATE (R67). -/
structure Masks where
  watch : List Nat
  prepare : List Nat
  evacuate : List Nat
deriving DecidableEq, Repr

def Masks.empty : Masks :=
  { watch := [], prepare := [], evacuate := [] }

/-- A sector's pulse link (R91). -/
structure PulseLink where
  station : Nat
  channel : Nat
deriving DecidableEq, Repr

/-- A sector's trip link (R97). -/
structure TripLink where
  station : Nat
  wire : Nat
deriving DecidableEq, Repr

/-- The configuration of a sector (R66). -/
structure SectorConfig where
  first : Nat
  count : Nat
  quorum : Nat
  rise : Thresholds
  fall : Thresholds
  blindDelay : Nat
  rapidSpan : Nat
  rapidLimit : Nat
  pulse : Option PulseLink
  binLength : Nat
  surgeSpan : Nat
  surgeLimit : Nat
  surgeRelease : Nat
  trips : List TripLink
  parked : Bool
deriving DecidableEq, Repr

/-- The peak lane and its fill (R72). -/
structure Peak where
  lane : Nat
  fill : Nat
deriving DecidableEq, Repr

/-- The trip record (R97), present while the trip latch is set. -/
structure TripRecord where
  link : Nat
  station : Nat
  addr : Byte
  wire : Nat
  time : TimeStamp
deriving DecidableEq, Repr

/-- A loaded sector (R66, R67, R91, R97). The minute ring is newest first and a GAP is none; the trip latch
is set while `trip` holds a record. -/
structure Sector where
  cfg : SectorConfig
  valid : Nat
  rise : Masks
  hold : Masks
  level : Stage
  peak : Option Peak
  index : Nat
  blindCd : Option Nat
  blind : Bool
  ring : List (Option Nat)
  lastRise : Option Nat
  rapid : Bool
  bins : List Nat
  binCd : Option Nat
  window : Nat
  surge : Bool
  tripFault : Bool
  trip : Option TripRecord
  stage : Stage
  causes : Causes
deriving DecidableEq, Repr

/-! ## Zone Table (chapter 7) -/

/-- The configuration of a zone (R106). -/
structure ZoneConfig where
  sectors : List Nat
  sirens : List Byte
  holdDown : Nat
  repeatInterval : Nat
  tries : Nat
  refresh : Nat
deriving DecidableEq, Repr

/-- A forced stage and the minutes it has left (R107). -/
structure Force where
  stage : Stage
  left : Nat
deriving DecidableEq, Repr

/-- A loaded zone (R106, R107). -/
structure Zone where
  cfg : ZoneConfig
  stage : Stage
  computed : Stage
  force : Option Force
  target : Stage
  hold : Option Nat
  serial : Byte
  causes : Causes
  peakSector : Option Nat
  refreshCd : Option Nat
  undispatched : Nat
deriving DecidableEq, Repr

/-! ## Dispatch Queue and contact outputs (chapter 8) -/

/-- The delivery state of a siren record (R123). -/
inductive Delivery
  | pending
  | delivered
  | unreached
deriving DecidableEq, Repr

/-- A siren record (R123). -/
structure SirenRecord where
  addr : Byte
  state : Delivery
  tries : Nat
  cd : Option Nat
deriving DecidableEq, Repr

/-- A dispatch entry (R122). -/
structure Entry where
  zone : Nat
  serial : Byte
  stage : Stage
  causes : Causes
  refresh : Bool
  peakSector : Option Nat
  peak : Option Peak
  index : Nat
  created : TimeStamp
  records : List SirenRecord
deriving DecidableEq, Repr

/-- The Dispatch Queue, entries in queue order (R122), and its two counters (R132). -/
structure DispatchQueue where
  queue : List Entry
  stale : Nat
  mismatched : Nat
deriving DecidableEq, Repr

/-- A cadence in tenths (R133). -/
structure Cadence where
  cycle : Nat
  onTime : Nat
deriving DecidableEq, Repr

/-- Cadences 1, 2 and 3 of an output (R133). -/
structure Cadences where
  c1 : Cadence
  c2 : Cadence
  c3 : Cadence
deriving DecidableEq, Repr

/-- The configuration of a contact output (R133). -/
structure OutputConfig where
  code : Nat
  argIndex : Nat
  argStage : Stage
  written : Cadences
deriving DecidableEq, Repr

/-- A contact output (R133). The cadence in use is 1, 2 or 3. -/
structure Output where
  cfg : OutputConfig
  working : Cadences
  condition : Bool
  inUse : Option Nat
  phase : Option Nat
  closed : Bool
deriving DecidableEq, Repr

/-! ## Notice unit (chapter 10) -/

/-- The six notice classes (R185). -/
inductive NoticeClass
  | stage
  | source
  | silence
  | delivery
  | trip
  | fault
deriving DecidableEq, Repr

/-- The detail of a notice, by class (R62, R100, R111, R126, R185, R189). -/
inductive Detail
  | stage (zone : Nat) (old new : Stage) (serial : Byte) (causes : Causes) (peakSector : Option Nat) (endOfHold : Bool)
  | source (lane : Nat) (oldRank newRank station sweepLane : Option Nat) (reason : SourceReason)
  | silence (station : Nat) (addr : Byte) (left entered : Liveness) (heard : Option TimeStamp)
  | delivery (zone : Nat) (serial : Byte) (stage : Stage) (siren : Byte) (tries : Nat)
  | trip (sector link station : Nat) (addr : Byte) (wire : Nat) (time : TimeStamp)
  | clockUnset
  | storeFault
  | forwardDrop (src kind : Byte)
  | replyLost (src code : Byte)
deriving DecidableEq, Repr

/-- One class (R185). The pending flag is set while a detail is held. -/
structure ClassState where
  enable : Bool
  detail : Option Detail
  count : Nat
deriving DecidableEq, Repr

/-- An item of the outgoing list (R187). -/
inductive OutItem
  | notice (cls : NoticeClass) (dst : Byte)
  | status (dst : Byte)
deriving DecidableEq, Repr

/-- The notice unit (R185, R187, R190). -/
structure NoticeUnit where
  stage : ClassState
  source : ClassState
  silence : ClassState
  delivery : ClassState
  trip : ClassState
  fault : ClassState
  period : Nat
  statusCd : Option Nat
  out : List OutItem
deriving DecidableEq, Repr

/-! ## Command unit, mode and Table Store (chapters 9 and 11) -/

/-- A reply waiting to be sent (R140, R144). -/
structure Reply where
  dst : Byte
  payload : List Byte
  effect : ReplyEffect
deriving DecidableEq, Repr

/-- One truth value for each notice class. -/
structure Enables where
  stage : Bool
  source : Bool
  silence : Bool
  delivery : Bool
  trip : Bool
  fault : Bool
deriving DecidableEq, Repr

/-- The image of the Table Store (R198). `watching` is the stored mode, WATCHING or COMMISSIONING. -/
structure Image where
  stations : Vector (Option StationConfig) 16
  lanes : Vector (Option LaneConfig) 32
  sectors : Vector (Option SectorConfig) 8
  zones : Vector (Option ZoneConfig) 12
  outputs : Vector OutputConfig 6
  enables : Enables
  period : Nat
  console : List Byte
  watching : Bool
deriving DecidableEq, Repr

/-- The Table Store (R198): its check code void, an empty image, or an image; in the last two the check
code agrees. -/
inductive Store
  | void
  | empty
  | image (img : Image)
deriving DecidableEq, Repr

/-- A save in progress (R199): what it will write, and where its DONE reply goes. -/
structure SaveJob where
  content : Store
  dst : Byte
  tag : Byte
deriving DecidableEq, Repr

/-- The reset cause record (R202). -/
structure ResetCause where
  powerOn : Bool
  line : Bool
  fullCommand : Bool
  warmCommand : Bool
  storeFault : Bool
deriving DecidableEq, Repr

/-! ## The part -/

/-- The whole state of the part, and the commands and events waiting to be taken, first in first out. -/
structure State where
  straps : Straps
  rate : Fin 4
  node : Byte
  crestA : CrestPort
  crestB : CrestPort
  valley : ValleyPort
  time : TimeBase
  stations : Vector (Option Station) 16
  lanes : Vector (Option Lane) 32
  sectors : Vector (Option Sector) 8
  zones : Vector (Option Zone) 12
  dispatch : DispatchQueue
  outputs : Vector Output 6
  notices : NoticeUnit
  console : List Byte
  replies : List Reply
  lost : Nat
  save : Option SaveJob
  mode : Mode
  store : Store
  cause : ResetCause
  pending : List Instr
deriving DecidableEq, Repr

/-- No event stops this part: bad frames are counted, refused commands are answered, and its own faults
are a notice class (R189). No constructor, so no meaning can raise a fault: safe. -/
inductive Fault
deriving DecidableEq, Repr

/-- Why the model has no meaning for a command. -/
inductive Refusal
  /-- Raised only by an arm of `exec` that has no meaning yet; no arm raises it now. Safe: the run stops. -/
  | notModelled (mnemonic : String)
deriving DecidableEq, Repr

/-! ## Reset values -/

/-- A port at start-up (R19). -/
def Port.fresh (line : LineLevel) : Port :=
  { rx := .hunt, line := line, tx := none, received := 0, crcError := 0, framing := 0, oversize := 0,
    badAddress := 0, sent := 0 }

/-- A crest port at start-up (R19). -/
def CrestPort.fresh (line : LineLevel) : CrestPort :=
  { port := Port.fresh line, queue := [], wrongSide := 0, parked := 0, unknownSource := 0, crestDrop := 0 }

/-- The Valley port at start-up (R19). -/
def ValleyPort.fresh (line : LineLevel) : ValleyPort :=
  { port := Port.fresh line, forward := [], seq := 0, notForPart := 0, forwardDrop := 0 }

/-- The time base at power-on (R28). -/
def TimeBase.powerOn : TimeBase :=
  { now := { day := 0, hour := 0, minute := 0, second := 0, tenth := 0, unset := true }, phase := 0 }

/-- The configuration of an output when the store holds no valid image, and after ERASE TABLES (R133). -/
def OutputConfig.unset : OutputConfig :=
  { code := 0, argIndex := 0, argStage := .watch,
    written := { c1 := { cycle := 10, onTime := 10 }, c2 := { cycle := 10, onTime := 10 },
                 c3 := { cycle := 10, onTime := 10 } } }

/-- An output with its contact open, its condition false and its working cadences the written ones (R138). -/
def Output.idle (cfg : OutputConfig) : Output :=
  { cfg := cfg, working := cfg.written, condition := false, inUse := none, phase := none, closed := false }

/-- A class with its flag clear (R192). -/
def ClassState.clear (enable : Bool) : ClassState :=
  { enable := enable, detail := none, count := 0 }

/-- The machine right after reset: the power-on (R200) of a part never saved (R198), log 1. The strap pins
stand at 0 (log 2) and the receive lines at mark (log 11). Step 7 of R200 has raised CLOCK UNSET and then
STORE FAULT. -/
def State.reset : State :=
  { straps := { rate := 0, addr := 0 }
    rate := 0
    node := 1
    crestA := CrestPort.fresh .mark
    crestB := CrestPort.fresh .mark
    valley := ValleyPort.fresh .mark
    time := TimeBase.powerOn
    stations := Vector.replicate 16 none
    lanes := Vector.replicate 32 none
    sectors := Vector.replicate 8 none
    zones := Vector.replicate 12 none
    dispatch := { queue := [], stale := 0, mismatched := 0 }
    outputs := Vector.replicate 6 (Output.idle OutputConfig.unset)
    notices :=
      { stage := ClassState.clear true
        source := ClassState.clear true
        silence := ClassState.clear true
        delivery := ClassState.clear true
        trip := ClassState.clear true
        fault := { enable := true, detail := some .clockUnset, count := 1 }
        period := 0
        statusCd := none
        out := [] }
    console := []
    replies := []
    lost := 0
    save := none
    mode := .blank
    store := .void
    cause := { powerOn := true, line := false, fullCommand := false, warmCommand := false, storeFault := true }
    pending := [] }

end Sys2Proof.Machine
end

