-- ==== Sys2Proof/Machine/Ops.lean ====
section
/-! DEFINITION. Named operations over the state: stages and cause sets, saturation and countdowns, the tables,
the ports, and the counts. -/

namespace Sys2Proof.Machine

/-! ## Numbers -/

/-- Raise a counter by 1, saturating at 65535 (00_scope.md, Numbers; R18, R193). -/
def satInc (n : Nat) : Nat :=
  min (n + 1) 65535

/-- Raise a counter by k, saturating at 65535. -/
def satAdd (n k : Nat) : Nat :=
  min (n + k) 65535

/-- A countdown at one event of its kind (R23): a running one falls by 1, and at 0 it has run out. -/
def fall (cd : Option Nat) : Option Nat :=
  cd.map (fun n => n - 1)

/-- `n` lies from `lo` to `hi`. -/
def inRange (lo hi n : Nat) : Bool :=
  decide (lo ≤ n) && decide (n ≤ hi)

/-! ## Stages, causes, modes -/

/-- The number of a stage (00_scope.md, Stages). -/
def Stage.num : Stage → Nat
  | .quiet => 0
  | .watch => 1
  | .prepare => 2
  | .evacuate => 3

/-- The stage with a number, none above 3. -/
def Stage.ofNum : Nat → Option Stage
  | 0 => some .quiet
  | 1 => some .watch
  | 2 => some .prepare
  | 3 => some .evacuate
  | _ => none

/-- The higher of two stages. -/
def Stage.max (a b : Stage) : Stage :=
  if a.num < b.num then b else a

/-- The union of two cause sets. -/
def Causes.union (a b : Causes) : Causes :=
  { level := a.level || b.level, blind := a.blind || b.blind, rapid := a.rapid || b.rapid,
    surge := a.surge || b.surge, tripFault := a.tripFault || b.tripFault, trip := a.trip || b.trip,
    force := a.force || b.force, held := a.held || b.held }

/-! ## Tables -/

/-- Apply a function to every place of a table. -/
def mapTable {α β : Type} {n : Nat} (f : α → β) (v : Vector α n) : Vector β n :=
  ⟨(v.toList.map f).toArray, by simp⟩

/-- Apply a function to every loaded entry of a table. -/
def mapEntries {α β : Type} {n : Nat} (f : α → β) (v : Vector (Option α) n) : Vector (Option β) n :=
  mapTable (Option.map f) v

/-- The entry at a place of a table, none when it is VACANT or there is no such place. -/
def entryAt {α : Type} {n : Nat} (v : Vector (Option α) n) (i : Nat) : Option α :=
  (v[i]?).join

/-- A station entry, none when VACANT (R30). -/
def State.station (s : State) (i : Nat) : Option Station :=
  entryAt s.stations i

/-- A lane, none when VACANT (R47). -/
def State.lane (s : State) (i : Nat) : Option Lane :=
  entryAt s.lanes i

/-- A sector, none when VACANT (R66). -/
def State.sector (s : State) (i : Nat) : Option Sector :=
  entryAt s.sectors i

/-- A zone, none when VACANT (R106). -/
def State.zone (s : State) (i : Nat) : Option Zone :=
  entryAt s.zones i

/-- Output K`k`, 1 to 6 (R133). -/
def State.output (s : State) (k : Nat) : Option Output :=
  if k = 0 then none else s.outputs[k - 1]?

def State.setStation (i : Nat) (x : Option Station) (s : State) : State :=
  { s with stations := s.stations.setIfInBounds i x }

def State.setLane (i : Nat) (x : Option Lane) (s : State) : State :=
  { s with lanes := s.lanes.setIfInBounds i x }

/-- Write a sector without handing anything on. -/
def State.setSector (i : Nat) (x : Option Sector) (s : State) : State :=
  { s with sectors := s.sectors.setIfInBounds i x }

def State.setZone (i : Nat) (x : Option Zone) (s : State) : State :=
  { s with zones := s.zones.setIfInBounds i x }

def State.setOutput (k : Nat) (x : Output) (s : State) : State :=
  { s with outputs := s.outputs.setIfInBounds (k - 1) x }

/-- Take the indices 0 to n - 1 in ascending order. -/
def eachBelow (n : Nat) (f : Nat → State → State) (s : State) : State :=
  (List.range n).foldl (fun t i => f i t) s

/-- The index of the loaded station with an address, if any (R9, R14, R30). -/
def State.stationAt (s : State) (a : Byte) : Option Nat :=
  (List.range 16).find? (fun i => decide ((s.station i).map (fun x => x.cfg.addr) = some a))

/-! ## Ports -/

/-- The port with a name. -/
def State.port (s : State) : PortId → Port
  | .crestA => s.crestA.port
  | .crestB => s.crestB.port
  | .valley => s.valley.port

/-- Change one port. -/
def State.updPort (p : PortId) (f : Port → Port) (s : State) : State :=
  match p with
  | .crestA => { s with crestA := { s.crestA with port := f s.crestA.port } }
  | .crestB => { s with crestB := { s.crestB with port := f s.crestB.port } }
  | .valley => { s with valley := { s.valley with port := f s.valley.port } }

/-- The crest port on a side. -/
def State.crest (s : State) : Side → CrestPort
  | .a => s.crestA
  | .b => s.crestB

/-- Change one crest port. -/
def State.updCrest (d : Side) (f : CrestPort → CrestPort) (s : State) : State :=
  match d with
  | .a => { s with crestA := f s.crestA }
  | .b => { s with crestB := f s.crestB }

/-- The driver-enable output of a port (R17): asserted while the transmitter is SENDING. -/
def State.driverEnable (s : State) (p : PortId) : Bool :=
  (s.port p).tx.isSome

/-- Change the counters of a loaded station. -/
def State.countStation (i : Nat) (f : StationCounts → StationCounts) (s : State) : State :=
  match s.station i with
  | none => s
  | some x => s.setStation i (some { x with counts := f x.counts })

/-! ## Outcomes of commands (R141, R144, R207) -/

/-- The outcome of a command (R144), with its code (R207). -/
inductive Outcome
  | done
  | badForm
  | range
  | busy
  | parked
  | latched
  | notConsole
  | mode
  | incomplete
  | unknown
deriving DecidableEq, Repr

/-- The code of an outcome (R207). -/
def Outcome.code : Outcome → Byte
  | .done => 0
  | .badForm => 1
  | .range => 2
  | .busy => 3
  | .parked => 4
  | .latched => 5
  | .notConsole => 6
  | .mode => 7
  | .incomplete => 8
  | .unknown => 9

end Sys2Proof.Machine
end

