-- ==== Sys2Proof/Machine/Flags.lean ====
section
/-! DEFINITION. The conditions of a sector and what they make of its stage and causes (R80, R81). -/

namespace Sys2Proof.Machine

/-- What each of the six conditions contributes to the sector stage (R80). -/
def Sector.contributions (x : Sector) : List Stage :=
  [x.level, if x.blind then .watch else .quiet, if x.rapid then .prepare else .quiet,
   if x.surge then .prepare else .quiet, if x.tripFault then .watch else .quiet,
   if x.trip.isSome then .evacuate else .quiet]

/-- The sector stage: the highest contribution (R80). -/
def Sector.computeStage (x : Sector) : Stage :=
  x.contributions.foldl Stage.max .quiet

/-- The causes of a sector at a stage: the conditions whose contribution equals it, none at QUIET (R81). -/
def Sector.causesAt (x : Sector) (st : Stage) : Causes :=
  if st = .quiet then Causes.none
  else
    { level := decide (x.level = st)
      blind := x.blind && decide (st = .watch)
      rapid := x.rapid && decide (st = .prepare)
      surge := x.surge && decide (st = .prepare)
      tripFault := x.tripFault && decide (st = .watch)
      trip := x.trip.isSome && decide (st = .evacuate)
      force := false
      held := false }

/-- Recompute a sector's stage and causes from its conditions (R80, R81). -/
def Sector.restage (x : Sector) : Sector :=
  let st := x.computeStage
  { x with stage := st, causes := x.causesAt st }

/-- The pending flag of a class (R185): set while the class holds a detail. -/
def ClassState.flag (c : ClassState) : Bool :=
  c.detail.isSome

/-- A lane is valid when it is TRACKING (R49). -/
def Lane.valid (l : Lane) : Bool :=
  l.tracked.isSome

/-- A sector's trip latch (R97, R101). -/
def Sector.latched (x : Sector) : Bool :=
  x.trip.isSome

/-- A siren record is due when it is PENDING and its repeat countdown is not running (R123). -/
def SirenRecord.due (r : SirenRecord) : Bool :=
  decide (r.state = .pending) && r.cd.isNone

end Sys2Proof.Machine
end

