-- ==== Sys2Proof/Machine/Notices.lean ====
section
/-! DEFINITION. The notice unit: classes, raisings, the outgoing list (R185 to R188). -/

namespace Sys2Proof.Machine

/-- The six classes in the order of their numbers (R204). -/
def NoticeClass.all : List NoticeClass :=
  [.stage, .source, .silence, .delivery, .trip, .fault]

/-- The number of a class (R204). -/
def NoticeClass.num : NoticeClass → Nat
  | .stage => 0
  | .source => 1
  | .silence => 2
  | .delivery => 3
  | .trip => 4
  | .fault => 5

/-- The class with a number, none above 5. -/
def NoticeClass.ofNum : Nat → Option NoticeClass
  | 0 => some .stage
  | 1 => some .source
  | 2 => some .silence
  | 3 => some .delivery
  | 4 => some .trip
  | 5 => some .fault
  | _ => none

def NoticeUnit.get (u : NoticeUnit) : NoticeClass → ClassState
  | .stage => u.stage
  | .source => u.source
  | .silence => u.silence
  | .delivery => u.delivery
  | .trip => u.trip
  | .fault => u.fault

def NoticeUnit.set (c : NoticeClass) (x : ClassState) (u : NoticeUnit) : NoticeUnit :=
  match c with
  | .stage => { u with stage := x }
  | .source => { u with source := x }
  | .silence => { u with silence := x }
  | .delivery => { u with delivery := x }
  | .trip => { u with trip := x }
  | .fault => { u with fault := x }

/-- The class a detail belongs to (R185). -/
def Detail.cls : Detail → NoticeClass
  | .stage _ _ _ _ _ _ _ => .stage
  | .source _ _ _ _ _ _ => .source
  | .silence _ _ _ _ _ => .silence
  | .delivery _ _ _ _ _ => .delivery
  | .trip _ _ _ _ _ _ => .trip
  | .clockUnset => .fault
  | .storeFault => .fault
  | .forwardDrop _ _ => .fault
  | .replyLost _ _ => .fault

/-- Queue one item: not when the same item waits already, and not when all 28 places are held (R187). -/
def NoticeUnit.enqueue (it : OutItem) (u : NoticeUnit) : NoticeUnit :=
  if it ∈ u.out ∨ 28 ≤ u.out.length then u else { u with out := u.out ++ [it] }

/-- Queue one NOTICE of a class to each console address (R186). That the addresses are taken in the order of the list is
the model's choice (log 32). -/
def NoticeUnit.enqueueNotices (c : NoticeClass) (console : List Byte) (u : NoticeUnit) : NoticeUnit :=
  console.foldl (fun v a => v.enqueue (.notice c a)) u

/-- Queue one STATUS to each console address (R190), in the order of the list (the model's choice, log 32). -/
def NoticeUnit.enqueueStatuses (console : List Byte) (u : NoticeUnit) : NoticeUnit :=
  console.foldl (fun v a => v.enqueue (.status a)) u

/-- One raising (R186): with the flag clear, the detail is recorded and, if the class is enabled, a NOTICE is
queued to each console address; with the flag set, the further-event count rises. -/
def NoticeUnit.raise (d : Detail) (console : List Byte) (u : NoticeUnit) : NoticeUnit :=
  let c := u.get d.cls
  match c.detail with
  | some _ => u.set d.cls { c with count := satInc c.count }
  | none =>
    let v := u.set d.cls { c with detail := some d }
    if c.enable then v.enqueueNotices d.cls console else v

/-- An item of the outgoing list is a NOTICE of a class. -/
def OutItem.isNotice (c : NoticeClass) : OutItem → Bool
  | .notice d _ => decide (d = c)
  | .status _ => false

/-- Withdraw the queued NOTICEs of a class (R187). -/
def NoticeUnit.withdraw (c : NoticeClass) (u : NoticeUnit) : NoticeUnit :=
  { u with out := u.out.filter (fun it => !it.isNotice c) }

/-- CLEAR NOTICES on one class (R188). -/
def NoticeUnit.clearClass (c : NoticeClass) (u : NoticeUnit) : NoticeUnit :=
  (u.set c { (u.get c) with detail := none, count := 0 }).withdraw c

/-- SET NOTICES on one class (R188). -/
def NoticeUnit.writeEnable (c : NoticeClass) (on : Bool) (console : List Byte) (u : NoticeUnit) : NoticeUnit :=
  let x := u.get c
  let v := u.set c { x with enable := on }
  if !x.enable && on then (if x.flag then v.enqueueNotices c console else v)
  else if x.enable && !on then v.withdraw c
  else v

def Enables.get (e : Enables) : NoticeClass → Bool
  | .stage => e.stage
  | .source => e.source
  | .silence => e.silence
  | .delivery => e.delivery
  | .trip => e.trip
  | .fault => e.fault

/-- The six enables as they stand, for the image of the Table Store (R198). -/
def NoticeUnit.enables (u : NoticeUnit) : Enables :=
  { stage := u.stage.enable, source := u.source.enable, silence := u.silence.enable,
    delivery := u.delivery.enable, trip := u.trip.enable, fault := u.fault.enable }

/-- The notice unit started afresh (R192), its status countdown not yet loaded. -/
def NoticeUnit.fresh (e : Enables) (period : Nat) : NoticeUnit :=
  { stage := ClassState.clear e.stage, source := ClassState.clear e.source,
    silence := ClassState.clear e.silence, delivery := ClassState.clear e.delivery,
    trip := ClassState.clear e.trip, fault := ClassState.clear e.fault,
    period := period, statusCd := none, out := [] }

/-- The status countdown a period loads (R190, R192): none for a period of 0. -/
def loadStatus (period : Nat) : Option Nat :=
  if period = 0 then none else some period

/-- A raising at the part (R186): the notice unit with the console list as it stands. -/
def State.raise (d : Detail) (s : State) : State :=
  { s with notices := s.notices.raise d s.console }

end Sys2Proof.Machine
end

