-- ==== Sys2Proof/Machine/AlertQueue.lean ====
section
/-! DEFINITION. The Dispatch Queue: building, superseding, acknowledging, retiring and rewriting entries
(R122 to R130). -/

namespace Sys2Proof.Machine

/-- A siren record newly made PENDING (R123). -/
def SirenRecord.fresh (a : Byte) : SirenRecord :=
  { addr := a, state := .pending, tries := 0, cd := none }

/-- The content of an entry taken from a zone as it stands (R124). A peak sector that has since become VACANT keeps its
index and gives peak none and fill index 0: the model's choice, R85, R108 and R124 being silent there (log 25). -/
def State.entryFor (z : Nat) (x : Zone) (refresh : Bool) (s : State) : Entry :=
  let p := x.peakSector.bind s.sector
  { zone := z, serial := x.serial, stage := x.stage, causes := x.causes, refresh := refresh,
    peakSector := x.peakSector, peak := p.bind (fun y => y.peak), index := (p.map (fun y => y.index)).getD 0,
    created := s.time.now, records := x.cfg.sirens.map SirenRecord.fresh }

/-- Place an entry in queue order (R122): behind every entry of its stage or higher, before the lower ones. -/
def insertEntry (e : Entry) (q : List Entry) : List Entry :=
  q.takeWhile (fun x => decide (e.stage.num ≤ x.stage.num)) ++
    e :: q.dropWhile (fun x => decide (e.stage.num ≤ x.stage.num))

/-- The queue without a zone's entry. -/
def withoutZone (z : Nat) (q : List Entry) : List Entry :=
  q.filter (fun e => decide (e.zone ≠ z))

/-- The entry of a zone, if any. -/
def entryOf (z : Nat) (q : List Entry) : Option Entry :=
  q.find? (fun e => decide (e.zone = z))

/-- An alert raised (R124, R125): the zone's entry is built, or rewritten with its place recomputed. -/
def State.alertRaised (z : Nat) (s : State) : State :=
  match s.zone z with
  | none => s
  | some x =>
    { s with dispatch := { s.dispatch with
        queue := insertEntry (s.entryFor z x false) (withoutZone z s.dispatch.queue) } }

/-- A refresh due (R116, R124): taken up only when the zone has no entry. -/
def State.refreshDue (z : Nat) (s : State) : State :=
  match entryOf z s.dispatch.queue, s.zone z with
  | none, some x =>
    { s with dispatch := { s.dispatch with
        queue := insertEntry (s.entryFor z x true) s.dispatch.queue } }
  | _, _ => s

/-- The queue without a zone's entry, as CLEAR ZONE leaves it (R119, R130). -/
def State.removeEntry (z : Nat) (s : State) : State :=
  { s with dispatch := { s.dispatch with queue := withoutZone z s.dispatch.queue } }

/-- An entry stays while one of its records is PENDING (R128). -/
def Entry.active (e : Entry) : Bool :=
  e.records.any (fun r => decide (r.state = .pending))

/-- Rewrite the records of a zone's entry and judge it for retirement (R128). -/
def State.updEntry (z : Nat) (f : List SirenRecord → List SirenRecord) (s : State) : State :=
  { s with dispatch := { s.dispatch with
      queue := (s.dispatch.queue.map (fun e => if e.zone = z then { e with records := f e.records } else e)).filter
        (fun e => decide (e.zone ≠ z) || e.active) } }

/-- Change the record of one siren. -/
def updRecord (a : Byte) (f : SirenRecord → SirenRecord) (rs : List SirenRecord) : List SirenRecord :=
  rs.map (fun r => if r.addr = a then f r else r)

/-- A record acknowledged (R127): DELIVERED, its countdown stopped, its tries kept. -/
def SirenRecord.deliver (r : SirenRecord) : SirenRecord :=
  { r with state := .delivered, cd := none }

def State.countStaleAck (s : State) : State :=
  { s with dispatch := { s.dispatch with stale := satInc s.dispatch.stale } }

def State.countMismatchedAck (s : State) : State :=
  { s with dispatch := { s.dispatch with mismatched := satInc s.dispatch.mismatched } }

/-- An ACK taken by the Dispatch Queue (R127): the first line of its table that fits. -/
def State.takeAck (src : Byte) (payload : List Byte) (s : State) : State :=
  match payload with
  | [z, serial, stage] =>
    match entryOf z.toNat s.dispatch.queue with
    | none => s.countStaleAck
    | some e =>
      if e.serial ≠ serial then s.countStaleAck
      else
        match e.records.find? (fun r => decide (r.addr = src)) with
        | none => s.countMismatchedAck
        | some r =>
          if stage.toNat ≠ e.stage.num then s.countMismatchedAck
          else if r.state = .delivered then s
          else s.updEntry z.toNat (updRecord src SirenRecord.deliver)
  | _ => s.countMismatchedAck

/-- The first due record of a list, in siren-list order (R126). -/
def firstDue (rs : List SirenRecord) : Option SirenRecord :=
  rs.find? SirenRecord.due

/-- The entry and record the Dispatch Queue names to the transmitter (R126). -/
def dueRecord (q : List Entry) : Option (Entry × SirenRecord) :=
  q.findSome? (fun e => (firstDue e.records).map (fun r => (e, r)))

/-- The sending of an ALERT (R126): tries rise and the repeat countdown is loaded with the zone's interval. -/
def State.alertSent (z : Nat) (a : Byte) (s : State) : State :=
  let interval := (s.zone z).map (fun x => x.cfg.repeatInterval)
  { s with dispatch := { s.dispatch with
      queue := s.dispatch.queue.map (fun e =>
        if e.zone = z then
          { e with records := updRecord a (fun r => { r with tries := r.tries + 1, cd := interval }) e.records }
        else e) } }

/-- The DELIVERY raising for a record that has become UNREACHED (R126, R130). -/
def Entry.unreachedDetail (e : Entry) (r : SirenRecord) : Detail :=
  .delivery e.zone e.serial e.stage r.addr r.tries

/-- A record brought into line with a tries limit (R130). -/
def SirenRecord.fitLimit (n : Nat) (r : SirenRecord) : SirenRecord :=
  let t := min r.tries n
  match r.state with
  | .delivered => { r with tries := t }
  | .pending =>
    if t = n ∧ r.cd.isNone then { r with tries := t, state := .unreached } else { r with tries := t }
  | .unreached => if t < n then { r with tries := t, state := .pending } else { r with tries := t }

/-- The records of an entry after its zone is written (R130): the new list's order, kept or new records. -/
def followSirens (sirens : List Byte) (rs : List SirenRecord) : List SirenRecord :=
  sirens.map (fun a => (rs.find? (fun r => decide (r.addr = a))).getD (SirenRecord.fresh a))

/-- The records of an entry in flight follow a written zone, with a DELIVERY raising for each that becomes
UNREACHED at once, and the entry is judged for retirement (R130). Several such raisings come in the order of the new siren
list: the model's choice (log 26). -/
def State.followZoneWrite (z : Nat) (cfg : ZoneConfig) (s : State) : State :=
  match entryOf z s.dispatch.queue with
  | none => s
  | some e =>
    let rs := followSirens cfg.sirens e.records
    let fitted := rs.map (SirenRecord.fitLimit cfg.tries)
    let gone := (rs.zip fitted).filterMap (fun p =>
      if p.1.state = .pending ∧ p.2.state = .unreached then some (e.unreachedDetail p.2) else none)
    gone.foldl (fun t d => t.raise d) (s.updEntry z (fun _ => fitted))

/-- A record's repeat countdown has run out (R126): due again below the tries limit, UNREACHED at it. -/
def SirenRecord.judge (limit : Nat) (r : SirenRecord) : SirenRecord :=
  if r.tries < limit then { r with cd := none } else { r with state := .unreached, cd := none }

/-- Contents set within one event stand among themselves in ascending zone order (R122, log 18): the entries
whose content this event set are placed again, lowest zone first, behind those that stood before it. -/
def placeByZone (e : Entry) : List Entry → List Entry
  | [] => [e]
  | x :: xs => if e.zone < x.zone then e :: x :: xs else x :: placeByZone e xs

/-- An entry whose content stood in the queue before the event. -/
def stoodBefore (old : List Entry) (e : Entry) : Bool :=
  old.any (fun x => decide (x.zone = e.zone ∧ x.serial = e.serial))

/-- The queue order after an event (R122, log 18). -/
def orderFresh (old new : List Entry) : List Entry :=
  let kept := new.filter (stoodBefore old)
  let set := (new.filter (fun e => !stoodBefore old e)).foldl (fun l e => placeByZone e l) []
  set.foldl (fun q e => insertEntry e q) kept

end Sys2Proof.Machine
end

