-- ==== Sys2Proof/Machine/Zones.lean ====
section
/-! DEFINITION. Zone stages: evaluation, stage changes, holds, force, refresh (R106 to R121). -/

namespace Sys2Proof.Machine

/-- The listed sectors that contribute to a zone, lowest index first (R108). -/
def contributing (s : State) (listed : List Nat) : List (Nat × Sector) :=
  (List.range 8).filterMap (fun i =>
    match s.sector i with
    | some y => if i ∈ listed ∧ y.cfg.parked = false then some (i, y) else none
    | none => none)

/-- The highest stage among contributing sectors, QUIET when there is none (R108). -/
def computedStage (cs : List (Nat × Sector)) : Stage :=
  cs.foldl (fun m p => m.max p.2.stage) .quiet

/-- The contributing sector of highest stage, the lowest index among equals (R108). -/
def peakSectorOf (cs : List (Nat × Sector)) : Option Nat :=
  (cs.find? (fun p => decide (p.2.stage = computedStage cs))).map (fun p => p.1)

/-- The force stage, QUIET when there is no force (R110). -/
def Zone.forceStage (x : Zone) : Stage :=
  (x.force.map (fun f => f.stage)).getD .quiet

/-- Recompute computed stage, peak sector and target (R108, R110). -/
def Zone.look (cs : List (Nat × Sector)) (x : Zone) : Zone :=
  { x with computed := computedStage cs, peakSector := peakSectorOf cs,
           target := (computedStage cs).max x.forceStage }

/-- The causes of a zone (R109). -/
def Zone.causesFrom (cs : List (Nat × Sector)) (x : Zone) : Causes :=
  let sectors := (cs.filter (fun p => decide (p.2.stage = x.stage))).foldl (fun c p => c.union p.2.causes) Causes.none
  { sectors with
    force := (x.force.map (fun f => decide (x.stage.num ≤ f.stage.num))).getD false
    held := x.hold.isSome }

/-- Recompute the causes (R109). -/
def Zone.recause (cs : List (Nat × Sector)) (x : Zone) : Zone :=
  { x with causes := x.causesFrom cs }

/-- The refresh countdown R116 loads: none at QUIET or with a refresh of 0. -/
def Zone.loadRefresh (x : Zone) : Option Nat :=
  if x.stage = .quiet ∨ x.cfg.refresh = 0 then none else some x.cfg.refresh

/-- Serial, undispatched changes and refresh at a change of stage (R111 steps 1 and 4, R117). -/
def Zone.numberChange (watching : Bool) (x : Zone) : Zone :=
  if watching then { x with serial := x.serial + 1, refreshCd := x.loadRefresh }
  else { x with undispatched := satInc x.undispatched }

/-- A change of a zone's stage to that of `x` from an old stage, handled (R111). -/
def State.stageChanged (z : Nat) (old : Stage) (endOfHold : Bool) (x : Zone) (s : State) : State :=
  let watching := decide (s.mode = .watching)
  let y := x.numberChange watching
  let t := (s.setZone z (some y)).raise (.stage z old y.stage y.serial y.causes y.peakSector endOfHold)
  if watching then t.alertRaised z else t

/-- The evaluation of a loaded zone (R110): the four cases of its table. -/
def State.evaluateZone (z : Nat) (s : State) : State :=
  match s.zone z with
  | none => s
  | some x =>
    let cs := contributing s x.cfg.sectors
    let y := x.look cs
    if y.stage.num < y.target.num then
      s.stageChanged z x.stage false (({ y with stage := y.target, hold := none } : Zone).recause cs)
    else if y.target.num = y.stage.num then
      s.setZone z (some (({ y with hold := none } : Zone).recause cs))
    else
      s.setZone z (some (({ y with hold := some (y.hold.getD y.cfg.holdDown) } : Zone).recause cs))

/-- The end of a hold (R112). -/
def State.holdEnds (z : Nat) (s : State) : State :=
  match s.zone z with
  | none => s
  | some x =>
    let cs := contributing s x.cfg.sectors
    let y := ({ x with hold := none } : Zone).look cs
    s.stageChanged z x.stage true (({ y with stage := y.target } : Zone).recause cs)

/-- Set or end a zone's force and evaluate the zone (R114). -/
def State.setForce (z : Nat) (f : Option Force) (s : State) : State :=
  match s.zone z with
  | none => s
  | some x => (s.setZone z (some { x with force := f })).evaluateZone z

/-- The running out of a refresh countdown (R116): loaded again, and a refresh due handed on. -/
def State.refreshRunsOut (z : Nat) (s : State) : State :=
  match s.zone z with
  | none => s
  | some x => (s.setZone z (some { x with refreshCd := some x.cfg.refresh })).refreshDue z

/-- An announcement of GO WATCH (R117): a zone above QUIET takes a new serial, alert and refresh. -/
def State.announce (z : Nat) (s : State) : State :=
  match s.zone z with
  | none => s
  | some x =>
    if x.stage = .quiet then s
    else (s.setZone z (some { x with serial := x.serial + 1, refreshCd := x.loadRefresh })).alertRaised z

/-- A zone loaded afresh, not yet evaluated (R118, R120). -/
def Zone.fresh (cfg : ZoneConfig) : Zone :=
  { cfg := cfg, stage := .quiet, computed := .quiet, force := none, target := .quiet, hold := none, serial := 0,
    causes := Causes.none, peakSector := none, refreshCd := none, undispatched := 0 }

/-- A zone's part in a minute event (R113, log 4): its running countdowns fall, and their runnings out wait. -/
def Zone.minute (x : Zone) : Zone :=
  { x with force := x.force.map (fun f => { f with left := f.left - 1 }), hold := fall x.hold,
           refreshCd := fall x.refreshCd }

/-- A zone at RESTART (R121): a running hold is loaded afresh. -/
def Zone.restart (x : Zone) : Zone :=
  { x with hold := x.hold.map (fun _ => x.cfg.holdDown) }

/-- A sector change (R82): every loaded zone that lists the sector is evaluated, ascending (log 9). -/
def State.sectorChange (i : Nat) (s : State) : State :=
  eachBelow 12 (fun z t =>
    match t.zone z with
    | some x => if i ∈ x.cfg.sectors then t.evaluateZone z else t
    | none => t) s

/-- LOAD ZONE on the tables (R118, R130): written, records in flight follow, evaluated, refresh loaded. -/
def State.writeZone (z : Nat) (cfg : ZoneConfig) (s : State) : State :=
  let x := match s.zone z with
    | none => Zone.fresh cfg
    | some old => { old with cfg := cfg }
  let t := ((s.setZone z (some x)).followZoneWrite z cfg).evaluateZone z
  match t.zone z with
  | none => t
  | some y => t.setZone z (some { y with refreshCd := if t.mode = .watching then y.loadRefresh else none })

/-- CLEAR ZONE on the tables (R119). -/
def State.clearZoneEntry (z : Nat) (s : State) : State :=
  (s.setZone z none).removeEntry z

/-- FORCE_EXPIRY is outstanding at a zone (R113, log 4). -/
def Zone.forceOut (x : Zone) : Bool :=
  decide (x.force.map (fun f => f.left) = some 0)

end Sys2Proof.Machine
end

