-- ==== Sys2Proof/Machine/Sectors.lean ====
section
/-! DEFINITION. Sector assessment, surge windows and trip wires (R66 to R105). -/

namespace Sys2Proof.Machine

/-! ## Level, peak and blindness (R69 to R75) -/

/-- The lane indices of a sector's range (R66). -/
def SectorConfig.range (c : SectorConfig) : List Nat :=
  List.range' c.first c.count

/-- The valid lanes of some indices with their fills, lowest index first (R49, R69). -/
def validFills (s : State) (range : List Nat) : List (Nat × Nat) :=
  range.filterMap (fun i => (s.lane i).bind (fun l => if l.valid then some (i, l.fill.getD 0) else none))

/-- The lanes whose fill exceeds a threshold (R69 step 2). -/
def exceeding (t : Nat) (fills : List (Nat × Nat)) : List Nat :=
  (fills.filter (fun p => decide (t < p.2))).map (fun p => p.1)

/-- The three masks for three thresholds (R69 step 2). -/
def masksFor (t : Thresholds) (fills : List (Nat × Nat)) : Masks :=
  { watch := exceeding t.watch fills, prepare := exceeding t.prepare fills, evacuate := exceeding t.evacuate fills }

/-- The peak lane: greatest fill, lowest index among equals (R72). -/
def peakOf (fills : List (Nat × Nat)) : Option Peak :=
  fills.foldl (fun best p =>
    match best with
    | none => some { lane := p.1, fill := p.2 }
    | some b => if b.fill < p.2 then some { lane := p.1, fill := p.2 } else some b) none

/-- The fill index: the saturating sum of the fills (R72). -/
def fillIndex (fills : List (Nat × Nat)) : Nat :=
  fills.foldl (fun n p => satAdd n p.2) 0

/-- The highest stage no higher than `top` whose mask holds quorum lanes, QUIET when none does (R70). -/
def quorumStage (q : Nat) (m : Masks) (top : Stage) : Stage :=
  if 3 ≤ top.num ∧ q ≤ m.evacuate.length then .evacuate
  else if 2 ≤ top.num ∧ q ≤ m.prepare.length then .prepare
  else if 1 ≤ top.num ∧ q ≤ m.watch.length then .watch
  else .quiet

/-- The level by R70: the higher of up and hold. -/
def levelFrom (q : Nat) (rise hold : Masks) (current : Stage) : Stage :=
  (quorumStage q rise .evacuate).max (quorumStage q hold current)

/-- The blind countdown of step 4 (R73). -/
def blindStep (delay : Nat) (quorate blind : Bool) (cd : Option Nat) : Option Nat :=
  if quorate then none else if blind then none else some (cd.getD delay)

/-- A lane update at a loaded, unparked sector, steps 1 to 6 of R69, with the fills of its valid lanes. -/
def Sector.takeFills (fills : List (Nat × Nat)) (x : Sector) : Sector :=
  let rise := masksFor x.cfg.rise fills
  let hold := masksFor x.cfg.fall fills
  let quorate := decide (x.cfg.quorum ≤ fills.length)
  { x with
    valid := fills.length
    rise := rise
    hold := hold
    peak := peakOf fills
    index := fillIndex fills
    blindCd := blindStep x.cfg.blindDelay quorate x.blind x.blindCd
    blind := x.blind && !quorate
    level := if quorate then levelFrom x.cfg.quorum rise hold x.level else x.level }

/-- A lane update taken whole, stage and causes included (R69). -/
def Sector.laneUpdate (s : State) (x : Sector) : Sector :=
  (x.takeFills (validFills s x.cfg.range)).restage

/-- The running out of the blind countdown (R74). -/
def Sector.goBlind (x : Sector) : Sector :=
  ({ x with blind := true, blindCd := none } : Sector).restage

/-! ## Minute ring and RAPID (R77, R78) -/

/-- The entry a minute event pushes: GAP (none) or the fill index (R77). -/
def Sector.ringEntry (x : Sector) : Option Nat :=
  if x.blind || x.blindCd.isSome then none else some x.index

/-- The rise over the span, none when it is not evaluated (R78). -/
def ringRise (span : Nat) (ring : List (Option Nat)) : Option Nat :=
  if span < ring.length ∧ (ring.take (span + 1)).all Option.isSome then
    some ((ring.head?.join).getD 0 - (ring[span]?.join).getD 0)
  else none

/-- The push and the measurement of a minute event at a loaded, unparked sector (R77, R78). -/
def Sector.minute (x : Sector) : Sector :=
  let ring := (x.ringEntry :: x.ring).take 16
  match ringRise x.cfg.rapidSpan ring with
  | none => ({ x with ring := ring } : Sector).restage
  | some r => ({ x with ring := ring, lastRise := some r, rapid := decide (x.cfg.rapidLimit ≤ r) } : Sector).restage

/-! ## Surge windows (R91 to R94) -/

/-- The sum of the newest span bins, saturating (R94). -/
def windowOf (span : Nat) (bins : List Nat) : Nat :=
  (bins.take span).foldl satAdd 0

/-- The window and SURGE evaluated (R94). -/
def Sector.evalSurge (x : Sector) : Sector :=
  let w := windowOf x.cfg.surgeSpan x.bins
  { x with window := w, surge := decide (x.cfg.surgeLimit < w) || (x.surge && decide (x.cfg.surgeRelease < w)) }

/-- A count added into bin 0 (R92); a channel not reported adds nothing. -/
def addToBin (count : Option Nat) (bins : List Nat) : List Nat :=
  match bins with
  | [] => []
  | b :: rest => satAdd b (count.getD 0) :: rest

/-- A pulse report at a sector that links it (R92). -/
def Sector.pulse (count : Option Nat) (x : Sector) : Sector :=
  (({ x with bins := addToBin count x.bins } : Sector).evalSurge).restage

/-- The advance of the bin ring (R93). -/
def Sector.advanceBin (x : Sector) : Sector :=
  (({ x with bins := (0 :: x.bins).take 12, binCd := some x.cfg.binLength } : Sector).evalSurge).restage

/-! ## Trip wires (R97 to R102) -/

/-- What a trip link reads (R97). -/
inductive LinkReading
  | intact
  | cut
  | fault
  | silent
  | parked
  | unusable
  | awaiting
deriving DecidableEq, Repr

/-- A wire state as a reading (R97). -/
def WireState.reading : WireState → LinkReading
  | .intact => .intact
  | .cut => .cut
  | .fault => .fault

/-- The reading of a wire in a LIVE monitor (R97): from its last contents, AWAITING when it holds none. -/
def wireReading (count wire : Nat) (contents : Option Contents) : LinkReading :=
  match contents with
  | none => .awaiting
  | some (.trip ws) => if wire < count then ((ws[wire]?).map WireState.reading).getD .fault else .fault
  | some _ => .fault

/-- What a trip link reads from its station entry as it stands (R97). -/
def readLink (s : State) (k : TripLink) : LinkReading :=
  match s.station k.station with
  | none => .unusable
  | some x =>
    match x.cfg.cls with
    | .trip count =>
      match x.live with
      | .parked => .parked
      | .silent => .silent
      | .absent => .awaiting
      | .live => wireReading count k.wire x.contents
    | _ => .unusable

/-- A reading is sound (R97). -/
def LinkReading.sound : LinkReading → Bool
  | .intact => true
  | .cut => true
  | _ => false

/-- A reading is faulty (R97). -/
def LinkReading.faulty : LinkReading → Bool
  | .fault => true
  | .silent => true
  | .parked => true
  | .unusable => true
  | _ => false

/-- TRIP FAULT evaluated from the readings of every link (R98). -/
def tripFaultFrom (readings : List LinkReading) (held : Bool) : Bool :=
  if readings.any LinkReading.faulty then true
  else if readings.all LinkReading.sound then false
  else held

/-- The evaluation of TRIP FAULT at a sector (R98). -/
def Sector.evalTripFault (s : State) (x : Sector) : Sector :=
  { x with tripFault := tripFaultFrom (x.cfg.trips.map (readLink s)) x.tripFault }

/-- The lowest link that a trip report from a station gives CUT (R99 step 1). -/
def cutLink (station : Nat) (wires : List WireState) (trips : List TripLink) : Option (Nat × TripLink) :=
  (trips.zipIdx.find? (fun p => decide (p.1.station = station ∧ wires[p.1.wire]? = some .cut))).map
    (fun p => (p.2, p.1))

/-- The record a trip report makes at a sector whose latch is clear (R99 step 1). -/
def newTrip (station : Nat) (addr : Byte) (now : TimeStamp) (wires : List WireState) (x : Sector) : Option TripRecord :=
  if x.trip.isSome then none
  else (cutLink station wires x.cfg.trips).map
    (fun p => { link := p.1, station := station, addr := addr, wire := p.2.wire, time := now })

/-- The detail of a TRIP notice (R100). -/
def TripRecord.detail (sector : Nat) (r : TripRecord) : Detail :=
  .trip sector r.link r.station r.addr r.wire r.time

/-! ## Starting afresh, parking (R68, R86, R104) -/

/-- The starting values of a sector (R68 first step, R91, R104), with the latch as given. -/
def Sector.start (s : State) (cfg : SectorConfig) (trip : Option TripRecord) : Sector :=
  { cfg := cfg, valid := 0, rise := Masks.empty, hold := Masks.empty, level := .quiet, peak := none, index := 0,
    blindCd := some cfg.blindDelay, blind := false, ring := [], lastRise := none, rapid := false,
    bins := if cfg.pulse.isSome then List.replicate 12 0 else [],
    binCd := if cfg.pulse.isSome then some cfg.binLength else none,
    window := 0, surge := false,
    tripFault := (cfg.trips.map (readLink s)).any LinkReading.faulty,
    trip := trip, stage := .quiet, causes := Causes.none }

/-- A sector started afresh: the starting values and the evaluation of its lanes (R68). -/
def Sector.afresh (s : State) (cfg : SectorConfig) (trip : Option TripRecord) : Sector :=
  (Sector.start s cfg trip).laneUpdate s

/-- A parked sector (R86). -/
def Sector.parkedFrom (cfg : SectorConfig) : Sector :=
  { cfg := { cfg with parked := true }, valid := 0, rise := Masks.empty, hold := Masks.empty, level := .quiet,
    peak := none, index := 0, blindCd := none, blind := false, ring := [], lastRise := none, rapid := false,
    bins := [], binCd := none, window := 0, surge := false, tripFault := false, trip := none,
    stage := .quiet, causes := Causes.none }

/-! ## Sectors in the part -/

/-- Stage and causes as the zones see them: a VACANT sector counts as QUIET with no causes (R68, R85). -/
def sectorView (x : Option Sector) : Stage × Causes :=
  match x with
  | none => (.quiet, Causes.none)
  | some y => (y.stage, y.causes)

/-- Write a sector and hand a sector change if its stage or causes differ (R82). -/
def State.putSector (i : Nat) (x : Option Sector) (s : State) : State :=
  if sectorView x = sectorView (s.sector i) then s.setSector i x else (s.setSector i x).sectorChange i

/-- Change a loaded, unparked sector, handing on its change (R82). -/
def State.updSector (i : Nat) (f : Sector → Sector) (s : State) : State :=
  match s.sector i with
  | none => s
  | some x => if x.cfg.parked then s else s.putSector i (some (f x))

/-- A lane update handed to a sector (R69); a parked sector takes it without effect (R86). -/
def State.laneUpdate (i : Nat) (s : State) : State :=
  s.updSector i (Sector.laneUpdate s)

/-- Lane updates to the sectors whose ranges hold a changed lane, ascending (R61, log 9). -/
def State.laneUpdates (changed : List Nat) (s : State) : State :=
  eachBelow 8 (fun i t =>
    match t.sector i with
    | some x => if changed.any (fun l => x.cfg.range.contains l) then t.laneUpdate i else t
    | none => t) s

/-- A station hand-off at the trip logic: TRIP FAULT evaluated where a link names the station (R98). -/
def State.tripHandoff (station : Nat) (s : State) : State :=
  eachBelow 8 (fun i t => t.updSector i (fun x =>
    if x.cfg.trips.any (fun k => decide (k.station = station)) then (x.evalTripFault t).restage else x)) s

/-- A pulse report from a station (R92): the sectors that link it, ascending. -/
def State.pulseReport (station : Nat) (counts : List (Option Nat)) (s : State) : State :=
  eachBelow 8 (fun i t => t.updSector i (fun x =>
    match x.cfg.pulse with
    | some p => if p.station = station then x.pulse ((counts[p.channel]?).join) else x
    | none => x)) s

/-- A trip report at one sector (R99): the latch with its notice, TRIP FAULT, the stage. -/
def State.tripAt (station : Nat) (addr : Byte) (wires : List WireState) (i : Nat) (s : State) : State :=
  match s.sector i with
  | none => s
  | some x =>
    if x.cfg.parked || !x.cfg.trips.any (fun k => decide (k.station = station)) then s
    else
      match newTrip station addr s.time.now wires x with
      | none => s.updSector i (fun y => (y.evalTripFault s).restage)
      | some r => (s.raise (r.detail i)).updSector i
          (fun y => (({ y with trip := some r } : Sector).evalTripFault s).restage)

/-- A trip report from a station (R99): the sectors that link it, ascending. -/
def State.tripReport (station : Nat) (addr : Byte) (wires : List WireState) (s : State) : State :=
  eachBelow 8 (fun i t => t.tripAt station addr wires i) s

/-- CLEAR TRIP on the tables (R102). -/
def State.clearLatch (i : Nat) (s : State) : State :=
  match s.sector i with
  | none => s
  | some x => if x.trip.isSome then s.putSector i (some (({ x with trip := none } : Sector).restage)) else s

/-- A minute event at one sector (R77, R78). -/
def State.sectorMinute (i : Nat) (s : State) : State :=
  s.updSector i Sector.minute

/-- A sector's second-paced countdowns fall (R23). -/
def Sector.second (x : Sector) : Sector :=
  { x with blindCd := fall x.blindCd, binCd := fall x.binCd }

end Sys2Proof.Machine
end

