-- ==== Sys2Proof/Machine/Lanes.lean ====
section
/-! DEFINITION. The Lane Map: candidates, tracking, reselection and its hand-offs (R47 to R65). -/

namespace Sys2Proof.Machine

/-- The clearance value that means no echo (R36). -/
def noEcho : Nat := 65535

/-- The value a station's last sweep gives at a lane index, none for no echo (R36). -/
def Station.sweepValue (x : Station) (i : Nat) : Option Nat :=
  match x.cfg.cls, x.contents with
  | .sweep n, some (.sweep vs) =>
    if i < n then (vs[i]?).bind (fun v => if v = noEcho then none else some v) else none
  | _, _ => none

/-- The value of a candidate, none when it is not usable now (R50). -/
def usableValue (s : State) (c : Candidate) : Option Nat :=
  match s.station c.station with
  | none => none
  | some x => if x.live = .live ∧ x.cfg.parked = false then x.sweepValue c.sweepLane else none

/-- The last-heard time of a candidate's station. -/
def heardAt (s : State) (c : Candidate) : Option TimeStamp :=
  (s.station c.station).bind (fun x => x.lastHeard)

/-- A lane takes a value from the candidate of a rank (R48, R49). -/
def Lane.take (r v : Nat) (heard : Option TimeStamp) (l : Lane) : Lane :=
  { l with tracked := some r, clearance := some v, fill := some (l.cfg.datum - v), valueTime := heard, loss := 0,
           credits := l.credits.set r 0 }

/-- The first rank, in order, whose candidate satisfies a test. -/
def Lane.firstRank (l : Lane) (p : Nat → Candidate → Bool) : Option (Nat × Candidate) :=
  ((l.cfg.cands.zipIdx).find? (fun q => p q.2 q.1)).map (fun q => (q.2, q.1))

/-- Reselection (R57). -/
def Lane.reselect (s : State) (l : Lane) : Lane :=
  match l.firstRank (fun _ c => (usableValue s c).isSome) with
  | some (r, c) => l.take r ((usableValue s c).getD 0) (heardAt s c)
  | none => { l with tracked := none, loss := 0 }

/-- A lane's progress through one event: the lane, whether it has changed (R61), and the reason for R62. -/
structure LaneStep where
  lane : Lane
  changed : Bool
  reason : SourceReason
deriving DecidableEq, Repr

/-- The candidate a lane is tracking. -/
def Lane.trackedCandidate (l : Lane) : Option Candidate :=
  l.tracked.bind (fun r => l.cfg.cands[r]?)

/-- The lane tracks a candidate at a station. -/
def Lane.tracksAt (station : Nat) (l : Lane) : Bool :=
  decide (l.trackedCandidate.map (fun c => c.station) = some station)

/-- Step 1 of a sweep arrival (R52): the credits of the untracked candidates at the station. -/
def Lane.updateCredits (s : State) (station : Nat) (l : Lane) : Lane :=
  { l with credits := (l.credits.zip l.cfg.cands).zipIdx.map (fun q =>
      if q.1.2.station = station ∧ l.tracked ≠ some q.2 then
        (if (usableValue s q.1.2).isSome then min (q.1.1 + 1) l.cfg.restoreCount else 0)
      else q.1.1) }

/-- Step 2 of a sweep arrival (R53, R54). -/
def Lane.takeOrLose (s : State) (station : Nat) (l : Lane) : LaneStep :=
  match l.tracked, l.trackedCandidate with
  | some r, some c =>
    if c.station ≠ station then { lane := l, changed := false, reason := .found }
    else
      match usableValue s c with
      | some v => { lane := l.take r v (heardAt s c), changed := true, reason := .found }
      | none =>
        if l.loss + 1 < l.cfg.lossLimit then
          { lane := { l with loss := l.loss + 1 }, changed := false, reason := .found }
        else
          { lane := Lane.reselect s { l with loss := 0, credits := l.credits.set r 0 },
            changed := true, reason := .echoLoss }
  | _, _ => { lane := l, changed := false, reason := .found }

/-- Step 3 of a sweep arrival (R55): a better-ranked candidate whose credit stands at the restore count. -/
def LaneStep.restore (s : State) (station : Nat) (w : LaneStep) : LaneStep :=
  match w.lane.tracked with
  | none => w
  | some r =>
    match w.lane.firstRank (fun q c => decide (q < r ∧ c.station = station ∧
        w.lane.credits[q]? = some w.lane.cfg.restoreCount) && (usableValue s c).isSome) with
    | none => w
    | some (q, c) =>
      { lane := w.lane.take q ((usableValue s c).getD 0) (heardAt s c), changed := true, reason := .restore }

/-- Step 4 of a sweep arrival (R56): a SEEKING lane takes up the best-ranked good candidate at the station. -/
def LaneStep.takeUp (s : State) (station : Nat) (w : LaneStep) : LaneStep :=
  match w.lane.tracked with
  | some _ => w
  | none =>
    match w.lane.firstRank (fun _ c => decide (c.station = station) && (usableValue s c).isSome) with
    | none => w
    | some (q, c) =>
      { lane := w.lane.take q ((usableValue s c).getD 0) (heardAt s c), changed := true, reason := .found }

/-- A lane has a candidate at a station. -/
def Lane.concerns (station : Nat) (l : Lane) : Bool :=
  l.cfg.cands.any (fun c => decide (c.station = station))

/-- A sweep arrival at one lane (R51). -/
def Lane.settleSweep (s : State) (station : Nat) (l : Lane) : LaneStep :=
  ((((l.updateCredits s station).takeOrLose s station).restore s station).takeUp s station)

/-- A station silent or withdrawn hand-off at one lane (R58, R59). -/
def Lane.settleGone (s : State) (station : Nat) (why : SourceReason) (l : Lane) : LaneStep :=
  let m := { l with credits := (l.credits.zip l.cfg.cands).map (fun q => if q.2.station = station then 0 else q.1) }
  if l.tracksAt station then { lane := m.reselect s, changed := true, reason := why }
  else { lane := m, changed := false, reason := why }

/-- The SOURCE raising of one settled lane, none when its tracked rank stands (R62). -/
def sourceDetail (i : Nat) (old : Lane) (w : LaneStep) : Option Detail :=
  if old.tracked = w.lane.tracked then none
  else
    let c := w.lane.trackedCandidate
    some (.source i old.tracked w.lane.tracked (c.map (fun c => c.station)) (c.map (fun c => c.sweepLane)) w.reason)

/-- The lanes concerned by an event at a station, with how each is settled. -/
def settledLanes (s : State) (station : Nat) (f : Lane → LaneStep) : List (Nat × Lane × LaneStep) :=
  (List.range 32).filterMap (fun i => (s.lane i).bind (fun l =>
    if l.concerns station then some (i, l, f l) else none))

/-- One event at the Lane Map (R51, R58, R59): every lane concerned is settled, then the lane updates and then
the SOURCE notices are handed on, ascending. -/
def State.laneEvent (station : Nat) (f : Lane → LaneStep) (s : State) : State :=
  let ws := settledLanes s station f
  let t := ws.foldl (fun u w => u.setLane w.1 (some w.2.2.lane)) s
  let t := t.laneUpdates ((ws.filter (fun w => w.2.2.changed)).map (fun w => w.1))
  (ws.filterMap (fun w => sourceDetail w.1 w.2.1 w.2.2)).foldl (fun u d => u.raise d) t

/-- A sweep arrival (R51). -/
def State.sweepArrival (station : Nat) (s : State) : State :=
  s.laneEvent station (Lane.settleSweep s station)

/-- A station silent hand-off at the Lane Map (R58). -/
def State.lanesSilent (station : Nat) (s : State) : State :=
  s.laneEvent station (Lane.settleGone s station .silent)

/-- A station withdrawn hand-off at the Lane Map (R59). -/
def State.lanesWithdrawn (station : Nat) (s : State) : State :=
  s.laneEvent station (Lane.settleGone s station .withdrawn)

/-- A lane started afresh (R48). -/
def Lane.fresh (cfg : LaneConfig) : Lane :=
  { cfg := cfg, tracked := none, clearance := none, fill := none, valueTime := none, loss := 0,
    credits := cfg.cands.map (fun _ => 0) }

/-- The SOURCE raising of a lane that is written or cleared while TRACKING (R63, R64). -/
def State.lostSource (i : Nat) (old : Option Lane) (why : SourceReason) (s : State) : State :=
  match old.bind (fun l => l.tracked) with
  | none => s
  | some r => s.raise (.source i (some r) none none none why)

/-- LOAD LANE on the tables (R63). -/
def State.writeLane (i : Nat) (cfg : LaneConfig) (s : State) : State :=
  ((s.setLane i (some (Lane.fresh cfg))).laneUpdates [i]).lostSource i (s.lane i) .reloaded

/-- CLEAR LANE on the tables (R64). -/
def State.clearLaneEntry (i : Nat) (s : State) : State :=
  match s.lane i with
  | none => s
  | some l => ((s.setLane i none).laneUpdates [i]).lostSource i (some l) .cleared

end Sys2Proof.Machine
end

