-- ==== Sys2Proof/Machine/Frames.lean ====
section
/-! DEFINITION. The frame on the line, its check code, the receiver and the encodings of R204 (R2 to R4, R203). -/

namespace Sys2Proof.Machine

/-! ## Encodings (R203, R204) -/

/-- One byte of a value. -/
def byteOf (n : Nat) : Byte :=
  BitVec.ofNat 8 n

/-- A field of two bytes, most significant byte first (R203). -/
def be16 (n : Nat) : List Byte :=
  [byteOf (n / 256), byteOf n]

/-- The value of two bytes, most significant first. -/
def word16 (h l : Byte) : Nat :=
  h.toNat * 256 + l.toNat

/-- A yes or no, set or clear field: one byte, 1 or 0. R204 has no row for it; where no table of R205 to R207 gives the
byte, it is the model's choice (log 17). -/
def boolByte (b : Bool) : Byte :=
  if b then 1 else 0

/-- An index, rank, station, lane or sector that may be none: 0xFF for none (R204). -/
def optByte (n : Option Nat) : Byte :=
  (n.map byteOf).getD 0xFF

/-- A two-byte quantity that stops below 65535, or a countdown: 0xFFFF for none or not running (R204). -/
def optWord (n : Option Nat) : List Byte :=
  be16 (n.getD 0xFFFF)

/-- A quantity that reaches 65535: a presence byte and the value (R204). -/
def flaggedWord (n : Option Nat) : List Byte :=
  boolByte n.isSome :: be16 (n.getD 0)

/-- A SEQ or serial that may be none: a presence byte and the value (R204). -/
def flaggedByte (b : Option Byte) : List Byte :=
  [boolByte b.isSome, b.getD 0]

/-- A list whose length varies: a count byte and the entries (R204). -/
def counted {α : Type} (enc : α → List Byte) (xs : List α) : List Byte :=
  byteOf xs.length :: xs.flatMap enc

/-- A set of bit numbers as one byte. -/
def setByte (bits : List Nat) : Byte :=
  bits.foldl (fun b i => b ||| ((1 : Byte) <<< i)) 0

/-- The causes byte (R204). -/
def Causes.byte (c : Causes) : Byte :=
  setByte ((List.range 8).filter (fun i =>
    [c.level, c.blind, c.rapid, c.surge, c.tripFault, c.trip, c.force, c.held].getD i false))

def Stage.byte (st : Stage) : Byte :=
  byteOf st.num

/-- The mode byte (R204). -/
def Mode.byte : Mode → Byte
  | .blank => 0
  | .commissioning => 1
  | .watching => 2

/-- A captured time: seven bytes, the last a flag byte (R204). -/
def TimeStamp.bytes (t : TimeStamp) : List Byte :=
  be16 t.day ++ [byteOf t.hour, byteOf t.minute, byteOf t.second, byteOf t.tenth, boolByte t.unset]

/-- A captured time that may be none: bit 7 of the flag byte marks it (R204). -/
def timeBytes (t : Option TimeStamp) : List Byte :=
  (t.map TimeStamp.bytes).getD [0, 0, 0, 0, 0, 0, 0x80]

/-- The station state byte (R204). -/
def Liveness.byte : Liveness → Byte
  | .absent => 0
  | .live => 1
  | .silent => 2
  | .parked => 3

/-- The delivery state byte (R204). -/
def Delivery.byte : Delivery → Byte
  | .pending => 0
  | .delivered => 1
  | .unreached => 2

/-! ## Kinds (R203) -/

def kindSample : Byte := 0x11
def kindPulse : Byte := 0x12
def kindTrip : Byte := 0x13
def kindCommand : Byte := 0x20
def kindReply : Byte := 0x21
def kindNotice : Byte := 0x22
def kindStatus : Byte := 0x23
def kindAlert : Byte := 0x30
def kindAck : Byte := 0x31

/-- The SYNC byte (R203). -/
def syncByte : Byte := 0xD7

/-! ## The check code (R2) -/

/-- One step of the polynomial x^16+x^12+x^5+1. -/
def crcBit (c : Word) : Word :=
  if c.msb then (c <<< 1) ^^^ 0x1021 else c <<< 1

/-- One byte enters the register most significant bit first (R203). -/
def crcByte (c : Word) (b : Byte) : Word :=
  let x := c ^^^ ((b.zeroExtend 16) <<< 8)
  crcBit (crcBit (crcBit (crcBit (crcBit (crcBit (crcBit (crcBit x)))))))

/-- The check code of some bytes (R2). -/
def crc16 (bs : List Byte) : Word :=
  bs.foldl crcByte 0xFFFF

/-! ## The frame (R203) -/

/-- LEN: the number of bytes from DST through the last payload byte. -/
def frameLen (f : Frame) : Byte :=
  byteOf (f.payload.length + 4)

/-- The bytes from DST through the last payload byte. -/
def frameBody (f : Frame) : List Byte :=
  f.dst :: f.src :: f.kind :: f.seq :: f.payload

/-- The check code a frame ought to carry. -/
def frameCrc (f : Frame) : Word :=
  crc16 (frameLen f :: frameBody f)

/-- The characters of a frame on the line, SYNC to the second CRC byte. -/
def frameWire (f : Frame) : List Byte :=
  syncByte :: frameLen f :: (frameBody f ++ be16 f.crc.toNat)

/-- A frame the part originates (R2). -/
def composeFrame (dst src kind seq : Byte) (payload : List Byte) : Frame :=
  let f : Frame := { dst := dst, src := src, kind := kind, seq := seq, payload := payload, crc := 0 }
  { f with crc := frameCrc f }

/-! ## The receiver (R3, R4) -/

/-- What one character brings about at a receiver. -/
inductive RxEvent
  | nothing
  | oversize
  | crcError
  | good (frame : Frame)
deriving DecidableEq, Repr

/-- The frame in stored body bytes. -/
def frameOf (got : List Byte) (crc : Word) : Option Frame :=
  match got with
  | d :: s :: k :: q :: p => some { dst := d, src := s, kind := k, seq := q, payload := p, crc := crc }
  | _ => none

/-- The check made when the second CRC byte has arrived (R4). -/
def judgeFrame (len : Byte) (got : List Byte) (crc : Word) : RxEvent :=
  if crc16 (len :: got) = crc then
    match frameOf got crc with
    | some f => .good f
    | none => .crcError
  else .crcError

/-- One character at a receiver (R3, R4). -/
def rxStep (r : Receiver) (b : Byte) : Receiver × RxEvent :=
  match r with
  | .hunt => if b = syncByte then (.length, .nothing) else (.hunt, .nothing)
  | .length => if inRange 4 60 b.toNat then (.body b [] b.toNat, .nothing) else (.hunt, .oversize)
  | .body len got left =>
    if left ≤ 1 then (.check len (got ++ [b]) none, .nothing) else (.body len (got ++ [b]) (left - 1), .nothing)
  | .check len got none => (.check len got (some b), .nothing)
  | .check len got (some h) => (.hunt, judgeFrame len got (h ++ b))

/-- A frame is in progress: the receiver is in LENGTH, BODY or CHECK (R5). -/
def Receiver.busy : Receiver → Bool
  | .hunt => false
  | _ => true

end Sys2Proof.Machine
end

