-- ==== Sys2Proof/Machine/Queues.lean ====
section
/-! DEFINITION. The valley forward queue and the crest-ward queues (R14, R15). -/

namespace Sys2Proof.Machine

/-- A FAULT raising of FORWARD DROP with its count (R15, R189). -/
def State.forwardDropped (f : Frame) (s : State) : State :=
  ({ s with valley := { s.valley with forwardDrop := satInc s.valley.forwardDrop } }).raise (.forwardDrop f.src f.kind)

/-- A frame is a SAMPLE (R15). -/
def isSample (f : Frame) : Bool :=
  decide (f.kind = kindSample)

/-- A frame joins the valley forward queue, which sheds its oldest SAMPLE, or the arriving frame, when it
holds 32 (R15). -/
def State.appendForward (f : Frame) (s : State) : State :=
  if s.valley.forward.length < 32 then
    { s with valley := { s.valley with forward := s.valley.forward ++ [f] } }
  else
    match s.valley.forward.find? isSample with
    | some old =>
      ({ s with valley := { s.valley with forward := s.valley.forward.eraseP isSample ++ [f] } }).forwardDropped old
    | none => s.forwardDropped f

/-- A frame joins a crest-ward queue, or is dropped and counted when it holds 8 (R14). -/
def CrestPort.append (f : Frame) (c : CrestPort) : CrestPort :=
  if c.queue.length < 8 then { c with queue := c.queue ++ [f] } else { c with crestDrop := satInc c.crestDrop }

/-- A frame is forwarded crest-ward on one side (R14). -/
def State.appendCrest (d : Side) (f : Frame) (s : State) : State :=
  s.updCrest d (CrestPort.append f)

/-- A copy of a frame to each crest-ward queue (R13, R14). -/
def State.appendBoth (f : Frame) (s : State) : State :=
  (s.appendCrest .a f).appendCrest .b f

end Sys2Proof.Machine
end

