-- ==== Sys2Proof/Machine/Stations.lean ====
section
/-! DEFINITION. The Station Table: payloads, sequence filter, accepted frames, hand-offs (R30 to R46). -/

namespace Sys2Proof.Machine

/-! ## Payloads (R36 to R38) -/

/-- Two-byte values of a payload, most significant byte first. -/
def words : List Byte → List Nat
  | h :: l :: rest => word16 h l :: words rest
  | _ => []

/-- A SAMPLE payload, none when malformed (R36). -/
def readSweep (p : List Byte) : Option Contents :=
  match p with
  | n :: rest => if inRange 1 8 n.toNat && decide (rest.length = 2 * n.toNat) then some (.sweep (words rest)) else none
  | [] => none

/-- A PULSE payload for a number of configured channels, none when malformed (R37). -/
def readPulse (channels : Nat) (p : List Byte) : Option Contents :=
  match p with
  | h :: l :: m :: rest =>
    if inRange 1 4 m.toNat && decide (rest.length = 2 * m.toNat) then
      some (.pulse (word16 h l) ((List.range channels).map (fun c => (words rest)[c]?)))
    else none
  | _ => none

/-- The state a TRIP frame's byte gives (R38). -/
def wireOf (b : Byte) : WireState :=
  if b = 0 then .intact else if b = 1 then .cut else .fault

/-- A TRIP payload for a number of configured wires, none when malformed (R38). -/
def readTrip (wires : Nat) (p : List Byte) : Option Contents :=
  match p with
  | w :: rest =>
    if inRange 1 8 w.toNat && decide (rest.length = w.toNat) then
      some (.trip ((List.range wires).map (fun k => ((rest[k]?).map wireOf).getD .fault)))
    else none
  | [] => none

/-- The payload of a frame of a class's kind, none when malformed (R39). -/
def readPayload (c : StationClass) (p : List Byte) : Option Contents :=
  match c with
  | .sweep _ => readSweep p
  | .pulse n => readPulse n p
  | .trip n => readTrip n p

/-- The kind that matches a class (R9, R30). -/
def StationClass.kind : StationClass → Byte
  | .sweep _ => kindSample
  | .pulse _ => kindPulse
  | .trip _ => kindTrip

/-! ## Entries (R31, R43) -/

/-- An entry whose dynamic state is started afresh (R31, R43, R46). -/
def Station.afresh (cfg : StationConfig) (counts : StationCounts) : Station :=
  { cfg := cfg, live := if cfg.parked then .parked else .absent, lastSeq := none,
    silence := if cfg.parked then none else some cfg.limit, lastHeard := none, contents := none, phase := 0,
    counts := counts }

/-- A station's second-paced countdown falls (R23). -/
def Station.second (x : Station) : Station :=
  { x with silence := fall x.silence }

/-! ## Sequence filter (R34) -/

/-- The verdict of the sequence filter. -/
inductive SeqVerdict
  | duplicate
  | stale
  | passes (missed : Nat)
deriving DecidableEq, Repr

/-- The window of R34 over d, the difference of SEQ modulo 256. -/
def seqWindow (d : Nat) : SeqVerdict :=
  if d = 0 then .duplicate else if d ≤ 128 then .passes (d - 1) else .stale

/-- The verdict on a frame by its SEQ (R34). -/
def Station.judgeSeq (x : Station) (seq : Byte) : SeqVerdict :=
  if x.live = .absent ∨ x.live = .silent then .passes 0
  else
    match x.lastSeq with
    | none => .passes 0
    | some q => seqWindow (seq - q).toNat

/-! ## Accepted frames (R35) -/

/-- Steps 1 to 4 of R35 at the entry, with the payload as read. -/
def Station.accept (seq : Byte) (missed : Nat) (now : TimeStamp) (got : Option Contents) (x : Station) : Station :=
  { x with
    live := .live
    lastSeq := some seq
    silence := some x.cfg.limit
    lastHeard := some now
    contents := if got.isSome then got else x.contents
    counts := { x.counts with
      accepted := satInc x.counts.accepted
      missed := satAdd x.counts.missed missed
      malformed := if got.isSome then x.counts.malformed else satInc x.counts.malformed } }

/-- A SILENCE raising (R32). -/
def State.raiseSilence (i : Nat) (x : Station) (entered : Liveness) (s : State) : State :=
  s.raise (.silence i x.cfg.addr x.live entered x.lastHeard)

/-- The report of a well-formed payload, handed on (R40). -/
def State.handReport (i : Nat) (addr : Byte) (got : Option Contents) (s : State) : State :=
  match got with
  | none => s
  | some (.sweep _) => s.sweepArrival i
  | some (.pulse _ counts) => s.pulseReport i counts
  | some (.trip wires) => s.tripReport i addr wires

/-- The forward phase advances and the frame is forwarded or not (R10). -/
def State.divideForward (i : Nat) (f : Frame) (s : State) : State :=
  match s.station i with
  | none => s
  | some x =>
    if x.cfg.divisor = 0 then s
    else if x.phase + 1 = x.cfg.divisor then (s.setStation i (some { x with phase := 0 })).appendForward f
    else s.setStation i (some { x with phase := x.phase + 1 })

/-- An accepted frame (R35), with the entry as it was found. -/
def State.acceptFrame (i : Nat) (x : Station) (missed : Nat) (f : Frame) (s : State) : State :=
  let got := readPayload x.cfg.cls f.payload
  let a := if x.live = .silent then s.raiseSilence i x .live else s
  let b := a.setStation i (some (x.accept f.seq missed s.time.now got))
  let c := if x.live = .live then b else b.tripHandoff i
  (c.handReport i x.cfg.addr got).divideForward i f

/-- A frame handed to the Station Table (R10, R34). -/
def State.stationFrame (i : Nat) (x : Station) (f : Frame) (s : State) : State :=
  match x.judgeSeq f.seq with
  | .duplicate => s.countStation i (fun c => { c with duplicate := satInc c.duplicate })
  | .stale => s.countStation i (fun c => { c with stale := satInc c.stale })
  | .passes missed => s.acceptFrame i x missed f

/-! ## Hand-offs, silence, commands (R33, R40 to R44) -/

/-- A station withdrawn hand-off (R40): Lane Map, then trip logic (log 9). -/
def State.handWithdrawn (i : Nat) (s : State) : State :=
  (s.lanesWithdrawn i).tripHandoff i

/-- The running out of a silence countdown (R33). -/
def State.stationSilent (i : Nat) (x : Station) (s : State) : State :=
  (((s.raiseSilence i x .silent).setStation i (some { x with live := .silent, silence := none })).lanesSilent i).tripHandoff i

/-- LOAD STATION on the tables (R41). -/
def State.writeStation (i : Nat) (cfg : StationConfig) (s : State) : State :=
  (s.setStation i (some (Station.afresh cfg StationCounts.zero))).handWithdrawn i

/-- CLEAR STATION on the tables (R42). -/
def State.clearStationEntry (i : Nat) (s : State) : State :=
  match s.station i with
  | none => s
  | some _ => (s.setStation i none).handWithdrawn i

/-- PARK STATION on the tables (R43). -/
def State.parkStationEntry (i : Nat) (s : State) : State :=
  match s.station i with
  | none => s
  | some x =>
    if x.cfg.parked then s
    else (s.setStation i (some (Station.afresh { x.cfg with parked := true } StationCounts.zero))).handWithdrawn i

/-- UNPARK STATION on the tables (R44): station restored reaches the trip logic alone. -/
def State.unparkStationEntry (i : Nat) (s : State) : State :=
  match s.station i with
  | none => s
  | some x =>
    if x.cfg.parked then
      (s.setStation i (some (Station.afresh { x.cfg with parked := false } StationCounts.zero))).tripHandoff i
    else s

end Sys2Proof.Machine
end

