-- ==== Sys2Proof/Machine/Consistency.lean ====
section
/-! DEFINITION. The consistency check (R145). -/

namespace Sys2Proof.Machine

/-- What the consistency check looks over: the console list and the configuration of the four tables. -/
structure Configs where
  console : List Byte
  stations : Vector (Option StationConfig) 16
  lanes : Vector (Option LaneConfig) 32
  sectors : Vector (Option SectorConfig) 8
  zones : Vector (Option ZoneConfig) 12
deriving DecidableEq, Repr

/-- The configurations of the part as it stands. -/
def State.configs (s : State) : Configs :=
  { console := s.console, stations := mapEntries Station.cfg s.stations, lanes := mapEntries Lane.cfg s.lanes,
    sectors := mapEntries Sector.cfg s.sectors, zones := mapEntries Zone.cfg s.zones }

/-- The three data bytes of an INCOMPLETE reply: item and two item bytes (R207). -/
def item (n a b : Nat) : List Byte :=
  [byteOf n, byteOf a, byteOf b]

/-- The loaded entries of a table with their indices, ascending. -/
def loadedOf {α : Type} {n : Nat} (v : Vector (Option α) n) : List (Nat × α) :=
  (List.range n).filterMap (fun i => (entryAt v i).map (fun x => (i, x)))

/-- Item 1: the console list is empty (R145). -/
def checkConsole (c : Configs) : Option (List Byte) :=
  if c.console.isEmpty then some (item 1 0 0) else none

/-- Item 2: no zone is loaded (R145). -/
def checkZones (c : Configs) : Option (List Byte) :=
  if (loadedOf c.zones).isEmpty then some (item 2 0 0) else none

/-- Item 3: a loaded zone lists no loaded sector (R145). -/
def checkZoneSectors (c : Configs) : Option (List Byte) :=
  ((loadedOf c.zones).find? (fun p => !p.2.sectors.any (fun i => (entryAt c.sectors i).isSome))).map
    (fun p => item 3 p.1 0)

/-- Item 4: a lane of a loaded sector's range is VACANT (R145). -/
def checkSectorLanes (c : Configs) : Option (List Byte) :=
  (loadedOf c.sectors).findSome? (fun p =>
    (p.2.range.find? (fun l => (entryAt c.lanes l).isNone)).map (fun l => item 4 p.1 l))

/-- The class of a loaded station entry. -/
def classAt (c : Configs) (i : Nat) : Option StationClass :=
  (entryAt c.stations i).map StationConfig.cls

/-- A candidate names a SWEEP station and an index below its expected lanes (R145 item 5). -/
def candidateOk (c : Configs) (k : Candidate) : Bool :=
  match classAt c k.station with
  | some (.sweep n) => decide (k.sweepLane < n)
  | _ => false

/-- Item 5: a candidate of a loaded lane (R145). -/
def checkCandidates (c : Configs) : Option (List Byte) :=
  (loadedOf c.lanes).findSome? (fun p =>
    ((p.2.cands.zipIdx).find? (fun q => !candidateOk c q.1)).map (fun q => item 5 p.1 q.2))

/-- A pulse link names a PULSE station and a channel below its channel count (R145 item 6). -/
def pulseOk (c : Configs) (k : PulseLink) : Bool :=
  match classAt c k.station with
  | some (.pulse n) => decide (k.channel < n)
  | _ => false

/-- Item 6: a loaded sector's pulse link (R145). -/
def checkPulseLinks (c : Configs) : Option (List Byte) :=
  ((loadedOf c.sectors).find? (fun p => p.2.pulse.any (fun k => !pulseOk c k))).map (fun p => item 6 p.1 0)

/-- A trip link names a TRIP station and a wire below its wire count (R145 item 7). -/
def tripLinkOk (c : Configs) (k : TripLink) : Bool :=
  match classAt c k.station with
  | some (.trip n) => decide (k.wire < n)
  | _ => false

/-- Item 7: a loaded sector's trip links (R145). -/
def checkTripLinks (c : Configs) : Option (List Byte) :=
  (loadedOf c.sectors).findSome? (fun p =>
    ((p.2.trips.zipIdx).find? (fun q => !tripLinkOk c q.1)).map (fun q => item 7 p.1 q.2))

/-- The first failing item of the consistency check, as the data of an INCOMPLETE reply (R145). -/
def Configs.firstFailure (c : Configs) : Option (List Byte) :=
  (checkConsole c).or ((checkZones c).or ((checkZoneSectors c).or ((checkSectorLanes c).or
    ((checkCandidates c).or ((checkPulseLinks c).or (checkTripLinks c))))))

/-- The check on the tables as they stand (R145). -/
def State.firstFailure (s : State) : Option (List Byte) :=
  s.configs.firstFailure

/-- Check 10 of R141: in WATCHING, the tables as a write would leave them. -/
def State.writeFailure (s after : State) : Option (List Byte) :=
  if s.mode = .watching then after.firstFailure else none

end Sys2Proof.Machine
end

