-- ==== Sys2Proof/Decode.lean ====
section
/-! DEFINITION. Codes to names: the command codes of R207, and the host's table decoder (no row of
spec/opcode_table.json gives bits, so it answers none for every word). -/

namespace Sys2Proof

/-- The code of each command (R207). -/
def Command.code : Command → Byte
  | .readIdent => 0x01
  | .readClock => 0x02
  | .setClock => 0x03
  | .loadConsole => 0x08
  | .loadStation => 0x10
  | .clearStation => 0x11
  | .readStation => 0x12
  | .parkStation => 0x13
  | .unparkStation => 0x14
  | .loadLane => 0x18
  | .clearLane => 0x19
  | .readLane => 0x1A
  | .loadSector => 0x20
  | .clearSector => 0x21
  | .readSector => 0x22
  | .parkSector => 0x23
  | .unparkSector => 0x24
  | .clearTrip => 0x25
  | .loadZone => 0x28
  | .clearZone => 0x29
  | .readZone => 0x2A
  | .forceStage => 0x2B
  | .releaseForce => 0x2C
  | .readDispatch => 0x30
  | .loadOutput => 0x38
  | .readOutput => 0x39
  | .setNotices => 0x40
  | .readNotices => 0x41
  | .clearNotices => 0x42
  | .readCounters => 0x48
  | .clearCounters => 0x49
  | .goWatch => 0x50
  | .goCommission => 0x51
  | .saveTables => 0x52
  | .eraseTables => 0x53
  | .restart => 0x54
  | .reset => 0x55
  | .readResetCause => 0x56
  | .clearResetCause => 0x57

/-- Every command, in the order of the code table of R207. -/
def Command.all : List Command :=
  [.readIdent, .readClock, .setClock, .loadConsole, .loadStation, .clearStation, .readStation, .parkStation,
   .unparkStation, .loadLane, .clearLane, .readLane, .loadSector, .clearSector, .readSector, .parkSector,
   .unparkSector, .clearTrip, .loadZone, .clearZone, .readZone, .forceStage, .releaseForce, .readDispatch] ++
  [.loadOutput, .readOutput, .setNotices, .readNotices, .clearNotices, .readCounters, .clearCounters, .goWatch,
   .goCommission, .saveTables, .eraseTables, .restart, .reset, .readResetCause, .clearResetCause]

/-- The command a code byte names, or none for a code not of R207 (check 2 of R141). -/
def Command.ofCode (b : Byte) : Option Command :=
  Command.all.find? (fun c => decide (c.code = b))

/-- The host's question (see NOTES.md): no row of the table gives bits, so no word spells a command. -/
def decodeTableWord (_nbits _w : Nat) : Option Instr :=
  none

end Sys2Proof
end

