-- ==== Sys2Proof/Machine/Operands.lean ====
section
/-! DEFINITION. Argument blocks of commands: lengths, fields and ranges (R141 checks 3 and 7, R207, R208). -/

namespace Sys2Proof.Machine

/-! ## Fields -/

/-- The argument byte at an offset as a number. -/
def arg (args : List Byte) (i : Nat) : Nat :=
  (args.getD i 0).toNat

/-- The two-byte argument at an offset. -/
def arg16 (args : List Byte) (i : Nat) : Nat :=
  arg args i * 256 + arg args (i + 1)

/-- The argument bytes from an offset, in pairs. -/
def argPairs : List Byte → List (Nat × Nat)
  | a :: b :: rest => (a.toNat, b.toNat) :: argPairs rest
  | _ => []

/-- A node address a list may hold: 1 to 254 and not the part's own. -/
def addressOk (node a : Byte) : Bool :=
  decide (a ≠ 0) && decide (a ≠ 255) && decide (a ≠ node)

/-! ## Lengths (R141 check 3) -/

/-- The length of the argument block a code requires, its count fields taken as written (R207, R208). -/
def requiredLength (c : Command) (args : List Byte) : Nat :=
  match c with
  | .readIdent => 0
  | .readClock => 0
  | .setClock => 6
  | .loadConsole => 1 + arg args 0
  | .loadStation => 8
  | .clearStation => 1
  | .readStation => 1
  | .parkStation => 1
  | .unparkStation => 1
  | .loadLane => 6 + 2 * arg args 5
  | .clearLane => 1
  | .readLane => 1
  | .loadSector => 30 + 2 * arg args 29
  | .clearSector => 1
  | .readSector => 2
  | .parkSector => 1
  | .unparkSector => 1
  | .clearTrip => 1
  | .loadZone => 8 + arg args 1 + arg args (2 + arg args 1)
  | .clearZone => 1
  | .readZone => 1
  | .forceStage => 4
  | .releaseForce => 1
  | .readDispatch => 1
  | .loadOutput => 16
  | .readOutput => 1
  | .setNotices => 3
  | .readNotices => 1
  | .clearNotices => 1
  | .readCounters => 1
  | .clearCounters => 0
  | .goWatch => 0
  | .goCommission => 0
  | .saveTables => 0
  | .eraseTables => 0
  | .restart => 0
  | .reset => 0
  | .readResetCause => 0
  | .clearResetCause => 0

/-- Check 3 of R141. -/
def lengthOk (c : Command) (args : List Byte) : Bool :=
  decide (args.length = requiredLength c args)

/-! ## Configurations (R141 check 7, as far as the arguments alone decide it) -/

/-- The time SET CLOCK writes, none when a field is out of range (R148). -/
def clockArgs (args : List Byte) : Option TimeStamp :=
  if decide (arg args 2 ≤ 23) && decide (arg args 3 ≤ 59) && decide (arg args 4 ≤ 59) && decide (arg args 5 ≤ 9) then
    some { day := arg16 args 0, hour := arg args 2, minute := arg args 3, second := arg args 4, tenth := arg args 5,
           unset := false }
  else none

/-- The list LOAD CONSOLE writes (R149). -/
def consoleArgs (node : Byte) (args : List Byte) : Option (List Byte) :=
  let l := args.drop 1
  if decide (arg args 0 ≤ 2) && l.all (addressOk node) && decide l.Nodup then some l else none

/-- The class and count of LOAD STATION (R150, R208). -/
def classArgs (cls count : Nat) : Option StationClass :=
  match cls with
  | 0 => if inRange 1 8 count then some (.sweep count) else none
  | 1 => if inRange 1 4 count then some (.pulse count) else none
  | 2 => if inRange 1 8 count then some (.trip count) else none
  | _ => none

/-- The port of LOAD STATION (R150, R208). -/
def sideArgs (p : Nat) : Option Side :=
  match p with
  | 0 => some .a
  | 1 => some .b
  | _ => none

/-- The configuration LOAD STATION writes (R150). -/
def stationArgs (args : List Byte) : Option StationConfig :=
  match sideArgs (arg args 2), classArgs (arg args 3) (arg args 4) with
  | some p, some c =>
    if decide (arg args 0 < 16) && inRange 1 254 (arg args 1) && inRange 10 3600 (arg16 args 5) then
      some { addr := args.getD 1 0, port := p, cls := c, limit := arg16 args 5, divisor := arg args 7,
             parked := false }
    else none
  | _, _ => none

/-- The configuration LOAD LANE writes (R155). -/
def laneArgs (args : List Byte) : Option LaneConfig :=
  let cands := (argPairs (args.drop 6)).map (fun p => ({ station := p.1, sweepLane := p.2 } : Candidate))
  if decide (arg args 0 < 32) && inRange 1 12000 (arg16 args 1) && inRange 1 15 (arg args 3) &&
      inRange 1 15 (arg args 4) && inRange 1 4 (arg args 5) &&
      cands.all (fun c => decide (c.station < 16) && decide (c.sweepLane < 8)) && decide cands.Nodup then
    some { datum := arg16 args 1, lossLimit := arg args 3, restoreCount := arg args 4, cands := cands }
  else none

/-- Three two-byte thresholds from an offset. -/
def thresholdArgs (args : List Byte) (i : Nat) : Thresholds :=
  { watch := arg16 args i, prepare := arg16 args (i + 2), evacuate := arg16 args (i + 4) }

/-- Rise thresholds strictly increase to at most 12000, and each fall threshold is at most its rise (R158). -/
def thresholdsOk (rise fall : Thresholds) : Bool :=
  decide (rise.watch < rise.prepare) && decide (rise.prepare < rise.evacuate) && decide (rise.evacuate ≤ 12000) &&
    decide (fall.watch ≤ rise.watch) && decide (fall.prepare ≤ rise.prepare) && decide (fall.evacuate ≤ rise.evacuate)

/-- The pulse link of LOAD SECTOR: 0xFF is none, its channel then not read (R208). -/
def pulseArgs (station channel : Nat) : Option PulseLink :=
  if station = 255 then none else some { station := station, channel := channel }

/-- The configuration the bytes of LOAD SECTOR spell. -/
def sectorOfArgs (args : List Byte) : SectorConfig :=
  { first := arg args 1, count := arg args 2, quorum := arg args 3, rise := thresholdArgs args 4,
    fall := thresholdArgs args 10, blindDelay := arg16 args 16, rapidSpan := arg args 18, rapidLimit := arg16 args 19,
    pulse := pulseArgs (arg args 21) (arg args 22), binLength := arg args 23, surgeSpan := arg args 24,
    surgeLimit := arg16 args 25, surgeRelease := arg16 args 27,
    trips := (argPairs (args.drop 30)).map (fun p => ({ station := p.1, wire := p.2 } : TripLink)),
    parked := false }

/-- The ranges of R66 and R91 on a written sector (R158). -/
def sectorRanges (c : SectorConfig) : Bool :=
  inRange 2 8 c.count && decide (c.first + c.count ≤ 32) && inRange 1 c.count c.quorum &&
    thresholdsOk c.rise c.fall && inRange 10 3600 c.blindDelay && inRange 1 15 c.rapidSpan &&
    inRange 1 65535 c.rapidLimit &&
    (c.pulse.map (fun p => decide (p.station < 16) && decide (p.channel < 4))).getD true &&
    inRange 5 60 c.binLength && inRange 1 12 c.surgeSpan && inRange 1 65535 c.surgeLimit &&
    decide (c.surgeRelease < c.surgeLimit) &&
    c.trips.all (fun k => decide (k.station < 16) && decide (k.wire < 8)) && decide c.trips.Nodup

/-- The configuration LOAD SECTOR writes (R158). -/
def sectorArgs (args : List Byte) : Option SectorConfig :=
  let c := sectorOfArgs args
  if decide (arg args 0 < 8) && decide (arg args 29 ≤ 2) && sectorRanges c then some c else none

/-- The configuration the bytes of LOAD ZONE spell. -/
def zoneOfArgs (args : List Byte) : ZoneConfig :=
  let n := arg args 1
  let m := arg args (2 + n)
  let o := 3 + n + m
  { sectors := ((args.drop 2).take n).map (fun b => b.toNat), sirens := (args.drop (3 + n)).take m,
    holdDown := arg args o, repeatInterval := arg16 args (o + 1), tries := arg args (o + 3),
    refresh := arg args (o + 4) }

/-- The ranges of R106 on a written zone (R164). -/
def zoneRanges (node : Byte) (c : ZoneConfig) : Bool :=
  inRange 1 8 c.sectors.length && c.sectors.all (fun i => decide (i < 8)) && decide c.sectors.Nodup &&
    inRange 1 4 c.sirens.length && c.sirens.all (addressOk node) && decide c.sirens.Nodup &&
    inRange 1 240 c.holdDown && inRange 5 300 c.repeatInterval && inRange 1 15 c.tries && decide (c.refresh ≤ 60)

/-- The configuration LOAD ZONE writes (R164). -/
def zoneArgs (node : Byte) (args : List Byte) : Option ZoneConfig :=
  let c := zoneOfArgs args
  if decide (arg args 0 < 12) && zoneRanges node c then some c else none

/-- The force of FORCE STAGE (R167). -/
def forceArgs (args : List Byte) : Option Force :=
  match Stage.ofNum (arg args 1) with
  | some st =>
    if decide (st ≠ .quiet) && inRange 1 1440 (arg16 args 2) then some { stage := st, left := arg16 args 2 } else none
  | none => none

/-- A cadence from an offset. -/
def cadenceArgs (args : List Byte) (i : Nat) : Cadence :=
  { cycle := arg16 args i, onTime := arg16 args (i + 2) }

/-- A cadence in range (R170). -/
def Cadence.ok (c : Cadence) : Bool :=
  inRange 2 600 c.cycle && inRange 1 c.cycle c.onTime

/-- The configuration LOAD OUTPUT writes (R170). -/
def outputArgs (args : List Byte) : Option OutputConfig :=
  let w : Cadences := { c1 := cadenceArgs args 4, c2 := cadenceArgs args 8, c3 := cadenceArgs args 12 }
  match Stage.ofNum (arg args 3) with
  | some st =>
    if inRange 1 6 (arg args 0) && decide (arg args 1 ≤ 8) && decide (arg args 2 ≤ 11) &&
        (decide (arg args 1 ≠ 3) || decide (arg args 2 ≤ 7)) && decide (st ≠ .quiet) &&
        w.c1.ok && w.c2.ok && w.c3.ok then
      some { code := arg args 1, argIndex := arg args 2, argStage := st, written := w }
    else none
  | none => none

/-- The status period of SET NOTICES (R172). -/
def periodArgs (args : List Byte) : Option Nat :=
  let p := arg16 args 1
  if decide (p = 0) || inRange 10 3600 p then some p else none

/-- A class is in a class set; bits 6 and 7 name none (R208). -/
def inClassSet (b : Byte) (c : NoticeClass) : Bool :=
  b.getLsbD c.num

/-- What READ COUNTERS selects (R175, R207). -/
inductive CounterGroup
  | port (p : PortId)
  | part
  | station (i : Nat)
deriving DecidableEq, Repr

/-- The selector of READ COUNTERS (R207). -/
def selectorArgs (n : Nat) : Option CounterGroup :=
  match n with
  | 0 => some (.port .crestA)
  | 1 => some (.port .crestB)
  | 2 => some (.port .valley)
  | 3 => some .part
  | _ => if inRange 16 31 n then some (.station (n - 16)) else none

end Sys2Proof.Machine
end

