-- ==== Sys2Proof/Machine/Outputs.lean ====
section
/-! DEFINITION. The contact outputs K1 to K6 (R133 to R138). -/

namespace Sys2Proof.Machine

/-- Any loaded sector satisfies a test. -/
def State.anySector (p : Sector → Bool) (s : State) : Bool :=
  (List.range 8).any (fun i => ((s.sector i).map p).getD false)

/-- The stage of the source of codes 2 and 3, none when it is VACANT or for another code (R134). -/
def sourceStage (s : State) (c : OutputConfig) : Option Stage :=
  if c.code = 2 then (s.zone c.argIndex).map (fun x => x.stage)
  else if c.code = 3 then (s.sector c.argIndex).map (fun x => x.stage)
  else none

/-- The condition an output's select code names (R134). -/
def conditionOf (s : State) (c : OutputConfig) : Bool :=
  match c.code with
  | 1 => true
  | 2 => ((sourceStage s c).map (fun st => decide (c.argStage.num ≤ st.num))).getD false
  | 3 => ((sourceStage s c).map (fun st => decide (c.argStage.num ≤ st.num))).getD false
  | 4 => s.anySector (fun x => x.blind)
  | 5 => s.anySector Sector.latched
  | 6 => s.notices.delivery.flag
  | 7 => s.notices.fault.flag
  | 8 => decide (s.mode = .watching)
  | _ => false

/-- The cadence a cycle start chooses (R135). -/
def cadenceFor (s : State) (c : OutputConfig) : Nat :=
  ((sourceStage s c).map Stage.num).getD 1

/-- A cycle starts (R135). -/
def Output.start (n : Nat) (o : Output) : Output :=
  { o with working := o.cfg.written, condition := true, inUse := some n, phase := some 0, closed := true }

/-- The contact opens and the cycle stops (R134). -/
def Output.stop (o : Output) : Output :=
  { o with condition := false, inUse := none, phase := none, closed := false }

/-- The re-evaluation of an output on the state as an event leaves it (R134). -/
def Output.evaluate (s : State) (o : Output) : Output :=
  if conditionOf s o.cfg then
    (if o.condition && ((sourceStage s o.cfg).isNone || decide (o.inUse = some (cadenceFor s o.cfg))) then o
     else o.start (cadenceFor s o.cfg))
  else if o.condition then o.stop
  else o

/-- What a re-evaluation of an output reads: its condition, and the source's stage for codes 2 and 3. -/
def watched (s : State) (c : OutputConfig) : Bool × Option Stage :=
  (conditionOf s c, sourceStage s c)

/-- The outputs at the end of an event (R134): those whose reading the event has changed are re-evaluated
(log 8). -/
def State.reevaluate (s old : State) : State :=
  { s with outputs := mapTable (fun (o : Output) => if watched old o.cfg = watched s o.cfg then o else o.evaluate s) s.outputs }

/-- The cadence with a number. -/
def Cadences.get (c : Cadences) : Nat → Cadence
  | 1 => c.c1
  | 2 => c.c2
  | _ => c.c3

/-- The cadence in use, none while the condition is false (R133). -/
def Output.cadence (o : Output) : Option Cadence :=
  o.inUse.map o.working.get

/-- A tenth tick at an output (R135): while the condition is true the phase rises, up to the cycle, where the
boundary waits for its own step (log 4). -/
def Output.tenth (o : Output) : Output :=
  match o.cadence, o.phase with
  | some c, some p => if o.condition then { o with phase := some (min (p + 1) c.cycle) } else o
  | _, _ => o

/-- The phase has reached the on-time of a cadence shorter than its cycle: the contact opens (R135). -/
def Output.reachOnTime (o : Output) : Output :=
  match o.cadence, o.phase with
  | some c, some p => if c.onTime ≤ p ∧ p < c.cycle then { o with closed := false } else o
  | _, _ => o

/-- The phase has reached the cycle: a cycle boundary (R135). -/
def Output.boundary (o : Output) : Output :=
  match o.cadence, o.phase with
  | some c, some p =>
    if c.cycle ≤ p then { o with working := o.cfg.written, phase := some 0, closed := true } else o
  | _, _ => o

/-- The part of a configuration whose change restarts an output: select code and arguments (R136). -/
def OutputConfig.selection (c : OutputConfig) : Nat × Nat × Stage :=
  (c.code, c.argIndex, c.argStage)

/-- LOAD OUTPUT at an output (R136). -/
def Output.write (s : State) (c : OutputConfig) (o : Output) : Output :=
  if o.cfg.selection = c.selection then { o with cfg := c }
  else
    let n : Output := { o with cfg := c }
    if conditionOf s c then n.start (cadenceFor s c) else n.stop

/-- LOAD OUTPUT on the outputs (R136). -/
def State.writeOutput (k : Nat) (c : OutputConfig) (s : State) : State :=
  match s.output k with
  | none => s
  | some o => s.setOutput k (o.write s c)

/-- Every output evaluated, as at the end of start-up (R138). -/
def State.evaluateAll (s : State) : State :=
  { s with outputs := mapTable (Output.evaluate s) s.outputs }

/-- Every contact opens, every cycle stops and every output is evaluated afresh, as at RESTART (R138). -/
def State.restartOutputs (s : State) : State :=
  ({ s with outputs := mapTable (fun (o : Output) => Output.idle o.cfg) s.outputs }).evaluateAll

end Sys2Proof.Machine
end

