-- ==== Sys2Proof/Machine/Payloads.lean ====
section
/-! DEFINITION. The payloads the part composes: ALERT (R205), NOTICE and STATUS (R206). -/

namespace Sys2Proof.Machine

/-- The flag byte of an entry: bit 0 REFRESH (R205, R207). -/
def Entry.flags (e : Entry) : Byte :=
  boolByte e.refresh

/-- The ALERT payload, 16 bytes (R126, R205). -/
def alertPayload (e : Entry) : List Byte :=
  [byteOf e.zone, e.serial, e.stage.byte, e.causes.byte, e.flags, optByte e.peakSector,
   optByte (e.peak.map (fun p => p.lane))] ++ optWord (e.peak.map (fun p => p.fill)) ++ be16 e.index ++
  be16 e.created.day ++ [byteOf e.created.hour, byteOf e.created.minute, byteOf e.created.second]

/-- The reason code of a SOURCE detail (R206). -/
def SourceReason.byte : SourceReason → Byte
  | .found => 0
  | .echoLoss => 1
  | .silent => 2
  | .withdrawn => 3
  | .restore => 4
  | .reloaded => 5
  | .cleared => 6

/-- The listed bytes of a detail (R206). -/
def Detail.bytes : Detail → List Byte
  | .stage z old new serial causes peak hold =>
    [byteOf z, old.byte, new.byte, serial, causes.byte, optByte peak, boolByte hold]
  | .source l old new st lane why => [byteOf l, optByte old, optByte new, optByte st, optByte lane, why.byte]
  | .silence i addr left entered heard => [byteOf i, addr, left.byte, entered.byte] ++ timeBytes heard
  | .delivery z serial st siren tries => [byteOf z, serial, st.byte, siren, byteOf tries]
  | .trip sec link st addr wire time => [byteOf sec, byteOf link, byteOf st, addr, byteOf wire] ++ time.bytes
  | .clockUnset => [0]
  | .storeFault => [1]
  | .forwardDrop src kind => [2, src, kind]
  | .replyLost src code => [3, src, code]

/-- The twelve detail bytes of a class, those beyond the listed ones 0 (R206). For a class that holds no detail,
which READ NOTICES can report, all twelve are 0: the model's reading, R206 listing no bytes there (log 31). -/
def detailBytes (d : Option Detail) : List Byte :=
  (((d.map Detail.bytes).getD []) ++ List.replicate 12 0).take 12

/-- The NOTICE payload of a class, 16 bytes (R187, R206). -/
def noticePayload (c : NoticeClass) (u : NoticeUnit) : List Byte :=
  let x := u.get c
  [byteOf c.num, boolByte x.flag] ++ be16 x.count ++ detailBytes x.detail

/-- The six pending flags as a class set (R204). -/
def pendingSet (u : NoticeUnit) : Byte :=
  setByte ((NoticeClass.all.filter (fun c => (u.get c).flag)).map NoticeClass.num)

/-- A sector's stage byte and flag byte in a STATUS frame (R190, R206). -/
def sectorStatus (x : Option Sector) : List Byte :=
  match x with
  | none => [0, 0]
  | some y =>
    [y.stage.byte, setByte ((List.range 6).filter (fun i =>
      [y.blind, y.rapid, y.surge, y.tripFault, y.latched, y.cfg.parked].getD i false))]

/-- The STATUS payload, 38 bytes (R190, R206). -/
def statusPayload (s : State) : List Byte :=
  [s.mode.byte] ++ s.time.now.bytes ++
  (List.range 12).map (fun z => ((s.zone z).map (fun x => x.stage.byte)).getD 0) ++
  (List.range 8).flatMap (fun i => sectorStatus (s.sector i)) ++
  [pendingSet s.notices, byteOf s.dispatch.queue.length]

end Sys2Proof.Machine
end

