-- ==== Sys2Proof/Machine/Readings.lean ====
section
/-! DEFINITION. The data of reading replies (R146, R147, R152, R157, R160, R166, R169, R171, R173, R175, R183,
R204, R207), laid out as log 15, log 16, log 17 and log 28 to log 31 say. -/

namespace Sys2Proof.Machine

/-- A VACANT entry in a reading reply: its index and 0xFF (R204). -/
def vacant (i : Nat) : List Byte :=
  [byteOf i, 0xFF]

/-- READ IDENT (R146, R207): identity code, node address, rate, mode, save in progress, console list. -/
def identData (s : State) : List Byte :=
  [0x41, 0x20, s.node, byteOf s.rate.val, s.mode.byte, boolByte s.save.isSome] ++ counted (fun a => [a]) s.console

/-- READ CLOCK (R147). -/
def clockData (s : State) : List Byte :=
  s.time.now.bytes

/-- The port byte of a station (R207). -/
def sideByte : Side → Byte
  | .a => 0
  | .b => 1

/-- A class byte and its count (R207). -/
def StationClass.bytes : StationClass → List Byte
  | .sweep n => [0, byteOf n]
  | .pulse n => [1, byteOf n]
  | .trip n => [2, byteOf n]

/-- The configuration of a station in the order of R30. -/
def StationConfig.bytes (c : StationConfig) : List Byte :=
  [c.addr, sideByte c.port] ++ c.cls.bytes ++ be16 c.limit ++ [byteOf c.divisor, boolByte c.parked]

def WireState.byte : WireState → Byte
  | .intact => 0
  | .cut => 1
  | .fault => 2

/-- The last contents of a station (R207). -/
def contentsBytes : Option Contents → List Byte
  | none => [0]
  | some (.sweep vs) => 1 :: counted be16 vs
  | some (.pulse interval counts) => 1 :: (be16 interval ++ counts.flatMap flaggedWord)
  | some (.trip ws) => 1 :: ws.map WireState.byte

/-- The seven counters of a station in the order of R45. -/
def StationCounts.bytes (c : StationCounts) : List Byte :=
  [c.accepted, c.duplicate, c.stale, c.missed, c.wrongPort, c.wrongKind, c.malformed].flatMap be16

/-- READ STATION (R31, R152). -/
def stationData (i : Nat) (s : State) : List Byte :=
  match s.station i with
  | none => vacant i
  | some x =>
    x.cfg.bytes ++ [x.live.byte] ++ flaggedByte x.lastSeq ++ be16 (x.silence.getD 0) ++ timeBytes x.lastHeard ++
      contentsBytes x.contents ++ x.counts.bytes

/-- READ LANE (R48, R157). The loss count and each restore credit take one byte: the model's choice (log 29). -/
def laneData (i : Nat) (s : State) : List Byte :=
  match s.lane i with
  | none => vacant i
  | some l =>
    be16 l.cfg.datum ++ [byteOf l.cfg.lossLimit, byteOf l.cfg.restoreCount] ++
      counted (fun (c : Candidate) => [byteOf c.station, byteOf c.sweepLane]) l.cfg.cands ++
      [boolByte l.valid, optByte l.tracked] ++
      [optByte (((l.tracked.bind (fun r => l.cfg.cands[r]?))).map Candidate.station),
       optByte (((l.tracked.bind (fun r => l.cfg.cands[r]?))).map Candidate.sweepLane)] ++
      optWord l.clearance ++ optWord l.fill ++ timeBytes l.valueTime ++ [byteOf l.loss] ++
      counted (fun n => [byteOf n]) l.credits

def Thresholds.bytes (t : Thresholds) : List Byte :=
  be16 t.watch ++ be16 t.prepare ++ be16 t.evacuate

/-- READ SECTOR part 0: the configuration of R66 with the trip links (R160). -/
def sectorPart0 (c : SectorConfig) : List Byte :=
  [byteOf c.first, byteOf c.count, byteOf c.quorum] ++ c.rise.bytes ++ c.fall.bytes ++ be16 c.blindDelay ++
    [byteOf c.rapidSpan] ++ be16 c.rapidLimit ++
    [optByte (c.pulse.map PulseLink.station), ((c.pulse.map (fun p => byteOf p.channel)).getD 0)] ++
    [byteOf c.binLength, byteOf c.surgeSpan] ++ be16 c.surgeLimit ++ be16 c.surgeRelease ++
    counted (fun (k : TripLink) => [byteOf k.station, byteOf k.wire]) c.trips ++ [boolByte c.parked]

/-- A mask as one byte, bit i for lane first lane + i (R204). -/
def maskByte (first : Nat) (m : List Nat) : Byte :=
  setByte ((List.range 8).filter (fun k => decide (first + k ∈ m)))

def Masks.bytes (first : Nat) (m : Masks) : List Byte :=
  [maskByte first m.watch, maskByte first m.prepare, maskByte first m.evacuate]

/-- The minute ring: count, GAP set, entries newest first (R204). -/
def ringBytes (ring : List (Option Nat)) : List Byte :=
  byteOf ring.length ::
    (be16 (((ring.zipIdx).filter (fun p => p.1.isNone)).foldl (fun n p => n + 2 ^ p.2) 0) ++
      ring.flatMap (fun e => be16 (e.getD 0)))

/-- READ SECTOR part 1: the level state of R67 with the minute ring (R160). The one byte of the valid count (log 29) and of
each flag (log 17) is the model's choice. -/
def sectorPart1 (x : Sector) : List Byte :=
  [byteOf x.valid] ++ x.rise.bytes x.cfg.first ++ x.hold.bytes x.cfg.first ++
    [x.level.byte, optByte (x.peak.map Peak.lane)] ++ optWord (x.peak.map Peak.fill) ++ be16 x.index ++
    optWord x.blindCd ++ [boolByte x.blind] ++ ringBytes x.ring ++ flaggedWord x.lastRise ++
    [boolByte x.rapid, x.stage.byte, x.causes.byte]

/-- The trip link reading byte (R204). -/
def LinkReading.byte : LinkReading → Byte
  | .intact => 0
  | .cut => 1
  | .fault => 2
  | .silent => 3
  | .parked => 4
  | .unusable => 5
  | .awaiting => 6

/-- A trip record: link, station, address, wire, trip time (R97). -/
def TripRecord.bytes (r : TripRecord) : List Byte :=
  [byteOf r.link, byteOf r.station, r.addr, byteOf r.wire] ++ r.time.bytes

/-- READ SECTOR part 2: the surge state, the trip link readings, TRIP FAULT, latch and record (R91, R97, R160). -/
def sectorPart2 (s : State) (x : Sector) : List Byte :=
  counted be16 x.bins ++ optWord x.binCd ++ be16 x.window ++ [boolByte x.surge] ++
    counted (fun k => [(readLink s k).byte]) x.cfg.trips ++ [boolByte x.tripFault, boolByte x.latched] ++
    (x.trip.map TripRecord.bytes).getD []

/-- READ SECTOR (R160). -/
def sectorData (i part : Nat) (s : State) : List Byte :=
  match s.sector i with
  | none => vacant i
  | some x => if part = 0 then sectorPart0 x.cfg else if part = 1 then sectorPart1 x else sectorPart2 s x

/-- READ ZONE (R106, R107, R166). The sector set is listed in the order LOAD ZONE wrote it: the model's choice, R106 calling
it a set (log 30). -/
def zoneData (z : Nat) (s : State) : List Byte :=
  match s.zone z with
  | none => vacant z
  | some x =>
    counted (fun n => [byteOf n]) x.cfg.sectors ++ counted (fun a => [a]) x.cfg.sirens ++ [byteOf x.cfg.holdDown] ++
      be16 x.cfg.repeatInterval ++ [byteOf x.cfg.tries, byteOf x.cfg.refresh, x.stage.byte, x.computed.byte] ++
      [optByte (x.force.map (fun f => f.stage.num))] ++ optWord (x.force.map Force.left) ++ [x.target.byte] ++
      optWord x.hold ++ [x.serial, x.causes.byte, optByte x.peakSector] ++ optWord x.refreshCd ++ be16 x.undispatched

/-- A siren record in READ DISPATCH (R207). -/
def SirenRecord.bytes (r : SirenRecord) : List Byte :=
  [r.addr, r.state.byte, byteOf r.tries] ++ optWord r.cd

/-- An entry in READ DISPATCH, after its position (R207). -/
def Entry.bytes (e : Entry) : List Byte :=
  [byteOf e.zone, e.serial, e.stage.byte, e.causes.byte, e.flags, optByte e.peakSector, optByte (e.peak.map Peak.lane)] ++
    optWord (e.peak.map Peak.fill) ++ be16 e.index ++ e.created.bytes ++ counted SirenRecord.bytes e.records

/-- READ DISPATCH (R169, R207). -/
def dispatchData (pos : Nat) (s : State) : List Byte :=
  byteOf s.dispatch.queue.length ::
    ((s.dispatch.queue[pos]?).map (fun e => byteOf pos :: e.bytes)).getD []

def Cadences.bytes (c : Cadences) : List Byte :=
  [c.c1, c.c2, c.c3].flatMap (fun d => be16 d.cycle ++ be16 d.onTime)

/-- READ OUTPUT (R133, R171). Condition and contact as one byte, 1 for true and for closed (log 17), and 0xFF for a cadence
in use that is none (log 28) are the model's choice. -/
def outputData (k : Nat) (s : State) : List Byte :=
  match s.output k with
  | none => []
  | some o =>
    [byteOf o.cfg.code, byteOf o.cfg.argIndex, o.cfg.argStage.byte] ++ o.cfg.written.bytes ++ o.working.bytes ++
      [boolByte o.condition, optByte o.inUse] ++ optWord o.phase ++ [boolByte o.closed]

/-- READ NOTICES (R173, R207). -/
def noticesData (c : NoticeClass) (u : NoticeUnit) : List Byte :=
  [byteOf c.num, boolByte (u.get c).enable, boolByte (u.get c).flag] ++ be16 (u.get c).count ++
    detailBytes (u.get c).detail ++ [pendingSet u] ++ be16 u.period

/-- The counts of R18 that every port keeps, in the order of its table. -/
def Port.counts (p : Port) : List Nat :=
  [p.received, p.crcError, p.framing, p.oversize, p.badAddress, p.sent]

def CrestPort.counts (c : CrestPort) : List Nat :=
  c.port.counts ++ [c.wrongSide, c.parked, c.unknownSource, c.crestDrop]

def ValleyPort.counts (v : ValleyPort) : List Nat :=
  v.port.counts ++ [v.notForPart, v.forwardDrop]

/-- The counts of a port in the order of the table of R18 (R207). -/
def portCounts (p : PortId) (s : State) : List Nat :=
  match p with
  | .crestA => s.crestA.counts
  | .crestB => s.crestB.counts
  | .valley => s.valley.counts

/-- A station's group of READ COUNTERS (R175, R207). -/
def stationCountsData (i : Nat) (s : State) : List Byte :=
  match s.station i with
  | none => vacant i
  | some x => byteOf i :: x.counts.bytes

/-- The part's group of READ COUNTERS (R175, R207). -/
def partCountsData (s : State) : List Byte :=
  [s.dispatch.stale, s.dispatch.mismatched, s.lost].flatMap be16

/-- READ RESET CAUSE (R183): one byte for each flag (log 17). -/
def causeData (c : ResetCause) : List Byte :=
  [boolByte c.powerOn, boolByte c.line, boolByte c.fullCommand, boolByte c.warmCommand, boolByte c.storeFault]

end Sys2Proof.Machine
end

