-- ==== Sys2Proof/Machine/Transmit.lean ====
section
/-! DEFINITION. The transmitters: what they take, and the end of an event (R16, R17). -/

namespace Sys2Proof.Machine

/-- The Valley transmitter takes a frame the part originates: the sequence counter rises by 1 and the frame
carries the new value (R2). -/
def State.originate (dst kind : Byte) (payload : List Byte) (effect : ReplyEffect) (s : State) : State :=
  let q := s.valley.seq + 1
  let f := composeFrame dst s.node kind q payload
  { s with valley := { s.valley with seq := q
                                     port := { s.valley.port with tx := some { frame := f, effect := effect } } } }

/-- The ALERT of a due record is taken and so sent (R16, R126). -/
def State.takeAlert (e : Entry) (r : SirenRecord) (s : State) : State :=
  (s.alertSent e.zone r.addr).originate r.addr kindAlert (alertPayload e) .nothing

/-- The head of the reply queue is taken (R16). -/
def State.takeReply (r : Reply) (rest : List Reply) (s : State) : State :=
  ({ s with replies := rest }).originate r.dst kindReply r.payload r.effect

/-- The oldest item of the outgoing list is taken and composed (R16, R187). -/
def State.takeNotice (it : OutItem) (rest : List OutItem) (s : State) : State :=
  let t := { s with notices := { s.notices with out := rest } }
  match it with
  | .notice c dst => t.originate dst kindNotice (noticePayload c s.notices) .nothing
  | .status dst => t.originate dst kindStatus (statusPayload s) .nothing

/-- The head of the valley forward queue is taken, byte for byte as it was received (R2, R16). -/
def State.takeForward (f : Frame) (rest : List Frame) (s : State) : State :=
  { s with valley := { s.valley with forward := rest
                                     port := { s.valley.port with tx := some { frame := f, effect := .nothing } } } }

/-- One taking of the Valley transmitter (R16): the first source that has something to send. -/
def State.takeValley (s : State) : State :=
  match dueRecord s.dispatch.queue with
  | some (e, r) => s.takeAlert e r
  | none =>
    match s.replies with
    | r :: rest => s.takeReply r rest
    | [] =>
      match s.notices.out with
      | it :: rest => s.takeNotice it rest
      | [] =>
        match s.valley.forward with
        | f :: rest => s.takeForward f rest
        | [] => s

/-- One taking of a crest transmitter (R17). -/
def CrestPort.take (c : CrestPort) : CrestPort :=
  match c.queue with
  | f :: rest => { c with queue := rest, port := { c.port with tx := some { frame := f, effect := .nothing } } }
  | [] => c

/-- An idle crest transmitter takes (R17). -/
def State.kickCrest (d : Side) (s : State) : State :=
  s.updCrest d (fun c => if c.port.tx.isSome then c else c.take)

/-- An idle Valley transmitter takes (R16). -/
def State.kickValley (s : State) : State :=
  if s.valley.port.tx.isSome then s else s.takeValley

/-- Every idle transmitter takes (R16, R17). -/
def State.kick (s : State) : State :=
  ((s.kickCrest .a).kickCrest .b).kickValley

/-- The queue order of contents set within one event (R122, log 18). -/
def State.orderAlerts (s old : State) : State :=
  { s with dispatch := { s.dispatch with queue := orderFresh old.dispatch.queue s.dispatch.queue } }

/-- The end of an event: the order of new alerts (R122), the outputs (R134), the transmitters (R16, R17). -/
def State.finish (old s : State) : State :=
  ((s.orderAlerts old).reevaluate old).kick

end Sys2Proof.Machine
end

