-- ==== Sys2Proof/Machine/RunningOut.lean ====
section
/-! DEFINITION. Runnings out: what a countdown that has reached 0, or a cadence phase that has reached its moment, lets
its owner do (R23, R135), and the settling that takes every one of them before anything else happens (log 4). -/

namespace Sys2Proof.Machine

/-! ## What each owner does -/

/-- Change one output, if there is one with the number. -/
def State.updOutput (k : Nat) (f : Output → Output) (s : State) : State :=
  match s.output k with
  | none => s
  | some o => s.setOutput k (f o)

/-- A silence countdown that has run out, taken (R33). -/
def State.takeSilence (i : Nat) (s : State) : State :=
  match s.station i with
  | none => s
  | some x => if x.silence = some 0 then s.stationSilent i x else s

/-- A blind countdown that has run out, taken (R74). -/
def State.takeBlind (i : Nat) (s : State) : State :=
  s.updSector i (fun x => if x.blindCd = some 0 then x.goBlind else x)

/-- A bin countdown that has run out, taken (R93). -/
def State.takeBin (i : Nat) (s : State) : State :=
  s.updSector i (fun x => if x.binCd = some 0 then x.advanceBin else x)

/-- The record of a siren in a zone's entry whose repeat countdown has run out. -/
def State.ranOut (z : Nat) (a : Byte) (s : State) : Option (Entry × SirenRecord) :=
  (entryOf z s.dispatch.queue).bind (fun e =>
    (e.records.find? (fun r => decide (r.addr = a))).bind (fun r => if r.cd = some 0 then some (e, r) else none))

/-- The tries limit of a zone (R126). -/
def State.triesLimit (z : Nat) (s : State) : Nat :=
  ((s.zone z).map (fun x => x.cfg.tries)).getD 0

/-- A repeat countdown that has run out, taken (R126): due again, or UNREACHED with its DELIVERY raising and the
entry judged for retirement (R128). -/
def State.takeRepeat (z : Nat) (a : Byte) (s : State) : State :=
  match s.ranOut z a with
  | none => s
  | some (e, r) =>
    let limit := s.triesLimit z
    let t := s.updEntry z (updRecord a (SirenRecord.judge limit))
    if r.tries < limit then t else t.raise (e.unreachedDetail r)

/-- The status countdown that has run out, taken (R190). -/
def State.takeStatus (s : State) : State :=
  if s.notices.statusCd = some 0 then
    { s with notices := ({ s.notices with statusCd := loadStatus s.notices.period }).enqueueStatuses s.console }
  else s

/-- A force that has run out, taken (R114). -/
def State.takeForce (z : Nat) (s : State) : State :=
  match s.zone z with
  | none => s
  | some x => if x.forceOut then s.setForce z none else s

/-- A hold that has run out, taken after any force that has (R112, R113, log 22). -/
def State.takeHold (z : Nat) (s : State) : State :=
  match s.zone z with
  | none => s
  | some x => if x.hold = some 0 ∧ x.forceOut = false then s.holdEnds z else s

/-- A refresh that has run out, taken after any force and hold that have (R113, R116, log 22). -/
def State.takeRefresh (z : Nat) (s : State) : State :=
  match s.zone z with
  | none => s
  | some x =>
    if x.refreshCd = some 0 ∧ x.hold ≠ some 0 ∧ x.forceOut = false then s.refreshRunsOut z else s

/-! ## Runnings out as one kind of event -/

/-- The kinds of running out, each of them a row of its own. -/
inductive RunningOut
  | onTime (k : Nat)
  | cycle (k : Nat)
  | silence (i : Nat)
  | blind (i : Nat)
  | bin (i : Nat)
  | again (z : Nat) (a : Byte)
  | status
  | force (z : Nat)
  | hold (z : Nat)
  | refresh (z : Nat)
deriving DecidableEq, Repr

/-- An output's phase stands at or past the on-time of a shorter cycle with the contact still closed (R135). -/
def Output.onTimeDue (o : Output) : Bool :=
  match o.cadence, o.phase with
  | some c, some p => o.closed && decide (c.onTime ≤ p ∧ p < c.cycle)
  | _, _ => false

/-- An output's phase stands at its cycle (R135). -/
def Output.cycleDue (o : Output) : Bool :=
  match o.cadence, o.phase with
  | some c, some p => decide (c.cycle ≤ p)
  | _, _ => false

/-- A running out has come and its owner has not yet acted (R23). -/
def State.due (s : State) : RunningOut → Bool
  | .onTime k => ((s.output k).map Output.onTimeDue).getD false
  | .cycle k => ((s.output k).map Output.cycleDue).getD false
  | .silence i => decide ((s.station i).bind (fun x => x.silence) = some 0)
  | .blind i => ((s.sector i).map (fun x => !x.cfg.parked && decide (x.blindCd = some 0))).getD false
  | .bin i => ((s.sector i).map (fun x => !x.cfg.parked && decide (x.binCd = some 0))).getD false
  | .again z a => (s.ranOut z a).isSome
  | .status => decide (s.notices.statusCd = some 0)
  | .force z => ((s.zone z).map Zone.forceOut).getD false
  | .hold z => ((s.zone z).map (fun x => decide (x.hold = some 0) && !x.forceOut)).getD false
  | .refresh z =>
    ((s.zone z).map (fun x => decide (x.refreshCd = some 0 ∧ x.hold ≠ some 0) && !x.forceOut)).getD false

/-- A running out, taken by its owner. -/
def State.runOut (r : RunningOut) (s : State) : State :=
  match r with
  | .onTime k => s.updOutput k Output.reachOnTime
  | .cycle k => s.updOutput k Output.boundary
  | .silence i => s.takeSilence i
  | .blind i => s.takeBlind i
  | .bin i => s.takeBin i
  | .again z a => s.takeRepeat z a
  | .status => s.takeStatus
  | .force z => s.takeForce z
  | .hold z => s.takeHold z
  | .refresh z => s.takeRefresh z

/-- The order in which runnings out that nothing has taken are taken (log 4): outputs, stations, sectors' blindness
and bins, siren records in queue order, status, and each zone's three in the order of R113. -/
def State.runningsOut (s : State) : List RunningOut :=
  (List.range 6).flatMap (fun k => [.onTime (k + 1), .cycle (k + 1)]) ++
  (List.range 16).map RunningOut.silence ++ (List.range 8).map RunningOut.blind ++
  (List.range 8).map RunningOut.bin ++
  s.dispatch.queue.flatMap (fun e => e.records.map (fun r => RunningOut.again e.zone r.addr)) ++
  [.status] ++ (List.range 12).flatMap (fun z => [.force z, .hold z, .refresh z])

/-- One running out, if it has come, taken as an event of its own. -/
def State.settleOne (s : State) (r : RunningOut) : State :=
  if s.due r then State.finish s (s.runOut r) else s

/-- What has run out runs out before anything else happens (R23, log 4). -/
def State.settle (s : State) : State :=
  s.runningsOut.foldl State.settleOne s

/-! ## Steps -/

/-- A running out's own step, ended as every event ends (R16, R17, R122, R134). -/
def runOutStep (t s : State) : Host.Outcome State Fault Refusal :=
  .next (State.finish s t)

/-- Any other event: what has run out is taken first, and then the event, ended as every event ends. -/
def eventStep (f : State → State) (s : State) : Host.Outcome State Fault Refusal :=
  .next (State.finish s.settle (f s.settle))

end Sys2Proof.Machine
end

