-- ==== Sys2Proof/Machine/StartUp.lean ====
section
/-! DEFINITION. The Table Store, start-up and the effect of RESTART (R19, R198 to R202). -/

namespace Sys2Proof.Machine

/-- The condition a start-up finds the store in (R198). -/
inductive StoreCondition
  | valid (img : Image)
  | empty
  | invalid
deriving DecidableEq, Repr

/-- The entries of a table that are not VACANT. -/
def loadedEntries {α : Type} {n : Nat} (v : Vector (Option α) n) : List α :=
  v.toList.filterMap id

/-- The node addresses an image names: stations, console list, siren lists (R198). -/
def Image.addresses (m : Image) : List Byte :=
  (loadedEntries m.stations).map (fun c => c.addr) ++ m.console ++
    (loadedEntries m.zones).flatMap (fun c => c.sirens)

/-- The store judged with the node address just read (R46, R198). -/
def judgeStore (node : Byte) : Store → StoreCondition
  | .void => .invalid
  | .empty => .empty
  | .image m => if node ∈ m.addresses then .invalid else .valid m

/-- The node address a strap setting gives (R1). -/
def nodeOf (st : Straps) : Byte :=
  byteOf (st.addr.val + 1)

/-- The image of the working tables and settings, empty when the mode is BLANK (R198, R199). -/
def State.imageNow (s : State) : Store :=
  if s.mode = .blank then .empty
  else .image
    { stations := mapEntries Station.cfg s.stations
      lanes := mapEntries Lane.cfg s.lanes
      sectors := mapEntries Sector.cfg s.sectors
      zones := mapEntries Zone.cfg s.zones
      outputs := mapTable Output.cfg s.outputs
      enables := s.notices.enables
      period := s.notices.period
      console := s.console
      watching := decide (s.mode = .watching) }

/-- A sector at a reset: parked, or started afresh with the latch as given (R89, R90). -/
def Sector.atReset (s : State) (cfg : SectorConfig) (trip : Option TripRecord) : Sector :=
  if cfg.parked then Sector.parkedFrom cfg else Sector.afresh s cfg trip

/-- Steps 3 and 4 of start-up (R19, R140, R132): ports afresh, straps read, queues and counters emptied. -/
def State.startPorts (s : State) : State :=
  { s with
    rate := s.straps.rate
    node := nodeOf s.straps
    crestA := CrestPort.fresh s.crestA.port.line
    crestB := CrestPort.fresh s.crestB.port.line
    valley := ValleyPort.fresh s.valley.port.line
    dispatch := { queue := [], stale := 0, mismatched := 0 }
    replies := []
    lost := 0
    save := none
    store := if s.save.isSome then .void else s.store }

/-- Every table VACANT and every output unset (R133, R197). -/
def State.emptyTables (s : State) : State :=
  { s with
    stations := Vector.replicate 16 none
    lanes := Vector.replicate 32 none
    sectors := Vector.replicate 8 none
    zones := Vector.replicate 12 none
    outputs := Vector.replicate 6 (Output.idle OutputConfig.unset)
    mode := .blank }

/-- Step 6 of start-up from a VALID store, with stations, lanes and zones started afresh (R46, R65, R120). -/
def State.restore (m : Image) (s : State) : State :=
  { s with
    stations := mapEntries (fun (c : StationConfig) => Station.afresh c StationCounts.zero) m.stations
    lanes := mapEntries Lane.fresh m.lanes
    zones := mapEntries Zone.fresh m.zones
    outputs := mapTable Output.idle m.outputs
    notices := NoticeUnit.fresh m.enables m.period
    console := m.console
    mode := if m.watching then .watching else .commissioning }

/-- Every sector of an image started afresh, or parked (R89). -/
def State.restoreSectors (m : Image) (s : State) : State :=
  { s with sectors := mapEntries (fun (c : SectorConfig) => Sector.atReset s c none) m.sectors }

/-- All six enables on (R192). -/
def Enables.on : Enables :=
  { stage := true, source := true, silence := true, delivery := true, trip := true, fault := true }

/-- Step 6 of start-up from an EMPTY or INVALID store (R200). -/
def State.startEmpty (s : State) : State :=
  { s.emptyTables with
    notices := NoticeUnit.fresh Enables.on 0
    console := []
    cause := { s.cause with storeFault := true } }

/-- The CLOCK UNSET raising of step 7, at power-on alone (R200). -/
def State.raiseClock (power : Bool) (s : State) : State :=
  if power then s.raise .clockUnset else s

/-- Steps 6 to 8 of start-up (R200). -/
def State.startTables (power : Bool) (s : State) : State :=
  match judgeStore s.node s.store with
  | .valid m => eachBelow 12 State.evaluateZone ((((s.restore m).restoreSectors m).raiseClock power))
  | _ => (s.startEmpty.raiseClock power).raise .storeFault

/-- Step 9 of start-up (R192, R138). -/
def State.startLast (s : State) : State :=
  ({ s with notices := { s.notices with statusCd := loadStatus s.notices.period } }).evaluateAll

/-- Start-up, steps 3 to 9 (R200); the caller has taken steps 1 and 2. -/
def State.startUp (power : Bool) (s : State) : State :=
  (s.startPorts.startTables power).startLast

/-- A power-on's first two steps: the time base, the reset cause record (R28, R202), and every receive line at
mark (log 11). -/
def State.powerUp (s : State) : State :=
  { s with
    time := TimeBase.powerOn
    cause := { powerOn := true, line := false, fullCommand := false, warmCommand := false, storeFault := false }
    crestA := CrestPort.fresh .mark
    crestB := CrestPort.fresh .mark
    valley := ValleyPort.fresh .mark }

/-- The effect of a RESET command (R182, R200). -/
def State.resetEffect (s : State) : State :=
  ({ s with cause := { s.cause with fullCommand := true } }).startUp false

/-- Step 3 of RESTART at the stations and lanes (R46, R65): afresh, the station counters kept. -/
def State.restartLanes (s : State) : State :=
  { s with
    stations := mapEntries (fun (y : Station) => Station.afresh y.cfg y.counts) s.stations
    lanes := mapEntries (fun (y : Lane) => Lane.fresh y.cfg) s.lanes }

/-- Step 3 of RESTART at the sectors (R90, log 19): all started afresh with their latches kept, and then every
changed one hands its sector change. -/
def State.restartSectors (s : State) : State :=
  let t := { s with sectors := mapEntries (fun (y : Sector) => Sector.atReset s y.cfg y.trip) s.sectors }
  eachBelow 8 (fun i u => if sectorView (s.sector i) = sectorView (t.sector i) then u else u.sectorChange i) t

/-- The effect of a RESTART command (R201). -/
def State.restartEffect (s : State) : State :=
  let a := { s with
    cause := { s.cause with warmCommand := true }
    zones := mapEntries Zone.restart s.zones }
  a.restartLanes.restartSectors.restartOutputs

/-- What waits on a reply's transmit completion (R181, R182). -/
def State.applyEffect (e : ReplyEffect) (s : State) : State :=
  match e with
  | .nothing => s
  | .restart => s.restartEffect
  | .reset => s.resetEffect

/-- ERASE TABLES on the tables (R197). -/
def State.eraseAll (s : State) : State :=
  { s.emptyTables with dispatch := { s.dispatch with queue := [] } }

end Sys2Proof.Machine
end

