-- ==== Sys2Proof/Machine/CommandUnit.lean ====
section
/-! DEFINITION. The command unit: what becomes of a command that has passed checks 1 to 6, and the shared parts of
the thirty-nine commands (R139 to R144). -/

namespace Sys2Proof.Machine

/-- What checks 7 to 10 and the execution of a command come to (R141). -/
inductive Verdict
  /-- Refused with an outcome and the data of an INCOMPLETE reply, or none. -/
  | refuse (o : Outcome) (data : List Byte)
  /-- Executed: the state it leaves, the data of its DONE reply and what waits on the reply's completion. -/
  | done (s : State) (data : List Byte) (effect : ReplyEffect)
  /-- SAVE TABLES executed: a place is reserved and no reply is queued (R179). -/
  | reserve (s : State)
deriving DecidableEq, Repr

/-- The payload of a reply (R144, R207); data that does not fit a frame is a free value (log 6). -/
def replyPayload (code tag : Byte) (o : Outcome) (data : List Byte) : List Byte :=
  code :: tag :: o.code :: (if data.length ≤ 53 then data else (Config.overlongReply data).take 53)

/-- A reply joins the tail of the reply queue (R140). -/
def State.reply (dst code tag : Byte) (o : Outcome) (data : List Byte) (e : ReplyEffect) (s : State) : State :=
  { s with replies := s.replies ++ [{ dst := dst, payload := replyPayload code tag o data, effect := e }] }

/-- The places of the reply queue that are held (R140). -/
def State.heldPlaces (s : State) : Nat :=
  s.replies.length + (if s.save.isSome then 1 else 0)

/-- A command discarded because all four places are held (R140). -/
def State.loseCommand (src code : Byte) (s : State) : State :=
  ({ s with lost := satInc s.lost }).raise (.replyLost src code)

/-- A verdict answered (R140, R144). -/
def State.answer (src code tag : Byte) (s : State) : Verdict → State
  | .refuse o data => s.reply src code tag o data .nothing
  | .done t data e => t.reply src code tag .done data e
  | .reserve t => t

/-- The commands taken from any address (R142). -/
def isReading (c : Command) : Bool :=
  match c with
  | .readIdent => true
  | .readClock => true
  | .readStation => true
  | .readLane => true
  | .readSector => true
  | .readZone => true
  | .readDispatch => true
  | .readOutput => true
  | .readNotices => true
  | .readCounters => true
  | .readResetCause => true
  | _ => false

/-- Check 6 of R141: the command is allowed in the present mode (R195). -/
def modeOk (c : Command) (args : List Byte) (m : Mode) : Bool :=
  match c with
  | .goWatch => decide (m = .commissioning)
  | .goCommission => decide (m = .watching)
  | .eraseTables => decide (m ≠ .watching)
  | .parkStation => decide (m ≠ .blank)
  | .clearTrip => decide (m ≠ .blank)
  | .forceStage => decide (m ≠ .blank)
  | .loadConsole => decide (m ≠ .watching) || decide (arg args 0 ≠ 0)
  | _ => true

/-- Checks 3 to 6 of R141: the outcome of the first that fails. -/
def earlyRefusal (c : Command) (src : Byte) (args : List Byte) (s : State) : Option Outcome :=
  if !lengthOk c args then some .badForm
  else if !isReading c && !s.console.isEmpty && decide (src ∉ s.console) then some .notConsole
  else if !isReading c && s.save.isSome then some .busy
  else if !modeOk c args s.mode then some .mode
  else none

/-- A command taken by the command unit, with the body that makes checks 7 to 10 and executes it (R140, R141). -/
def State.takeCommand (c : Command) (body : State → Verdict) (src tag : Byte) (args : List Byte) (s : State) : State :=
  if 4 ≤ s.heldPlaces then s.loseCommand src c.code
  else
    match earlyRefusal c src args s with
    | some o => s.reply src c.code tag o [] .nothing
    | none => s.answer src c.code tag (body s)

/-- The step of one command at the command unit: what has run out, and then the command is taken, and the event ends. -/
def commandStep (c : Command) (body : State → Verdict) (src tag : Byte) (args : List Byte) (s : State) :
    Host.Outcome State Fault Refusal :=
  eventStep (State.takeCommand c body src tag args) s

/-! ## Shared parts of the bodies -/

/-- A reading command answered DONE (R144). -/
def reading (data : List Byte) (s : State) : Verdict :=
  .done s data .nothing

/-- A writing command answered DONE. -/
def written (s : State) : Verdict :=
  .done s [] .nothing

/-- A write answered after check 10 of R141, on the tables as it would leave them. -/
def checkedWrite (s after result : State) : Verdict :=
  match s.writeFailure after with
  | some data => .refuse .incomplete data
  | none => written result

/-- The move out of BLANK, made within a LOAD before its effects (R195). -/
def State.leaveBlank (s : State) : State :=
  if s.mode = .blank then { s with mode := .commissioning } else s

end Sys2Proof.Machine
end

