-- ==== Sys2Proof/Machine/IdentCommands.lean ====
section
/-! DEFINITION. Identity, clock and console commands (R146 to R149). -/

namespace Sys2Proof.Machine

/-- READ IDENT (R146). -/
def bodyReadIdent (_args : List Byte) (s : State) : Verdict :=
  reading (identData s) s

/-- READ_IDENT at the command unit (R146). -/
def execReadIdent (src tag : Byte) (args : List Byte) (s : State) : Host.Outcome State Fault Refusal :=
  commandStep .readIdent (bodyReadIdent args) src tag args s

/-- READ CLOCK (R147). -/
def bodyReadClock (_args : List Byte) (s : State) : Verdict :=
  reading (clockData s) s

/-- READ_CLOCK at the command unit (R147). -/
def execReadClock (src tag : Byte) (args : List Byte) (s : State) : Host.Outcome State Fault Refusal :=
  commandStep .readClock (bodyReadClock args) src tag args s

/-- SET CLOCK (R25, R148): counters as written, CLOCK UNSET clear, prescaler started afresh. -/
def bodySetClock (args : List Byte) (s : State) : Verdict :=
  match clockArgs args with
  | none => .refuse .range []
  | some t => written { s with time := { now := t, phase := 0 } }

/-- SET_CLOCK at the command unit (R25). -/
def execSetClock (src tag : Byte) (args : List Byte) (s : State) : Host.Outcome State Fault Refusal :=
  commandStep .setClock (bodySetClock args) src tag args s

/-- LOAD CONSOLE (R149). -/
def bodyLoadConsole (args : List Byte) (s : State) : Verdict :=
  match consoleArgs s.node args with
  | none => .refuse .range []
  | some l => written { s with console := l }

/-- LOAD_CONSOLE at the command unit (R149). -/
def execLoadConsole (src tag : Byte) (args : List Byte) (s : State) : Host.Outcome State Fault Refusal :=
  commandStep .loadConsole (bodyLoadConsole args) src tag args s

end Sys2Proof.Machine
end

