-- ==== Sys2Proof/Machine/LaneCommands.lean ====
section
/-! DEFINITION. Lane commands (R63, R64, R155 to R157). -/

namespace Sys2Proof.Machine

/-- LOAD LANE (R63, R155). -/
def bodyLoadLane (args : List Byte) (s : State) : Verdict :=
  let i := arg args 0
  match laneArgs args with
  | none => .refuse .range []
  | some c => checkedWrite s (s.setLane i (some (Lane.fresh c))) (s.leaveBlank.writeLane i c)

/-- LOAD_LANE at the command unit (R63). -/
def execLoadLane (src tag : Byte) (args : List Byte) (s : State) : Host.Outcome State Fault Refusal :=
  commandStep .loadLane (bodyLoadLane args) src tag args s

/-- CLEAR LANE (R64, R156). -/
def bodyClearLane (args : List Byte) (s : State) : Verdict :=
  let i := arg args 0
  if 32 ≤ i then .refuse .range [] else checkedWrite s (s.setLane i none) (s.clearLaneEntry i)

/-- CLEAR_LANE at the command unit (R64). -/
def execClearLane (src tag : Byte) (args : List Byte) (s : State) : Host.Outcome State Fault Refusal :=
  commandStep .clearLane (bodyClearLane args) src tag args s

/-- READ LANE (R157). -/
def bodyReadLane (args : List Byte) (s : State) : Verdict :=
  if 32 ≤ arg args 0 then .refuse .range [] else reading (laneData (arg args 0) s) s

/-- READ_LANE at the command unit (R157). -/
def execReadLane (src tag : Byte) (args : List Byte) (s : State) : Host.Outcome State Fault Refusal :=
  commandStep .readLane (bodyReadLane args) src tag args s

end Sys2Proof.Machine
end

