-- ==== Sys2Proof/Machine/ModeCommands.lean ====
section
/-! DEFINITION. Mode, store and reset commands (R177 to R184, R196 to R199). -/

namespace Sys2Proof.Machine

/-- GO WATCH taken (R196): the mode, and every zone above QUIET announces, ascending. -/
def State.enterWatching (s : State) : State :=
  eachBelow 12 State.announce { s with mode := .watching }

/-- GO WATCH (R177, R196). -/
def bodyGoWatch (_args : List Byte) (s : State) : Verdict :=
  match s.firstFailure with
  | some data => .refuse .incomplete data
  | none => written s.enterWatching

/-- GO_WATCH at the command unit (R196). -/
def execGoWatch (src tag : Byte) (args : List Byte) (s : State) : Host.Outcome State Fault Refusal :=
  commandStep .goWatch (bodyGoWatch args) src tag args s

/-- A zone whose refresh countdown is stopped (R116). -/
def Zone.stopRefresh (x : Zone) : Zone :=
  { x with refreshCd := none }

/-- GO COMMISSION taken (R196): the mode, and every refresh countdown stopped. -/
def State.enterCommissioning (s : State) : State :=
  { s with mode := .commissioning, zones := mapEntries Zone.stopRefresh s.zones }

/-- GO COMMISSION (R178, R196). -/
def bodyGoCommission (_args : List Byte) (s : State) : Verdict :=
  written s.enterCommissioning

/-- GO_COMMISSION at the command unit (R178). -/
def execGoCommission (src tag : Byte) (args : List Byte) (s : State) : Host.Outcome State Fault Refusal :=
  commandStep .goCommission (bodyGoCommission args) src tag args s

/-- SAVE TABLES taken (R199): the image is taken, the store's check code made void, a place reserved. -/
def State.startSave (src tag : Byte) (s : State) : State :=
  { s with store := .void, save := some { content := s.imageNow, dst := src, tag := tag } }

/-- SAVE TABLES (R179, R199). -/
def bodySaveTables (src tag : Byte) (_args : List Byte) (s : State) : Verdict :=
  .reserve (s.startSave src tag)

/-- SAVE_TABLES at the command unit (R179). -/
def execSaveTables (src tag : Byte) (args : List Byte) (s : State) : Host.Outcome State Fault Refusal :=
  commandStep .saveTables (bodySaveTables src tag args) src tag args s

/-- ERASE TABLES (R180, R197). -/
def bodyEraseTables (_args : List Byte) (s : State) : Verdict :=
  if s.anySector Sector.latched then .refuse .latched [] else written s.eraseAll

/-- ERASE_TABLES at the command unit (R197). -/
def execEraseTables (src tag : Byte) (args : List Byte) (s : State) : Host.Outcome State Fault Refusal :=
  commandStep .eraseTables (bodyEraseTables args) src tag args s

/-- RESTART (R181): its effect waits on its reply's completion. -/
def bodyRestart (_args : List Byte) (s : State) : Verdict :=
  .done s [] .restart

/-- RESTART at the command unit (R181). -/
def execRestart (src tag : Byte) (args : List Byte) (s : State) : Host.Outcome State Fault Refusal :=
  commandStep .restart (bodyRestart args) src tag args s

/-- RESET (R182): its effect waits on its reply's completion. -/
def bodyReset (_args : List Byte) (s : State) : Verdict :=
  .done s [] .reset

/-- RESET at the command unit (R182). -/
def execReset (src tag : Byte) (args : List Byte) (s : State) : Host.Outcome State Fault Refusal :=
  commandStep .reset (bodyReset args) src tag args s

/-- READ RESET CAUSE (R183). -/
def bodyReadResetCause (_args : List Byte) (s : State) : Verdict :=
  reading (causeData s.cause) s

/-- READ_RESET_CAUSE at the command unit (R183). -/
def execReadResetCause (src tag : Byte) (args : List Byte) (s : State) : Host.Outcome State Fault Refusal :=
  commandStep .readResetCause (bodyReadResetCause args) src tag args s

/-- The record emptied (R202). -/
def ResetCause.empty : ResetCause :=
  { powerOn := false, line := false, fullCommand := false, warmCommand := false, storeFault := false }

/-- CLEAR RESET CAUSE (R184). -/
def bodyClearResetCause (_args : List Byte) (s : State) : Verdict :=
  written { s with cause := ResetCause.empty }

/-- CLEAR_RESET_CAUSE at the command unit (R184). -/
def execClearResetCause (src tag : Byte) (args : List Byte) (s : State) : Host.Outcome State Fault Refusal :=
  commandStep .clearResetCause (bodyClearResetCause args) src tag args s

end Sys2Proof.Machine
end

