-- ==== Sys2Proof/Machine/NoticeCommands.lean ====
section
/-! DEFINITION. Notice and counter commands (R172 to R176, R188, R193). -/

namespace Sys2Proof.Machine

/-- SET NOTICES on the notice unit (R188, R190). The six classes are taken in the order of their numbers, each with its
queuing or its withdrawal: the model's choice (log 27). -/
def NoticeUnit.write (set : Byte) (period : Nat) (console : List Byte) (u : NoticeUnit) : NoticeUnit :=
  let v := NoticeClass.all.foldl (fun w c => w.writeEnable c (inClassSet set c) console) u
  { v with period := period, statusCd := loadStatus period }

/-- SET NOTICES (R172, R188). -/
def bodySetNotices (args : List Byte) (s : State) : Verdict :=
  match periodArgs args with
  | none => .refuse .range []
  | some p => written { s with notices := s.notices.write (args.getD 0 0) p s.console }

/-- SET_NOTICES at the command unit (R188). -/
def execSetNotices (src tag : Byte) (args : List Byte) (s : State) : Host.Outcome State Fault Refusal :=
  commandStep .setNotices (bodySetNotices args) src tag args s

/-- READ NOTICES (R173). -/
def bodyReadNotices (args : List Byte) (s : State) : Verdict :=
  match NoticeClass.ofNum (arg args 0) with
  | none => .refuse .range []
  | some c => reading (noticesData c s.notices) s

/-- READ_NOTICES at the command unit (R173). -/
def execReadNotices (src tag : Byte) (args : List Byte) (s : State) : Host.Outcome State Fault Refusal :=
  commandStep .readNotices (bodyReadNotices args) src tag args s

/-- CLEAR NOTICES on the notice unit (R188). -/
def NoticeUnit.clearSet (set : Byte) (u : NoticeUnit) : NoticeUnit :=
  NoticeClass.all.foldl (fun w c => if inClassSet set c then w.clearClass c else w) u

/-- CLEAR NOTICES (R174, R188). -/
def bodyClearNotices (args : List Byte) (s : State) : Verdict :=
  written { s with notices := s.notices.clearSet (args.getD 0 0) }

/-- CLEAR_NOTICES at the command unit (R188). -/
def execClearNotices (src tag : Byte) (args : List Byte) (s : State) : Host.Outcome State Fault Refusal :=
  commandStep .clearNotices (bodyClearNotices args) src tag args s

/-- The group READ COUNTERS reports (R175). -/
def groupData (g : CounterGroup) (s : State) : List Byte :=
  match g with
  | .port p => (portCounts p s).flatMap be16
  | .part => partCountsData s
  | .station i => stationCountsData i s

/-- READ COUNTERS (R175). -/
def bodyReadCounters (args : List Byte) (s : State) : Verdict :=
  match selectorArgs (arg args 0) with
  | none => .refuse .range []
  | some g => reading (groupData g s) s

/-- READ_COUNTERS at the command unit (R175). -/
def execReadCounters (src tag : Byte) (args : List Byte) (s : State) : Host.Outcome State Fault Refusal :=
  commandStep .readCounters (bodyReadCounters args) src tag args s

/-- A port's counts set to 0. -/
def Port.zeroCounts (p : Port) : Port :=
  { p with received := 0, crcError := 0, framing := 0, oversize := 0, badAddress := 0, sent := 0 }

def CrestPort.zeroCounts (c : CrestPort) : CrestPort :=
  { c with port := c.port.zeroCounts, wrongSide := 0, parked := 0, unknownSource := 0, crestDrop := 0 }

def ValleyPort.zeroCounts (v : ValleyPort) : ValleyPort :=
  { v with port := v.port.zeroCounts, notForPart := 0, forwardDrop := 0 }

/-- A station's counts set to 0; a parked one keeps none (R43, R176). -/
def Station.zeroCounts (x : Station) : Station :=
  if x.cfg.parked then x else { x with counts := StationCounts.zero }

def Zone.zeroUndispatched (x : Zone) : Zone :=
  { x with undispatched := 0 }

/-- Every counter of R176 set to 0. -/
def State.zeroCounters (s : State) : State :=
  { s with
    crestA := s.crestA.zeroCounts
    crestB := s.crestB.zeroCounts
    valley := s.valley.zeroCounts
    stations := mapEntries Station.zeroCounts s.stations
    dispatch := { s.dispatch with stale := 0, mismatched := 0 }
    lost := 0
    zones := mapEntries Zone.zeroUndispatched s.zones }

/-- CLEAR COUNTERS (R176). -/
def bodyClearCounters (_args : List Byte) (s : State) : Verdict :=
  written s.zeroCounters

/-- CLEAR_COUNTERS at the command unit (R176). -/
def execClearCounters (src tag : Byte) (args : List Byte) (s : State) : Host.Outcome State Fault Refusal :=
  commandStep .clearCounters (bodyClearCounters args) src tag args s

end Sys2Proof.Machine
end

