-- ==== Sys2Proof/Machine/OutputCommands.lean ====
section
/-! DEFINITION. Output commands (R136, R170, R171). -/

namespace Sys2Proof.Machine

/-- LOAD OUTPUT (R136, R170). -/
def bodyLoadOutput (args : List Byte) (s : State) : Verdict :=
  match outputArgs args with
  | none => .refuse .range []
  | some c => written (s.leaveBlank.writeOutput (arg args 0) c)

/-- LOAD_OUTPUT at the command unit (R136). -/
def execLoadOutput (src tag : Byte) (args : List Byte) (s : State) : Host.Outcome State Fault Refusal :=
  commandStep .loadOutput (bodyLoadOutput args) src tag args s

/-- READ OUTPUT (R171). -/
def bodyReadOutput (args : List Byte) (s : State) : Verdict :=
  if inRange 1 6 (arg args 0) then reading (outputData (arg args 0) s) s else .refuse .range []

/-- READ_OUTPUT at the command unit (R171). -/
def execReadOutput (src tag : Byte) (args : List Byte) (s : State) : Host.Outcome State Fault Refusal :=
  commandStep .readOutput (bodyReadOutput args) src tag args s

end Sys2Proof.Machine
end

