-- ==== Sys2Proof/Machine/SectorCommands.lean ====
section
/-! DEFINITION. Sector commands (R84 to R87, R102, R158 to R163). -/

namespace Sys2Proof.Machine

/-- A lane range shares a lane with the range of another loaded sector (R66, R158). -/
def rangeOverlaps (s : State) (i : Nat) (c : SectorConfig) : Bool :=
  (List.range 8).any (fun j => decide (j ≠ i) &&
    ((s.sector j).map (fun x => c.range.any (fun l => x.cfg.range.contains l))).getD false)

/-- A sector entry is loaded and parked. -/
def sectorParked (s : State) (i : Nat) : Bool :=
  ((s.sector i).map (fun x => x.cfg.parked)).getD false

/-- A sector entry is loaded and its trip latch is set. -/
def sectorLatched (s : State) (i : Nat) : Bool :=
  ((s.sector i).map Sector.latched).getD false

/-- LOAD SECTOR on the tables (R84). -/
def State.writeSector (i : Nat) (c : SectorConfig) (s : State) : State :=
  s.putSector i (some (Sector.afresh s c none))

/-- LOAD SECTOR (R84, R158). -/
def bodyLoadSector (args : List Byte) (s : State) : Verdict :=
  let i := arg args 0
  match sectorArgs args with
  | none => .refuse .range []
  | some c =>
    if rangeOverlaps s i c then .refuse .range []
    else if sectorParked s i then .refuse .parked []
    else if sectorLatched s i then .refuse .latched []
    else checkedWrite s (s.setSector i (some (Sector.start s c none))) (s.leaveBlank.writeSector i c)

/-- LOAD_SECTOR at the command unit (R84). -/
def execLoadSector (src tag : Byte) (args : List Byte) (s : State) : Host.Outcome State Fault Refusal :=
  commandStep .loadSector (bodyLoadSector args) src tag args s

/-- CLEAR SECTOR (R85, R159). -/
def bodyClearSector (args : List Byte) (s : State) : Verdict :=
  let i := arg args 0
  if 8 ≤ i then .refuse .range []
  else if sectorParked s i then .refuse .parked []
  else if sectorLatched s i then .refuse .latched []
  else checkedWrite s (s.setSector i none) (s.putSector i none)

/-- CLEAR_SECTOR at the command unit (R85). -/
def execClearSector (src tag : Byte) (args : List Byte) (s : State) : Host.Outcome State Fault Refusal :=
  commandStep .clearSector (bodyClearSector args) src tag args s

/-- READ SECTOR (R160). -/
def bodyReadSector (args : List Byte) (s : State) : Verdict :=
  if 8 ≤ arg args 0 ∨ 2 < arg args 1 then .refuse .range [] else reading (sectorData (arg args 0) (arg args 1) s) s

/-- READ_SECTOR at the command unit (R160). -/
def execReadSector (src tag : Byte) (args : List Byte) (s : State) : Host.Outcome State Fault Refusal :=
  commandStep .readSector (bodyReadSector args) src tag args s

/-- PARK SECTOR on the tables (R86). -/
def State.parkSectorEntry (i : Nat) (x : Sector) (s : State) : State :=
  if x.cfg.parked then s else s.putSector i (some (Sector.parkedFrom x.cfg))

/-- PARK SECTOR (R86, R161). -/
def bodyParkSector (args : List Byte) (s : State) : Verdict :=
  match s.sector (arg args 0) with
  | none => .refuse .range []
  | some x => if x.latched then .refuse .latched [] else written (s.parkSectorEntry (arg args 0) x)

/-- PARK_SECTOR at the command unit (R86). -/
def execParkSector (src tag : Byte) (args : List Byte) (s : State) : Host.Outcome State Fault Refusal :=
  commandStep .parkSector (bodyParkSector args) src tag args s

/-- UNPARK SECTOR on the tables (R87). -/
def State.unparkSectorEntry (i : Nat) (x : Sector) (s : State) : State :=
  if x.cfg.parked then s.putSector i (some (Sector.afresh s { x.cfg with parked := false } none)) else s

/-- UNPARK SECTOR (R87, R162). -/
def bodyUnparkSector (args : List Byte) (s : State) : Verdict :=
  match s.sector (arg args 0) with
  | none => .refuse .range []
  | some x => written (s.unparkSectorEntry (arg args 0) x)

/-- UNPARK_SECTOR at the command unit (R87). -/
def execUnparkSector (src tag : Byte) (args : List Byte) (s : State) : Host.Outcome State Fault Refusal :=
  commandStep .unparkSector (bodyUnparkSector args) src tag args s

/-- CLEAR TRIP (R102, R163). -/
def bodyClearTrip (args : List Byte) (s : State) : Verdict :=
  match s.sector (arg args 0) with
  | none => .refuse .range []
  | some _ => written (s.clearLatch (arg args 0))

/-- CLEAR_TRIP at the command unit (R102). -/
def execClearTrip (src tag : Byte) (args : List Byte) (s : State) : Host.Outcome State Fault Refusal :=
  commandStep .clearTrip (bodyClearTrip args) src tag args s

end Sys2Proof.Machine
end

