-- ==== Sys2Proof/Machine/StationCommands.lean ====
section
/-! DEFINITION. Station commands (R41 to R44, R150 to R154). -/

namespace Sys2Proof.Machine

/-- Another loaded entry has an address (R150). -/
def addressTaken (s : State) (i : Nat) (a : Byte) : Bool :=
  (List.range 16).any (fun j => decide (j ≠ i) && decide ((s.station j).map (fun x => x.cfg.addr) = some a))

/-- A station entry is loaded and parked. -/
def stationParked (s : State) (i : Nat) : Bool :=
  ((s.station i).map (fun x => x.cfg.parked)).getD false

/-- LOAD STATION (R41, R150). -/
def bodyLoadStation (args : List Byte) (s : State) : Verdict :=
  let i := arg args 0
  match stationArgs args with
  | none => .refuse .range []
  | some c =>
    if decide (c.addr = s.node) || addressTaken s i c.addr then .refuse .range []
    else if stationParked s i then .refuse .parked []
    else checkedWrite s (s.setStation i (some (Station.afresh c StationCounts.zero))) (s.leaveBlank.writeStation i c)

/-- LOAD_STATION at the command unit (R41). -/
def execLoadStation (src tag : Byte) (args : List Byte) (s : State) : Host.Outcome State Fault Refusal :=
  commandStep .loadStation (bodyLoadStation args) src tag args s

/-- CLEAR STATION (R42, R151). -/
def bodyClearStation (args : List Byte) (s : State) : Verdict :=
  let i := arg args 0
  if 16 ≤ i then .refuse .range []
  else if stationParked s i then .refuse .parked []
  else checkedWrite s (s.setStation i none) (s.clearStationEntry i)

/-- CLEAR_STATION at the command unit (R42). -/
def execClearStation (src tag : Byte) (args : List Byte) (s : State) : Host.Outcome State Fault Refusal :=
  commandStep .clearStation (bodyClearStation args) src tag args s

/-- READ STATION (R152). -/
def bodyReadStation (args : List Byte) (s : State) : Verdict :=
  if 16 ≤ arg args 0 then .refuse .range [] else reading (stationData (arg args 0) s) s

/-- READ_STATION at the command unit (R152). -/
def execReadStation (src tag : Byte) (args : List Byte) (s : State) : Host.Outcome State Fault Refusal :=
  commandStep .readStation (bodyReadStation args) src tag args s

/-- PARK STATION (R43, R153). -/
def bodyParkStation (args : List Byte) (s : State) : Verdict :=
  match s.station (arg args 0) with
  | none => .refuse .range []
  | some _ => written (s.parkStationEntry (arg args 0))

/-- PARK_STATION at the command unit (R43). -/
def execParkStation (src tag : Byte) (args : List Byte) (s : State) : Host.Outcome State Fault Refusal :=
  commandStep .parkStation (bodyParkStation args) src tag args s

/-- UNPARK STATION (R44, R154). -/
def bodyUnparkStation (args : List Byte) (s : State) : Verdict :=
  match s.station (arg args 0) with
  | none => .refuse .range []
  | some _ => written (s.unparkStationEntry (arg args 0))

/-- UNPARK_STATION at the command unit (R44). -/
def execUnparkStation (src tag : Byte) (args : List Byte) (s : State) : Host.Outcome State Fault Refusal :=
  commandStep .unparkStation (bodyUnparkStation args) src tag args s

end Sys2Proof.Machine
end

