-- ==== Sys2Proof/Machine/ZoneCommands.lean ====
section
/-! DEFINITION. Zone and dispatch commands (R114, R118, R119, R164 to R169). -/

namespace Sys2Proof.Machine

/-- LOAD ZONE (R118, R164). -/
def bodyLoadZone (args : List Byte) (s : State) : Verdict :=
  let z := arg args 0
  match zoneArgs s.node args with
  | none => .refuse .range []
  | some c => checkedWrite s (s.setZone z (some (Zone.fresh c))) (s.leaveBlank.writeZone z c)

/-- LOAD_ZONE at the command unit (R118). -/
def execLoadZone (src tag : Byte) (args : List Byte) (s : State) : Host.Outcome State Fault Refusal :=
  commandStep .loadZone (bodyLoadZone args) src tag args s

/-- CLEAR ZONE (R119, R165). -/
def bodyClearZone (args : List Byte) (s : State) : Verdict :=
  let z := arg args 0
  if 12 ≤ z then .refuse .range [] else checkedWrite s (s.setZone z none) (s.clearZoneEntry z)

/-- CLEAR_ZONE at the command unit (R119). -/
def execClearZone (src tag : Byte) (args : List Byte) (s : State) : Host.Outcome State Fault Refusal :=
  commandStep .clearZone (bodyClearZone args) src tag args s

/-- READ ZONE (R166). -/
def bodyReadZone (args : List Byte) (s : State) : Verdict :=
  if 12 ≤ arg args 0 then .refuse .range [] else reading (zoneData (arg args 0) s) s

/-- READ_ZONE at the command unit (R166). -/
def execReadZone (src tag : Byte) (args : List Byte) (s : State) : Host.Outcome State Fault Refusal :=
  commandStep .readZone (bodyReadZone args) src tag args s

/-- FORCE STAGE (R114, R167). -/
def bodyForceStage (args : List Byte) (s : State) : Verdict :=
  match s.zone (arg args 0), forceArgs args with
  | some _, some f => written (s.setForce (arg args 0) (some f))
  | _, _ => .refuse .range []

/-- FORCE_STAGE at the command unit (R114). -/
def execForceStage (src tag : Byte) (args : List Byte) (s : State) : Host.Outcome State Fault Refusal :=
  commandStep .forceStage (bodyForceStage args) src tag args s

/-- RELEASE FORCE (R114, R168). -/
def bodyReleaseForce (args : List Byte) (s : State) : Verdict :=
  match s.zone (arg args 0) with
  | none => .refuse .range []
  | some x => written (if x.force.isSome then s.setForce (arg args 0) none else s)

/-- RELEASE_FORCE at the command unit (R168). -/
def execReleaseForce (src tag : Byte) (args : List Byte) (s : State) : Host.Outcome State Fault Refusal :=
  commandStep .releaseForce (bodyReleaseForce args) src tag args s

/-- READ DISPATCH (R169). -/
def bodyReadDispatch (args : List Byte) (s : State) : Verdict :=
  if 12 ≤ arg args 0 then .refuse .range [] else reading (dispatchData (arg args 0) s) s

/-- READ_DISPATCH at the command unit (R169). -/
def execReadDispatch (src tag : Byte) (args : List Byte) (s : State) : Host.Outcome State Fault Refusal :=
  commandStep .readDispatch (bodyReadDispatch args) src tag args s

end Sys2Proof.Machine
end

