-- ==== Sys2Proof/Machine/Ports.lean ====
section
/-! DEFINITION. The ports: what becomes of a character, of a good frame and of a COMMAND payload (R3 to R15, R139). -/

namespace Sys2Proof.Machine

/-! ## COMMAND payloads (R139, R141 checks 1 and 2) -/

/-- The body of a command: checks 7 to 10 and execution. -/
def bodyOf (c : Command) (src tag : Byte) (args : List Byte) : State → Verdict :=
  match c with
  | .readIdent => bodyReadIdent args
  | .readClock => bodyReadClock args
  | .setClock => bodySetClock args
  | .loadConsole => bodyLoadConsole args
  | .loadStation => bodyLoadStation args
  | .clearStation => bodyClearStation args
  | .readStation => bodyReadStation args
  | .parkStation => bodyParkStation args
  | .unparkStation => bodyUnparkStation args
  | .loadLane => bodyLoadLane args
  | .clearLane => bodyClearLane args
  | .readLane => bodyReadLane args
  | .loadSector => bodyLoadSector args
  | .clearSector => bodyClearSector args
  | .readSector => bodyReadSector args
  | .parkSector => bodyParkSector args
  | .unparkSector => bodyUnparkSector args
  | .clearTrip => bodyClearTrip args
  | .loadZone => bodyLoadZone args
  | .clearZone => bodyClearZone args
  | .readZone => bodyReadZone args
  | .forceStage => bodyForceStage args
  | .releaseForce => bodyReleaseForce args
  | .readDispatch => bodyReadDispatch args
  | .loadOutput => bodyLoadOutput args
  | .readOutput => bodyReadOutput args
  | .setNotices => bodySetNotices args
  | .readNotices => bodyReadNotices args
  | .clearNotices => bodyClearNotices args
  | .readCounters => bodyReadCounters args
  | .clearCounters => bodyClearCounters args
  | .goWatch => bodyGoWatch args
  | .goCommission => bodyGoCommission args
  | .saveTables => bodySaveTables src tag args
  | .eraseTables => bodyEraseTables args
  | .restart => bodyRestart args
  | .reset => bodyReset args
  | .readResetCause => bodyReadResetCause args
  | .clearResetCause => bodyClearResetCause args

/-- A command that fails check 1 or 2: answered, or lost when no place is free (R140, R141, R144). -/
def State.refuseForm (src code tag : Byte) (o : Outcome) (s : State) : State :=
  if 4 ≤ s.heldPlaces then s.loseCommand src code else s.reply src code tag o [] .nothing

/-- A COMMAND payload handed to the command unit (R139): the bytes it does not hold are answered as 0 (R144). -/
def State.takePayload (src : Byte) (payload : List Byte) (s : State) : State :=
  match payload with
  | [] => s.refuseForm src 0 0 .badForm
  | [code] => s.refuseForm src code 0 .badForm
  | code :: tag :: args =>
    match Command.ofCode code with
    | none => s.refuseForm src code tag .unknown
    | some c => s.takeCommand c (bodyOf c src tag args) src tag args

/-! ## Good frames (R7 to R14) -/

/-- DST or SRC fails the test made before any other (R7). -/
def badAddress (node : Byte) (f : Frame) : Bool :=
  decide (f.dst = 0) || decide (f.src = 0) || decide (f.src = 255) || decide (f.src = node)

def Port.countReceived (p : Port) : Port := { p with received := satInc p.received }
def Port.countCrcError (p : Port) : Port := { p with crcError := satInc p.crcError }
def Port.countFraming (p : Port) : Port := { p with framing := satInc p.framing }
def Port.countOversize (p : Port) : Port := { p with oversize := satInc p.oversize }
def Port.countBadAddress (p : Port) : Port := { p with badAddress := satInc p.badAddress }
def Port.countSent (p : Port) : Port := { p with sent := satInc p.sent }
def CrestPort.countWrongSide (c : CrestPort) : CrestPort := { c with wrongSide := satInc c.wrongSide }
def CrestPort.countParked (c : CrestPort) : CrestPort := { c with parked := satInc c.parked }
def CrestPort.countUnknown (c : CrestPort) : CrestPort := { c with unknownSource := satInc c.unknownSource }
def ValleyPort.countNotForPart (v : ValleyPort) : ValleyPort := { v with notForPart := satInc v.notForPart }

/-- The kinds of the three station classes (R11). -/
def stationKind (k : Byte) : Bool :=
  decide (k = kindSample) || decide (k = kindPulse) || decide (k = kindTrip)

/-- A crest frame whose SRC is a loaded station, received on a side (R9). -/
def State.loadedStationFrame (d : Side) (i : Nat) (x : Station) (f : Frame) (s : State) : State :=
  if x.cfg.parked then (s.updCrest d CrestPort.countParked).appendForward f
  else if x.cfg.port ≠ d then (s.countStation i (fun c => { c with wrongPort := satInc c.wrongPort })).appendForward f
  else if f.kind ≠ x.cfg.cls.kind then
    (s.countStation i (fun c => { c with wrongKind := satInc c.wrongKind })).appendForward f
  else s.stationFrame i x f

/-- A crest frame that R7 to R9 have not decided (R11). -/
def State.otherCrestFrame (d : Side) (f : Frame) (s : State) : State :=
  if stationKind f.kind then (s.updCrest d CrestPort.countUnknown).appendForward f
  else if f.dst = s.node then s.updCrest d CrestPort.countWrongSide
  else s.appendForward f

/-- The loaded station a good crest frame comes from, with its index (R9). -/
def State.sourceOf (f : Frame) (s : State) : Option (Nat × Station) :=
  (s.stationAt f.src).bind (fun i => (s.station i).map (fun x => (i, x)))

/-- The decision on a good frame of a crest port (R7 to R11). -/
def State.crestFrame (d : Side) (p : PortId) (f : Frame) (s : State) : State :=
  if badAddress s.node f then s.updPort p Port.countBadAddress
  else if f.kind = kindCommand ∧ f.dst = s.node then s.updCrest d CrestPort.countWrongSide
  else
    match s.sourceOf f with
    | some (i, x) => s.loadedStationFrame d i x f
    | none => s.otherCrestFrame d f

/-- A good Valley frame addressed to the part (R12). -/
def State.frameForPart (f : Frame) (s : State) : State :=
  if f.kind = kindCommand then s.takePayload f.src f.payload
  else if f.kind = kindAck then s.takeAck f.src f.payload
  else { s with valley := s.valley.countNotForPart }

/-- A broadcast Valley frame is a COMMAND carrying READ IDENT (R13). -/
def broadcastIdent (f : Frame) : Bool :=
  decide (f.kind = kindCommand) && decide (f.payload.head? = some Command.readIdent.code)

/-- A good Valley frame with DST 255 (R13). -/
def State.broadcastFrame (f : Frame) (s : State) : State :=
  let t := s.appendBoth f
  if broadcastIdent f then t.takePayload f.src f.payload else t

/-- A good Valley frame for another node (R14). -/
def State.forwardCrest (f : Frame) (s : State) : State :=
  match (s.stationAt f.dst).bind s.station with
  | some x => s.appendCrest x.cfg.port f
  | none => s.appendBoth f

/-- The decision on a good frame of the Valley port (R7, R12 to R14). -/
def State.valleyFrame (f : Frame) (s : State) : State :=
  if badAddress s.node f then s.updPort .valley Port.countBadAddress
  else if f.dst = s.node then s.frameForPart f
  else if f.dst = 255 then s.broadcastFrame f
  else s.forwardCrest f

/-- The forwarding decision of a port (R4). -/
def State.decideFrame (p : PortId) (f : Frame) (s : State) : State :=
  match p with
  | .crestA => s.crestFrame .a .crestA f
  | .crestB => s.crestFrame .b .crestB f
  | .valley => s.valleyFrame f

/-! ## Characters (R3, R4) -/

/-- What a receiver's event brings about (R3, R4). -/
def State.rxEvent (p : PortId) (e : RxEvent) (s : State) : State :=
  match e with
  | .nothing => s
  | .oversize => s.updPort p Port.countOversize
  | .crcError => s.updPort p Port.countCrcError
  | .good f => (s.updPort p Port.countReceived).decideFrame p f

/-- A character on a receive line; while the line is at space the receiver takes none (R5). -/
def State.receive (p : PortId) (b : Byte) (s : State) : State :=
  if (s.port p).line = .mark then
    let r := rxStep (s.port p).rx b
    (s.updPort p (fun q => { q with rx := r.1 })).rxEvent p r.2
  else s

/-- The characters of a whole frame on a receive line, one after another (log 10). -/
def State.feed (p : PortId) (f : Frame) (s : State) : State :=
  (frameWire f).foldl (fun t b => t.receive p b) s

end Sys2Proof.Machine
end

