-- ==== Sys2Proof/Machine/TimeBase.lean ====
section
/-! DEFINITION. The time base and what a tenth tick reaches (R21 to R24, R77, R113). -/

namespace Sys2Proof.Machine

/-- One tenth tick of the five counters, with all their rolls (R21). -/
def TimeStamp.advance (t : TimeStamp) : TimeStamp :=
  if t.tenth < 9 then { t with tenth := t.tenth + 1 }
  else if t.second < 59 then { t with tenth := 0, second := t.second + 1 }
  else if t.minute < 59 then { t with tenth := 0, second := 0, minute := t.minute + 1 }
  else if t.hour < 23 then { t with tenth := 0, second := 0, minute := 0, hour := t.hour + 1 }
  else { t with tenth := 0, second := 0, minute := 0, hour := 0, day := (t.day + 1) % 65536 }

/-- One tenth tick of the time base: the counters and the prescaler phase (R21). -/
def TimeBase.advance (b : TimeBase) : TimeBase :=
  { now := b.now.advance, phase := (b.phase + 1) % 5 }

/-- The crystal cycles from the last tick, or the start of the prescaler, to the next tick (R21). -/
def TimeBase.cyclesToNext (b : TimeBase) : Nat :=
  if b.phase = 4 then 3276 else 3277

/-- The next tick rolls the tenth counter: a second event (R22). -/
def TimeStamp.secondNext (t : TimeStamp) : Bool :=
  decide (9 ≤ t.tenth)

/-- The next tick rolls the second counter: a minute event (R22). -/
def TimeStamp.minuteNext (t : TimeStamp) : Bool :=
  t.secondNext && decide (59 ≤ t.second)

/-- A siren record's repeat countdown falls (R123). -/
def SirenRecord.second (r : SirenRecord) : SirenRecord :=
  { r with cd := fall r.cd }

def Entry.second (e : Entry) : Entry :=
  { e with records := e.records.map SirenRecord.second }

/-- A second event: every running second-paced countdown falls by 1 (R22, R23). -/
def State.secondEvent (s : State) : State :=
  { s with
    stations := mapEntries Station.second s.stations
    sectors := mapEntries Sector.second s.sectors
    dispatch := { s.dispatch with queue := s.dispatch.queue.map Entry.second }
    notices := { s.notices with statusCd := fall s.notices.statusCd } }

/-- A minute event (R22, log 5): the sectors' rings, ascending, and then the zones' countdowns. -/
def State.minuteEvent (s : State) : State :=
  let t := eachBelow 8 State.sectorMinute s
  { t with zones := mapEntries Zone.minute t.zones }

/-- A tenth tick (R21 to R24, log 5): counters, cadence phases, then the second and minute events it produces. -/
def State.tick (s : State) : State :=
  let a := { s with time := s.time.advance, outputs := mapTable Output.tenth s.outputs }
  let b := if s.time.now.secondNext then a.secondEvent else a
  if s.time.now.minuteNext then b.minuteEvent else b

end Sys2Proof.Machine
end

