-- ==== Sys2Proof/Machine/Events.lean ====
section
/-! DEFINITION. The meanings of the events that are not commands: supply, lines, frames, ticks, expiries, store. -/

namespace Sys2Proof.Machine

/-- An event that ends in start-up, which builds the tables and the Dispatch Queue anew and evaluates every
output itself (R200): what is left of the event's end is the transmitters, and a running out at that moment leaves
no trace. -/
def startStep (t : State) : Host.Outcome State Fault Refusal :=
  .next (State.finish t t)

/-! ## Supply and lines -/

/-- POWER_ON (R28, R200). -/
def execPowerOn (s : State) : Host.Outcome State Fault Refusal :=
  startStep (s.powerUp.startUp true)

/-- The line reset of a break (R6, R200): start-up, the receiver then waiting for mark. -/
def State.lineReset (s : State) : State :=
  let t := ({ s with cause := { s.cause with line := true } }).startUp false
  t.updPort .valley (fun p => { p with line := .spent })

/-- LINE_RESET (R6, log 12): the same break does not request a second one. -/
def execLineReset (s : State) : Host.Outcome State Fault Refusal :=
  if s.valley.port.line = .spent then eventStep id s else startStep s.lineReset

/-- A framing error ends the frame in progress, if there is one (R5). -/
def Port.endFrame (p : Port) : Port :=
  if p.rx.busy then { p.countFraming with rx := .hunt } else p

/-- IDLE_GAP (R5). -/
def execIdleGap (p : PortId) (s : State) : Host.Outcome State Fault Refusal :=
  eventStep (State.updPort p Port.endFrame) s

/-- A broken character at a port whose line stands at mark (R5). -/
def Port.breakChar (p : Port) : Port :=
  if p.line = .mark then { p.endFrame with line := .space } else p

/-- BROKEN_CHARACTER (R5, R6). -/
def execBrokenCharacter (p : PortId) (s : State) : Host.Outcome State Fault Refusal :=
  eventStep (State.updPort p Port.breakChar) s

/-- OVERSIZE_ERROR (R3): a LEN out of range at a receiver in LENGTH. -/
def execOversizeError (p : PortId) (len : Byte) (s : State) : Host.Outcome State Fault Refusal :=
  eventStep (fun t => if (t.port p).rx = .length ∧ inRange 4 60 len.toNat = false then t.receive p len else t) s

/-- FRAME_RECEIVED (R4, log 10). -/
def execFrameReceived (p : PortId) (f : Frame) (s : State) : Host.Outcome State Fault Refusal :=
  eventStep (State.feed p f) s

/-- CHARACTER_RECEIVED (R3, R4, log 10). -/
def execCharacterReceived (p : PortId) (b : Byte) (s : State) : Host.Outcome State Fault Refusal :=
  eventStep (State.receive p b) s

/-- LINE_RETURNS_TO_MARK (R5, R6). -/
def execLineReturnsToMark (p : PortId) (s : State) : Host.Outcome State Fault Refusal :=
  eventStep (State.updPort p (fun q => { q with line := .mark })) s

/-- A transmit completion (R17): driver-enable released, sent counted, and what waited on the frame (R181, R182). -/
def State.completeTransmit (p : PortId) (s : State) : State :=
  match (s.port p).tx with
  | none => s
  | some f => (s.updPort p (fun q => { q.countSent with tx := none })).applyEffect f.effect

/-- The frame a port is sending is the reply of a RESET (R182). -/
def State.completesReset (p : PortId) (s : State) : Bool :=
  decide ((s.port p).tx.map (fun f => f.effect) = some .reset)

/-- TRANSMIT_COMPLETION (R17) of the frame the port was sending; on an idle port nothing ends. -/
def execTransmitCompletion (p : PortId) (s : State) : Host.Outcome State Fault Refusal :=
  if (s.port p).tx = none then eventStep id s
  else if s.completesReset p then startStep (s.completeTransmit p)
  else eventStep (State.completeTransmit p) s

/-! ## Time -/

/-- TENTH_TICK (R21 to R24). -/
def execTenthTick (s : State) : Host.Outcome State Fault Refusal :=
  eventStep State.tick s

/-- CADENCE_ON_TIME_REACHED (R135). -/
def execCadenceOnTimeReached (k : Nat) (s : State) : Host.Outcome State Fault Refusal :=
  runOutStep (s.updOutput k Output.reachOnTime) s

/-- CYCLE_BOUNDARY (R135). -/
def execCycleBoundary (k : Nat) (s : State) : Host.Outcome State Fault Refusal :=
  runOutStep (s.updOutput k Output.boundary) s

/-! ## Countdowns that have run out (log 4) -/

/-- SILENCE_COUNTDOWN_EXPIRY (R33). -/
def execSilenceCountdownExpiry (i : Nat) (s : State) : Host.Outcome State Fault Refusal :=
  runOutStep (s.takeSilence i) s

/-- BLIND_COUNTDOWN_EXPIRY (R74). -/
def execBlindCountdownExpiry (i : Nat) (s : State) : Host.Outcome State Fault Refusal :=
  runOutStep (s.takeBlind i) s

/-- BIN_ADVANCE (R93). -/
def execBinAdvance (i : Nat) (s : State) : Host.Outcome State Fault Refusal :=
  runOutStep (s.takeBin i) s

/-- REPEAT_COUNTDOWN_EXPIRY (R126). -/
def execRepeatCountdownExpiry (z : Nat) (a : Byte) (s : State) : Host.Outcome State Fault Refusal :=
  runOutStep (s.takeRepeat z a) s

/-- STATUS_COUNTDOWN_EXPIRY (R190). -/
def execStatusCountdownExpiry (s : State) : Host.Outcome State Fault Refusal :=
  runOutStep s.takeStatus s

/-- FORCE_EXPIRY (R113 step 1, R114). -/
def execForceExpiry (z : Nat) (s : State) : Host.Outcome State Fault Refusal :=
  runOutStep (s.takeForce z) s

/-- END_OF_HOLD (R112, R113 step 2). -/
def execEndOfHold (z : Nat) (s : State) : Host.Outcome State Fault Refusal :=
  runOutStep (s.takeHold z) s

/-- REFRESH_EXPIRY (R113 step 3, R116). -/
def execRefreshExpiry (z : Nat) (s : State) : Host.Outcome State Fault Refusal :=
  runOutStep (s.takeRefresh z) s

/-! ## Table Store -/

/-- The completion of a save (R199): the image stands in the store and the DONE reply takes its place. -/
def State.completeSave (s : State) : State :=
  match s.save with
  | none => s
  | some j => ({ s with store := j.content, save := none }).reply j.dst Command.saveTables.code j.tag .done [] .nothing

/-- SAVE_COMPLETION (R199). -/
def execSaveCompletion (s : State) : Host.Outcome State Fault Refusal :=
  eventStep State.completeSave s

end Sys2Proof.Machine
end

