-- ==== Sys2Proof/Machine/Dispatch.lean ====
section
/-! DEFINITION. One arm for each constructor of Instr: its meaning. -/

namespace Sys2Proof.Machine

/-- The effect of a command or event on everything but the queue of pending ones. -/
def exec (i : Instr) (s : State) : Host.Outcome State Fault Refusal :=
  match i with
  | .powerOn => Sys2Proof.Machine.execPowerOn s
  | .lineReset => Sys2Proof.Machine.execLineReset s
  | .idleGap p => Sys2Proof.Machine.execIdleGap p s
  | .brokenCharacter p => Sys2Proof.Machine.execBrokenCharacter p s
  | .oversizeError p len => Sys2Proof.Machine.execOversizeError p len s
  | .frameReceived p f => Sys2Proof.Machine.execFrameReceived p f s
  | .transmitCompletion p => Sys2Proof.Machine.execTransmitCompletion p s
  | .tenthTick => Sys2Proof.Machine.execTenthTick s
  | .cadenceOnTimeReached k => Sys2Proof.Machine.execCadenceOnTimeReached k s
  | .cycleBoundary k => Sys2Proof.Machine.execCycleBoundary k s
  | .silenceCountdownExpiry k => Sys2Proof.Machine.execSilenceCountdownExpiry k s
  | .blindCountdownExpiry k => Sys2Proof.Machine.execBlindCountdownExpiry k s
  | .binAdvance k => Sys2Proof.Machine.execBinAdvance k s
  | .repeatCountdownExpiry z a => Sys2Proof.Machine.execRepeatCountdownExpiry z a s
  | .statusCountdownExpiry => Sys2Proof.Machine.execStatusCountdownExpiry s
  | .forceExpiry z => Sys2Proof.Machine.execForceExpiry z s
  | .endOfHold z => Sys2Proof.Machine.execEndOfHold z s
  | .refreshExpiry z => Sys2Proof.Machine.execRefreshExpiry z s
  | .saveCompletion => Sys2Proof.Machine.execSaveCompletion s
  | .readIdent src tag args => Sys2Proof.Machine.execReadIdent src tag args s
  | .readClock src tag args => Sys2Proof.Machine.execReadClock src tag args s
  | .setClock src tag args => Sys2Proof.Machine.execSetClock src tag args s
  | .loadConsole src tag args => Sys2Proof.Machine.execLoadConsole src tag args s
  | .loadStation src tag args => Sys2Proof.Machine.execLoadStation src tag args s
  | .clearStation src tag args => Sys2Proof.Machine.execClearStation src tag args s
  | .readStation src tag args => Sys2Proof.Machine.execReadStation src tag args s
  | .parkStation src tag args => Sys2Proof.Machine.execParkStation src tag args s
  | .unparkStation src tag args => Sys2Proof.Machine.execUnparkStation src tag args s
  | .loadLane src tag args => Sys2Proof.Machine.execLoadLane src tag args s
  | .clearLane src tag args => Sys2Proof.Machine.execClearLane src tag args s
  | .readLane src tag args => Sys2Proof.Machine.execReadLane src tag args s
  | .loadSector src tag args => Sys2Proof.Machine.execLoadSector src tag args s
  | .clearSector src tag args => Sys2Proof.Machine.execClearSector src tag args s
  | .readSector src tag args => Sys2Proof.Machine.execReadSector src tag args s
  | .parkSector src tag args => Sys2Proof.Machine.execParkSector src tag args s
  | .unparkSector src tag args => Sys2Proof.Machine.execUnparkSector src tag args s
  | .clearTrip src tag args => Sys2Proof.Machine.execClearTrip src tag args s
  | .loadZone src tag args => Sys2Proof.Machine.execLoadZone src tag args s
  | .clearZone src tag args => Sys2Proof.Machine.execClearZone src tag args s
  | .readZone src tag args => Sys2Proof.Machine.execReadZone src tag args s
  | .forceStage src tag args => Sys2Proof.Machine.execForceStage src tag args s
  | .releaseForce src tag args => Sys2Proof.Machine.execReleaseForce src tag args s
  | .readDispatch src tag args => Sys2Proof.Machine.execReadDispatch src tag args s
  | .loadOutput src tag args => Sys2Proof.Machine.execLoadOutput src tag args s
  | .readOutput src tag args => Sys2Proof.Machine.execReadOutput src tag args s
  | .setNotices src tag args => Sys2Proof.Machine.execSetNotices src tag args s
  | .readNotices src tag args => Sys2Proof.Machine.execReadNotices src tag args s
  | .clearNotices src tag args => Sys2Proof.Machine.execClearNotices src tag args s
  | .readCounters src tag args => Sys2Proof.Machine.execReadCounters src tag args s
  | .clearCounters src tag args => Sys2Proof.Machine.execClearCounters src tag args s
  | .goWatch src tag args => Sys2Proof.Machine.execGoWatch src tag args s
  | .goCommission src tag args => Sys2Proof.Machine.execGoCommission src tag args s
  | .saveTables src tag args => Sys2Proof.Machine.execSaveTables src tag args s
  | .eraseTables src tag args => Sys2Proof.Machine.execEraseTables src tag args s
  | .restart src tag args => Sys2Proof.Machine.execRestart src tag args s
  | .reset src tag args => Sys2Proof.Machine.execReset src tag args s
  | .readResetCause src tag args => Sys2Proof.Machine.execReadResetCause src tag args s
  | .clearResetCause src tag args => Sys2Proof.Machine.execClearResetCause src tag args s
  | .characterReceived p b => Sys2Proof.Machine.execCharacterReceived p b s
  | .lineReturnsToMark p => Sys2Proof.Machine.execLineReturnsToMark p s

end Sys2Proof.Machine
end

