-- ==== Sys2Proof/Machine/Step.lean ====
section
/-! DEFINITION. One step: the command or event at the front of the queue is taken. -/

namespace Sys2Proof.Machine

/-- Take the front of the queue of pending commands and events; on an empty queue the block idles (log 3). -/
def step (s : State) : Host.Outcome State Fault Refusal :=
  match s.pending with
  | [] => .next s
  | c :: rest => exec c { s with pending := rest }

/-- The command a table word spells at the front of the queue; no row gives bits, so no word spells one. -/
def State.withFetchWord (s : State) (nbits w : Nat) : State :=
  match decodeTableWord nbits w with
  | none => s
  | some c => { s with pending := c :: s.pending }

end Sys2Proof.Machine
end

