-- ==== Sys2Proof/Safety.lean ====
section
/-! DEFINITION. What a sender's command or frame must meet to have its effect, and the properties of the state
that every step keeps. -/

namespace Sys2Proof

/-- The port of a crest side. -/
def Side.portId : Side → PortId
  | .a => .crestA
  | .b => .crestB

/-- The step that hands a command to the command unit. -/
def Command.instr (c : Command) (src tag : Byte) (args : List Byte) : Instr :=
  match c with
  | .readIdent => .readIdent src tag args
  | .readClock => .readClock src tag args
  | .setClock => .setClock src tag args
  | .loadConsole => .loadConsole src tag args
  | .loadStation => .loadStation src tag args
  | .clearStation => .clearStation src tag args
  | .readStation => .readStation src tag args
  | .parkStation => .parkStation src tag args
  | .unparkStation => .unparkStation src tag args
  | .loadLane => .loadLane src tag args
  | .clearLane => .clearLane src tag args
  | .readLane => .readLane src tag args
  | .loadSector => .loadSector src tag args
  | .clearSector => .clearSector src tag args
  | .readSector => .readSector src tag args
  | .parkSector => .parkSector src tag args
  | .unparkSector => .unparkSector src tag args
  | .clearTrip => .clearTrip src tag args
  | .loadZone => .loadZone src tag args
  | .clearZone => .clearZone src tag args
  | .readZone => .readZone src tag args
  | .forceStage => .forceStage src tag args
  | .releaseForce => .releaseForce src tag args
  | .readDispatch => .readDispatch src tag args
  | .loadOutput => .loadOutput src tag args
  | .readOutput => .readOutput src tag args
  | .setNotices => .setNotices src tag args
  | .readNotices => .readNotices src tag args
  | .clearNotices => .clearNotices src tag args
  | .readCounters => .readCounters src tag args
  | .clearCounters => .clearCounters src tag args
  | .goWatch => .goWatch src tag args
  | .goCommission => .goCommission src tag args
  | .saveTables => .saveTables src tag args
  | .eraseTables => .eraseTables src tag args
  | .restart => .restart src tag args
  | .reset => .reset src tag args
  | .readResetCause => .readResetCause src tag args
  | .clearResetCause => .clearResetCause src tag args

/-- The rows that let a running out take its course: a countdown at 0, or a cadence phase at its moment (R23, R135). -/
def Instr.runsOut : Instr → Bool
  | .cadenceOnTimeReached _ => true
  | .cycleBoundary _ => true
  | .silenceCountdownExpiry _ => true
  | .blindCountdownExpiry _ => true
  | .binAdvance _ => true
  | .repeatCountdownExpiry _ _ => true
  | .statusCountdownExpiry => true
  | .forceExpiry _ => true
  | .endOfHold _ => true
  | .refreshExpiry _ => true
  | _ => false

end Sys2Proof

namespace Sys2Proof.Machine

/-- Commands taken one after another, as far as each answers a next state. -/
def takeAll : List Instr → State → Host.Outcome State Fault Refusal
  | [], s => .next s
  | c :: rest, s =>
    match exec c s with
    | .next t => takeAll rest t
    | stop => stop

/-! ## Runnings out (R23, R135, log 4) -/

/-- Nothing has run out that its owner has not acted on: every cadence phase stands before its next moment, and every
running countdown above 0. -/
def Settled (s : State) : Prop :=
  (∀ k, 1 ≤ k → k ≤ 6 → ∀ o ∈ s.output k, ∀ c ∈ o.cadence, ∀ p ∈ o.phase,
      p < c.cycle ∧ (o.closed = true → p < c.onTime)) ∧
    (∀ i, i < 16 → ∀ x ∈ s.station i, x.silence ≠ some 0) ∧
    (∀ i, i < 8 → ∀ x ∈ s.sector i, x.cfg.parked = false → x.blindCd ≠ some 0 ∧ x.binCd ≠ some 0) ∧
    (∀ e ∈ s.dispatch.queue, ∀ r ∈ e.records, r.cd ≠ some 0) ∧
    s.notices.statusCd ≠ some 0 ∧
    ∀ z, z < 12 → ∀ x ∈ s.zone z, (∀ f ∈ x.force, f.left ≠ 0) ∧ x.hold ≠ some 0 ∧ x.refreshCd ≠ some 0

/-! ## Admission -/

/-- A command passes checks 1 to 6 of R141 and finds a place in the reply queue (R140, R142, R143, R195). -/
def Admitted (c : Command) (src : Byte) (args : List Byte) (s : State) : Prop :=
  s.heldPlaces < 4 ∧ args.length = requiredLength c args ∧
    (isReading c = true ∨ s.console = [] ∨ src ∈ s.console) ∧ (isReading c = true ∨ s.save = none) ∧
    modeOk c args s.mode = true

/-- A write the consistency check lets stand (R141 check 10, R145): the mode is not WATCHING, or the tables as the
write would leave them pass. -/
def StaysConsistent (s after : State) : Prop :=
  s.mode = .watching → after.firstFailure = none

/-- A whole frame arrives at a receiver that is in HUNT with its line at mark (R4). -/
def Arrives (p : PortId) (f : Frame) (s : State) : Prop :=
  f.payload.length ≤ 56 ∧ (s.port p).line = .mark ∧ (s.port p).rx = .hunt

/-- A good frame arrives (R4): its check code is the one computed over it. -/
def GoodArrival (p : PortId) (f : Frame) (s : State) : Prop :=
  Arrives p f s ∧ f.crc = frameCrc f

/-- The state once a good frame is counted received, before its forwarding decision (R4). -/
def State.arrived (p : PortId) (s : State) : State :=
  s.updPort p Port.countReceived

/-- No entry but `i` is loaded with the address `a` (R9, R30, R150). -/
def OnlyStation (i : Nat) (a : Byte) (s : State) : Prop :=
  ∀ j, j < 16 → j ≠ i → ∀ y ∈ s.station j, y.cfg.addr ≠ a

/-- No entry is loaded with the address `a` (R11, R14). -/
def NoStation (a : Byte) (s : State) : Prop :=
  ∀ j, j < 16 → ∀ y ∈ s.station j, y.cfg.addr ≠ a

/-- The start-up finds no valid image (R198, R200 step 5): a save was in progress, the check code is void, the image
is empty, or an image names the node address the straps give. -/
def NoValidImage (s : State) : Prop :=
  s.save ≠ none ∨ s.store = .void ∨ s.store = .empty ∨ ∃ m, s.store = .image m ∧ nodeOf s.straps ∈ m.addresses

/-- The start-up finds a valid image (R198). -/
def ValidImage (m : Image) (s : State) : Prop :=
  s.save = none ∧ s.store = .image m ∧ nodeOf s.straps ∉ m.addresses

/-- A frame that R7 lets pass. -/
def AddressesOk (node : Byte) (f : Frame) : Prop :=
  f.dst ≠ 0 ∧ f.src ≠ 0 ∧ f.src ≠ 255 ∧ f.src ≠ node

/-! ## Configurations in range, and the argument blocks that carry them (R208) -/

/-- The ranges of R30 on a written station. -/
def StationConfig.Legal (c : StationConfig) : Prop :=
  c.addr ≠ 0 ∧ c.addr ≠ 255 ∧ 10 ≤ c.limit ∧ c.limit ≤ 3600 ∧ c.divisor ≤ 255 ∧ c.parked = false ∧
    match c.cls with
    | .sweep n => 1 ≤ n ∧ n ≤ 8
    | .pulse n => 1 ≤ n ∧ n ≤ 4
    | .trip n => 1 ≤ n ∧ n ≤ 8

/-- The arguments of LOAD STATION (R208). -/
def stationBlock (i : Nat) (c : StationConfig) : List Byte :=
  [byteOf i, c.addr, sideByte c.port] ++ c.cls.bytes ++ be16 c.limit ++ [byteOf c.divisor]

/-- The ranges of R47 on a written lane. -/
def LaneConfig.Legal (c : LaneConfig) : Prop :=
  1 ≤ c.datum ∧ c.datum ≤ 12000 ∧ 1 ≤ c.lossLimit ∧ c.lossLimit ≤ 15 ∧ 1 ≤ c.restoreCount ∧ c.restoreCount ≤ 15 ∧
    1 ≤ c.cands.length ∧ c.cands.length ≤ 4 ∧ c.cands.Nodup ∧ ∀ k ∈ c.cands, k.station < 16 ∧ k.sweepLane < 8

/-- The arguments of LOAD LANE (R208). -/
def laneBlock (i : Nat) (c : LaneConfig) : List Byte :=
  [byteOf i] ++ be16 c.datum ++ [byteOf c.lossLimit, byteOf c.restoreCount, byteOf c.cands.length] ++
    c.cands.flatMap (fun k => [byteOf k.station, byteOf k.sweepLane])

/-- The ranges of R66 and R91 on a written sector. -/
def SectorConfig.Legal (c : SectorConfig) : Prop :=
  2 ≤ c.count ∧ c.count ≤ 8 ∧ c.first + c.count ≤ 32 ∧ 1 ≤ c.quorum ∧ c.quorum ≤ c.count ∧
    c.rise.watch < c.rise.prepare ∧ c.rise.prepare < c.rise.evacuate ∧ c.rise.evacuate ≤ 12000 ∧
    c.fall.watch ≤ c.rise.watch ∧ c.fall.prepare ≤ c.rise.prepare ∧ c.fall.evacuate ≤ c.rise.evacuate ∧
    10 ≤ c.blindDelay ∧ c.blindDelay ≤ 3600 ∧ 1 ≤ c.rapidSpan ∧ c.rapidSpan ≤ 15 ∧ 1 ≤ c.rapidLimit ∧
    c.rapidLimit ≤ 65535 ∧ (∀ k ∈ c.pulse, k.station < 16 ∧ k.channel < 4) ∧ 5 ≤ c.binLength ∧ c.binLength ≤ 60 ∧
    1 ≤ c.surgeSpan ∧ c.surgeSpan ≤ 12 ∧ 1 ≤ c.surgeLimit ∧ c.surgeLimit ≤ 65535 ∧ c.surgeRelease < c.surgeLimit ∧
    c.trips.length ≤ 2 ∧ c.trips.Nodup ∧ (∀ k ∈ c.trips, k.station < 16 ∧ k.wire < 8) ∧ c.parked = false

/-- The arguments of LOAD SECTOR (R208); `ch` is the channel byte beside a pulse link none, which nothing reads. -/
def sectorBlock (i : Nat) (c : SectorConfig) (ch : Byte) : List Byte :=
  [byteOf i, byteOf c.first, byteOf c.count, byteOf c.quorum] ++ c.rise.bytes ++ c.fall.bytes ++ be16 c.blindDelay ++
    [byteOf c.rapidSpan] ++ be16 c.rapidLimit ++
    [optByte (c.pulse.map PulseLink.station), ((c.pulse.map (fun k => byteOf k.channel)).getD ch), byteOf c.binLength,
     byteOf c.surgeSpan] ++ be16 c.surgeLimit ++ be16 c.surgeRelease ++ [byteOf c.trips.length] ++
    c.trips.flatMap (fun k => [byteOf k.station, byteOf k.wire])

/-- The ranges of R106 on a written zone. -/
def ZoneConfig.Legal (node : Byte) (c : ZoneConfig) : Prop :=
  1 ≤ c.sectors.length ∧ c.sectors.length ≤ 8 ∧ c.sectors.Nodup ∧ (∀ i ∈ c.sectors, i < 8) ∧
    1 ≤ c.sirens.length ∧ c.sirens.length ≤ 4 ∧ c.sirens.Nodup ∧ (∀ a ∈ c.sirens, a ≠ 0 ∧ a ≠ 255 ∧ a ≠ node) ∧
    1 ≤ c.holdDown ∧ c.holdDown ≤ 240 ∧ 5 ≤ c.repeatInterval ∧ c.repeatInterval ≤ 300 ∧ 1 ≤ c.tries ∧ c.tries ≤ 15 ∧
    c.refresh ≤ 60

/-- The arguments of LOAD ZONE (R208). -/
def zoneBlock (z : Nat) (c : ZoneConfig) : List Byte :=
  [byteOf z, byteOf c.sectors.length] ++ c.sectors.map byteOf ++ [byteOf c.sirens.length] ++ c.sirens ++
    [byteOf c.holdDown] ++ be16 c.repeatInterval ++ [byteOf c.tries, byteOf c.refresh]

/-- A cadence in range (R133). -/
def Cadence.Legal (c : Cadence) : Prop :=
  2 ≤ c.cycle ∧ c.cycle ≤ 600 ∧ 1 ≤ c.onTime ∧ c.onTime ≤ c.cycle

/-- The ranges of R133 and R170 on a written output. -/
def OutputConfig.Legal (c : OutputConfig) : Prop :=
  c.code ≤ 8 ∧ c.argIndex ≤ 11 ∧ (c.code = 3 → c.argIndex ≤ 7) ∧ c.argStage ≠ .quiet ∧ c.written.c1.Legal ∧
    c.written.c2.Legal ∧ c.written.c3.Legal

/-- The arguments of LOAD OUTPUT (R208). -/
def outputBlock (k : Nat) (c : OutputConfig) : List Byte :=
  [byteOf k, byteOf c.code, byteOf c.argIndex, c.argStage.byte] ++ c.written.bytes

/-- The tenths of a second since the day counter's zero. -/
def TimeStamp.tenths (t : TimeStamp) : Nat :=
  (((t.day * 24 + t.hour) * 60 + t.minute) * 60 + t.second) * 10 + t.tenth

/-! ## What every step keeps -/

/-- The counters of the time base stand in their ranges (R21). -/
def TimeLegal (s : State) : Prop :=
  s.time.now.tenth ≤ 9 ∧ s.time.now.second ≤ 59 ∧ s.time.now.minute ≤ 59 ∧ s.time.now.hour ≤ 23 ∧
    s.time.now.day ≤ 65535 ∧ s.time.phase ≤ 4

/-- No queue holds more than its places (R14, R15, R140, R187). -/
def QueuesBounded (s : State) : Prop :=
  s.heldPlaces ≤ 4 ∧ s.crestA.queue.length ≤ 8 ∧ s.crestB.queue.length ≤ 8 ∧ s.valley.forward.length ≤ 32 ∧
    s.notices.out.length ≤ 28

/-- In BLANK every table and the Dispatch Queue are empty (R194). -/
def BlankIsEmpty (s : State) : Prop :=
  s.mode = .blank →
    (∀ i, i < 16 → s.station i = none) ∧ (∀ i, i < 32 → s.lane i = none) ∧ (∀ i, i < 8 → s.sector i = none) ∧
      (∀ z, z < 12 → s.zone z = none) ∧ s.dispatch.queue = []

/-- The configurations an image holds, as the consistency check reads them (R145, R198). -/
def Image.configs (m : Image) : Configs :=
  { console := m.console, stations := m.stations, lanes := m.lanes, sectors := m.sectors, zones := m.zones }

/-- An image stored with the mode WATCHING passes the consistency check (R194, R198). -/
def Store.consistent : Store → Prop
  | .image m => m.watching = true → m.configs.firstFailure = none
  | _ => True

/-- In WATCHING the tables pass the consistency check, and so do those of an image that stores WATCHING, in the
Table Store or in a save in progress (R194). -/
def WatchingIsConsistent (s : State) : Prop :=
  (s.mode = .watching → s.firstFailure = none) ∧ s.store.consistent ∧ ∀ j ∈ s.save, j.content.consistent

/-- Every loaded sector stands at the stage and causes its conditions give (R80, R81), and a parked one at the values
of R86. -/
def SectorsStaged (s : State) : Prop :=
  ∀ i, i < 8 → ∀ x ∈ s.sector i,
    x.stage = x.computeStage ∧ x.causes = x.causesAt x.stage ∧ (x.cfg.parked = true → x = Sector.parkedFrom x.cfg)

/-- Every loaded zone's target is the higher of its sectors' stage and its force, its stage is at or above the target,
and its hold runs exactly while the target is below the stage (R108, R110, R112). -/
def ZonesCovered (s : State) : Prop :=
  ∀ z, z < 12 → ∀ x ∈ s.zone z,
    x.target = (computedStage (contributing s x.cfg.sectors)).max x.forceStage ∧ x.target.num ≤ x.stage.num ∧
      (x.hold.isSome = true ↔ x.target.num < x.stage.num)

/-- Every zone configuration of an image lists a siren, and none twice (R106). -/
def Store.sirensListed : Store → Prop
  | .image m => ∀ z, z < 12 → ∀ c ∈ entryAt m.zones z, c.sirens ≠ [] ∧ c.sirens.Nodup
  | _ => True

/-- Every loaded zone lists a siren, and none twice, and so does every zone of an image (R106). -/
def SirensListed (s : State) : Prop :=
  (∀ z, z < 12 → ∀ x ∈ s.zone z, x.cfg.sirens ≠ [] ∧ x.cfg.sirens.Nodup) ∧ s.store.sirensListed ∧
    ∀ j ∈ s.save, j.content.sirensListed

/-- The Dispatch Queue stands in stage order, with at most one entry for a zone, each for a loaded zone, with one
record for each address of its siren list and at least one of them PENDING (R122, R123, R128, R130). -/
def DispatchOrdered (s : State) : Prop :=
  s.dispatch.queue.Pairwise (fun a b => b.stage.num ≤ a.stage.num) ∧ (s.dispatch.queue.map Entry.zone).Nodup ∧
    ∀ e ∈ s.dispatch.queue, e.zone < 12 ∧ e.active = true ∧
      ∃ x ∈ s.zone e.zone, e.records.map SirenRecord.addr = x.cfg.sirens

/-- A loaded station's state, countdown and records agree (R31 to R33, R43). -/
def StationsLegal (s : State) : Prop :=
  ∀ i, i < 16 → ∀ x ∈ s.station i,
    (x.cfg.parked = true ↔ x.live = .parked) ∧ (x.silence.isSome = true ↔ x.live = .absent ∨ x.live = .live) ∧
      (x.live = .live → x.lastSeq.isSome = true ∧ x.lastHeard.isSome = true) ∧
      (x.live = .absent ∨ x.live = .parked → x.lastSeq = none ∧ x.lastHeard = none ∧ x.contents = none) ∧
      (x.live = .parked → x.counts = StationCounts.zero)

/-- A loaded lane's dynamic state agrees with its configuration (R48, R49, R52, R57). -/
def LanesLegal (s : State) : Prop :=
  ∀ i, i < 32 → ∀ l ∈ s.lane i,
    l.credits.length = l.cfg.cands.length ∧ (∀ n ∈ l.credits, n ≤ l.cfg.restoreCount) ∧
      (l.tracked = none → l.loss = 0) ∧
      ∀ r ∈ l.tracked, r < l.cfg.cands.length ∧ l.credits[r]? = some 0 ∧
        ∃ v ∈ l.clearance, l.fill = some (l.cfg.datum - v)

/-- Every contact output's condition is the reading its select code names, and its contact, phase and cadence follow
it (R133 to R135). -/
def OutputsFollow (s : State) : Prop :=
  ∀ k, 1 ≤ k → k ≤ 6 → ∀ o ∈ s.output k,
    o.condition = conditionOf s o.cfg ∧ o.phase.isSome = o.condition ∧
      (o.condition = true → o.inUse = some (cadenceFor s o.cfg)) ∧
      (o.condition = false → o.inUse = none ∧ o.closed = false)

/-- A class with no detail has count 0, a detail belongs to its class, no item waits twice, and a waiting NOTICE is of
an enabled class whose flag is set (R185 to R188). -/
def NoticesLegal (s : State) : Prop :=
  (∀ c ∈ NoticeClass.all, ((s.notices.get c).detail = none → (s.notices.get c).count = 0) ∧
      ∀ d ∈ (s.notices.get c).detail, d.cls = c) ∧
    s.notices.out.Nodup ∧
    ∀ c ∈ NoticeClass.all, ∀ it ∈ s.notices.out, it.isNotice c = true →
      (s.notices.get c).enable = true ∧ (s.notices.get c).flag = true

/-- The seven counters of a station (R45). -/
def StationCounts.list (c : StationCounts) : List Nat :=
  [c.accepted, c.duplicate, c.stale, c.missed, c.wrongPort, c.wrongKind, c.malformed]

/-- No counter passes 65535 (R18, R45, R117, R132, R140, R185, R193). -/
def CountersBounded (s : State) : Prop :=
  (∀ p ∈ [PortId.crestA, PortId.crestB, PortId.valley], ∀ n ∈ portCounts p s, n ≤ 65535) ∧
    (∀ i, i < 16 → ∀ x ∈ s.station i, ∀ n ∈ x.counts.list, n ≤ 65535) ∧
    (∀ z, z < 12 → ∀ x ∈ s.zone z, x.undispatched ≤ 65535) ∧
    (∀ c ∈ NoticeClass.all, (s.notices.get c).count ≤ 65535) ∧
    s.dispatch.stale ≤ 65535 ∧ s.dispatch.mismatched ≤ 65535 ∧ s.lost ≤ 65535

/-- No bin of a sector's surge window passes 65535 (R91, R92). -/
def BinsBounded (s : State) : Prop :=
  ∀ i, i < 8 → ∀ x ∈ s.sector i, ∀ b ∈ x.bins, b ≤ 65535

/-- Every cycle and on-time of a cadence is at least 1. -/
def Cadences.run (c : Cadences) : Prop :=
  ∀ d ∈ [c.c1, c.c2, c.c3], 1 ≤ d.cycle ∧ 1 ≤ d.onTime

/-- Every period an image holds is at least 1 (R30, R66, R106, R133). -/
def Store.periodsRun : Store → Prop
  | .image m =>
    (∀ i, i < 16 → ∀ c ∈ entryAt m.stations i, 1 ≤ c.limit) ∧
      (∀ i, i < 8 → ∀ c ∈ entryAt m.sectors i, 1 ≤ c.blindDelay ∧ 1 ≤ c.binLength) ∧
      (∀ z, z < 12 → ∀ c ∈ entryAt m.zones z, 1 ≤ c.holdDown ∧ 1 ≤ c.repeatInterval) ∧
      ∀ c ∈ m.outputs, c.written.run
  | _ => True

/-- Every period a countdown or a cadence is loaded with is at least 1, and a refresh countdown runs only over a refresh
that is (R30, R66, R106, R116, R133). -/
def PeriodsRun (s : State) : Prop :=
  (∀ i, i < 16 → ∀ x ∈ s.station i, 1 ≤ x.cfg.limit) ∧
    (∀ i, i < 8 → ∀ x ∈ s.sector i, 1 ≤ x.cfg.blindDelay ∧ 1 ≤ x.cfg.binLength) ∧
    (∀ z, z < 12 → ∀ x ∈ s.zone z, 1 ≤ x.cfg.holdDown ∧ 1 ≤ x.cfg.repeatInterval ∧
      (x.refreshCd ≠ none → 1 ≤ x.cfg.refresh)) ∧
    (∀ k, 1 ≤ k → k ≤ 6 → ∀ o ∈ s.output k, o.cfg.written.run ∧ o.working.run) ∧
    s.store.periodsRun ∧ ∀ j ∈ s.save, j.content.periodsRun

/-! ## What a zone reads from its sectors -/

/-- A zone's computed stage, peak sector (R108) and causes (R109) are those that its contributing sectors, its force and
its hold give. -/
def Zone.Reads (cs : List (Nat × Sector)) (y : Zone) : Prop :=
  y.computed = computedStage cs ∧ (cs = [] → y.peakSector = none) ∧ (cs ≠ [] → y.peakSector ≠ none) ∧
    (∀ j ∈ y.peakSector, (∃ w, (j, w) ∈ cs ∧ w.stage = computedStage cs) ∧
      ∀ k v, (k, v) ∈ cs → v.stage = computedStage cs → j ≤ k) ∧
    (y.causes.level = true ↔ ∃ j w, (j, w) ∈ cs ∧ w.stage = y.stage ∧ w.causes.level = true) ∧
    (y.causes.blind = true ↔ ∃ j w, (j, w) ∈ cs ∧ w.stage = y.stage ∧ w.causes.blind = true) ∧
    (y.causes.rapid = true ↔ ∃ j w, (j, w) ∈ cs ∧ w.stage = y.stage ∧ w.causes.rapid = true) ∧
    (y.causes.surge = true ↔ ∃ j w, (j, w) ∈ cs ∧ w.stage = y.stage ∧ w.causes.surge = true) ∧
    (y.causes.tripFault = true ↔ ∃ j w, (j, w) ∈ cs ∧ w.stage = y.stage ∧ w.causes.tripFault = true) ∧
    (y.causes.trip = true ↔ ∃ j w, (j, w) ∈ cs ∧ w.stage = y.stage ∧ w.causes.trip = true) ∧
    (y.causes.force = true ↔ ∃ f ∈ y.force, y.stage.num ≤ f.stage.num) ∧
    (y.causes.held = true ↔ y.hold ≠ none)

/-! ## The consistency check -/

/-- Item `n` of the consistency check fails at the place that `a` and `b` name, a byte that names nothing being 0
(R145, R207). -/
def ItemFails (s : State) (n a b : Nat) : Prop :=
  match n with
  | 1 => s.console = [] ∧ a = 0 ∧ b = 0
  | 2 => (∀ z, s.zone z = none) ∧ a = 0 ∧ b = 0
  | 3 => ∃ x, s.zone a = some x ∧ (∀ i ∈ x.cfg.sectors, s.sector i = none) ∧ b = 0
  | 4 => ∃ x, s.sector a = some x ∧ x.cfg.first ≤ b ∧ b < x.cfg.first + x.cfg.count ∧ s.lane b = none
  | 5 => ∃ l c, s.lane a = some l ∧ l.cfg.cands[b]? = some c ∧
      ¬ ∃ y k, s.station c.station = some y ∧ y.cfg.cls = .sweep k ∧ c.sweepLane < k
  | 6 => ∃ x c, s.sector a = some x ∧ x.cfg.pulse = some c ∧ b = 0 ∧
      ¬ ∃ y k, s.station c.station = some y ∧ y.cfg.cls = .pulse k ∧ c.channel < k
  | 7 => ∃ x c, s.sector a = some x ∧ x.cfg.trips[b]? = some c ∧
      ¬ ∃ y k, s.station c.station = some y ∧ y.cfg.cls = .trip k ∧ c.wire < k
  | _ => False

/-! ## The bytes of the reading replies (R204, R207) -/

/-- A yes or no field of a reading reply: 1 for yes, set or closed, else 0 (log 17). -/
def yesNo (b : Bool) : Byte :=
  if b then 1 else 0

/-- An index, rank, stage or address that may be none: 0xFF for none (R204). -/
def orFF (x : Option Nat) : Byte :=
  match x with
  | none => 0xFF
  | some n => byteOf n

/-- A two-byte quantity or countdown that may be none or not running: 0xFFFF (R204). -/
def orFFFF (x : Option Nat) : List Byte :=
  match x with
  | none => [0xFF, 0xFF]
  | some n => be16 n

/-- A two-byte quantity that reaches 65535 and may be none: a presence byte and the value (R204). -/
def present (x : Option Nat) : List Byte :=
  match x with
  | none => [0, 0, 0]
  | some n => 1 :: be16 n

/-- A captured time that may be none: bit 7 of its flag byte (R204). -/
def timeOr (x : Option TimeStamp) : List Byte :=
  match x with
  | none => [0, 0, 0, 0, 0, 0, 0x80]
  | some t => t.bytes

/-- The last contents of a station in READ STATION (R207). -/
def lastContents (x : Option Contents) : List Byte :=
  match x with
  | none => [0]
  | some (.sweep vs) => [1, byteOf vs.length] ++ vs.flatMap be16
  | some (.pulse interval counts) => [1] ++ be16 interval ++ counts.flatMap present
  | some (.trip wires) => 1 :: wires.map (fun w => (match w with | .intact => 0 | .cut => 1 | .fault => 2 : Byte))

/-- The bytes of the replies that R207 lays out: READ IDENT, READ NOTICES (a detail that is none by log 31), READ COUNTERS
and READ DISPATCH. -/
def ReportData (s : State) : Prop :=
  identData s = [0x41, 0x20, s.node, byteOf s.rate.val, s.mode.byte, if s.save = none then 0 else 1,
    byteOf s.console.length] ++ s.console ∧
  (∀ (c : NoticeClass) (u : NoticeUnit), ∃ pending : Byte,
    noticesData c u = [byteOf c.num, if (u.get c).enable then 1 else 0] ++ (noticePayload c u).drop 1 ++ [pending] ++
      be16 u.period ∧
    ∀ k, pending.getLsbD k = ([u.stage, u.source, u.silence, u.delivery, u.trip, u.fault].map
      (fun x => x.detail.isSome)).getD k false) ∧
  (∀ p q, p = PortId.crestA ∧ q = s.crestA ∨ p = .crestB ∧ q = s.crestB →
    portCounts p s = [q.port.received, q.port.crcError, q.port.framing, q.port.oversize, q.port.badAddress, q.port.sent,
      q.wrongSide, q.parked, q.unknownSource, q.crestDrop]) ∧
  portCounts .valley s = [s.valley.port.received, s.valley.port.crcError, s.valley.port.framing, s.valley.port.oversize,
    s.valley.port.badAddress, s.valley.port.sent, s.valley.notForPart, s.valley.forwardDrop] ∧
  partCountsData s = be16 s.dispatch.stale ++ be16 s.dispatch.mismatched ++ be16 s.lost ∧
  (∀ i x, s.station i = some x → stationCountsData i s = byteOf i :: x.counts.list.flatMap be16) ∧
  ∀ pos, dispatchData pos s = byteOf s.dispatch.queue.length ::
    match s.dispatch.queue[pos]? with
    | none => []
    | some e =>
      [byteOf pos, byteOf e.zone, e.serial, byteOf e.stage.num, e.causes.byte, if e.refresh then 1 else 0,
       orFF e.peakSector, orFF (e.peak.map Peak.lane)] ++ orFFFF (e.peak.map Peak.fill) ++ be16 e.index ++
      e.created.bytes ++ [byteOf e.records.length] ++ e.records.flatMap (fun r =>
        [r.addr, match r.state with | .pending => 0 | .delivered => 1 | .unreached => 2, byteOf r.tries] ++ orFFFF r.cd)

/-- The bytes of the replies whose fields R204 encodes and whose order is that of the tables that own them (log 15, log
16): READ STATION, READ LANE, READ SECTOR, READ ZONE and READ OUTPUT of a loaded entry. Yes or no fields are log 17's, the
cadence none is log 28's, the one byte of a plain count log 29's, and the order of a zone's sector set log 30's. -/
def EntryData (s : State) : Prop :=
  (∀ i x, s.station i = some x → stationData i s =
    [x.cfg.addr, match x.cfg.port with | .a => 0 | .b => 1] ++
    (match x.cfg.cls with | .sweep n => [0, byteOf n] | .pulse n => [1, byteOf n] | .trip n => [2, byteOf n]) ++
    be16 x.cfg.limit ++ [byteOf x.cfg.divisor, yesNo x.cfg.parked, x.live.byte] ++
    (match x.lastSeq with | none => [0, 0] | some q => [1, q]) ++ be16 (x.silence.getD 0) ++ timeOr x.lastHeard ++
    lastContents x.contents ++ x.counts.list.flatMap be16) ∧
  (∀ i l, s.lane i = some l →
    let c := l.tracked.bind (fun r => l.cfg.cands[r]?)
    laneData i s =
      be16 l.cfg.datum ++ [byteOf l.cfg.lossLimit, byteOf l.cfg.restoreCount, byteOf l.cfg.cands.length] ++
      l.cfg.cands.flatMap (fun k => [byteOf k.station, byteOf k.sweepLane]) ++
      [if l.tracked = none then 0 else 1, orFF l.tracked, orFF (c.map Candidate.station),
       orFF (c.map Candidate.sweepLane)] ++ orFFFF l.clearance ++ orFFFF l.fill ++ timeOr l.valueTime ++
      [byteOf l.loss, byteOf l.credits.length] ++ l.credits.map byteOf) ∧
  (∀ i x, s.sector i = some x →
    let c := x.cfg
    let three := fun (t : Thresholds) => be16 t.watch ++ be16 t.prepare ++ be16 t.evacuate
    (∃ channel : Byte, (∀ k ∈ c.pulse, channel = byteOf k.channel) ∧ sectorData i 0 s =
      [byteOf c.first, byteOf c.count, byteOf c.quorum] ++ three c.rise ++ three c.fall ++ be16 c.blindDelay ++
      [byteOf c.rapidSpan] ++ be16 c.rapidLimit ++
      [orFF (c.pulse.map PulseLink.station), channel, byteOf c.binLength, byteOf c.surgeSpan] ++ be16 c.surgeLimit ++
      be16 c.surgeRelease ++ [byteOf c.trips.length] ++
      c.trips.flatMap (fun k => [byteOf k.station, byteOf k.wire]) ++ [yesNo c.parked]) ∧
    (∃ (mask : List Nat → Byte) (gaps : Nat),
      (∀ m k, k < 8 → ((mask m).getLsbD k = true ↔ c.first + k ∈ m)) ∧
      (∀ k, k < 16 → (gaps.testBit k = true ↔ x.ring[k]? = some none)) ∧
      sectorData i 1 s = byteOf x.valid :: [x.rise.watch, x.rise.prepare, x.rise.evacuate, x.hold.watch,
        x.hold.prepare, x.hold.evacuate].map mask ++
        [byteOf x.level.num, orFF (x.peak.map Peak.lane)] ++ orFFFF (x.peak.map Peak.fill) ++ be16 x.index ++
        orFFFF x.blindCd ++ [yesNo x.blind, byteOf x.ring.length] ++ be16 gaps ++
        x.ring.flatMap (fun e => be16 (e.getD 0)) ++ present x.lastRise ++
        [yesNo x.rapid, byteOf x.stage.num, x.causes.byte]) ∧
    ∀ part, 2 ≤ part → sectorData i part s =
      [byteOf x.bins.length] ++ x.bins.flatMap be16 ++ orFFFF x.binCd ++ be16 x.window ++
      [yesNo x.surge, byteOf c.trips.length] ++
      c.trips.map (fun k => (match readLink s k with
        | .intact => 0 | .cut => 1 | .fault => 2 | .silent => 3 | .parked => 4 | .unusable => 5
        | .awaiting => 6 : Byte)) ++
      [yesNo x.tripFault, if x.trip = none then 0 else 1] ++
      match x.trip with
      | none => []
      | some r => [byteOf r.link, byteOf r.station, r.addr, byteOf r.wire] ++ r.time.bytes) ∧
  (∀ z x, s.zone z = some x → zoneData z s =
    [byteOf x.cfg.sectors.length] ++ x.cfg.sectors.map byteOf ++ [byteOf x.cfg.sirens.length] ++ x.cfg.sirens ++
    [byteOf x.cfg.holdDown] ++ be16 x.cfg.repeatInterval ++
    [byteOf x.cfg.tries, byteOf x.cfg.refresh, byteOf x.stage.num, byteOf x.computed.num,
     orFF (x.force.map (fun f => f.stage.num))] ++ orFFFF (x.force.map Force.left) ++ [byteOf x.target.num] ++
    orFFFF x.hold ++ [x.serial, x.causes.byte, orFF x.peakSector] ++ orFFFF x.refreshCd ++ be16 x.undispatched) ∧
  ∀ k o, s.output k = some o →
    let three := fun (c : Cadences) => be16 c.c1.cycle ++ be16 c.c1.onTime ++ be16 c.c2.cycle ++ be16 c.c2.onTime ++
      be16 c.c3.cycle ++ be16 c.c3.onTime
    outputData k s = [byteOf o.cfg.code, byteOf o.cfg.argIndex, byteOf o.cfg.argStage.num] ++ three o.cfg.written ++
      three o.working ++ [yesNo o.condition, orFF o.inUse] ++ orFFFF o.phase ++ [yesNo o.closed]

/-- What a start-up from an image leaves (R19, R46, R65, R89, R120, R132, R133, R140, R192, R198, R200). -/
def StartedFrom (m : Image) (s u : State) : Prop :=
  u.straps = s.straps ∧ u.rate = s.straps.rate ∧ u.node = byteOf (s.straps.addr.val + 1) ∧ u.pending = s.pending ∧
    (∀ p, (u.port p).rx = .hunt ∧ (u.port p).tx = none ∧ ∀ n ∈ portCounts p u, n = 0) ∧
    u.crestA.queue = [] ∧ u.crestB.queue = [] ∧ u.valley.forward = [] ∧ u.valley.seq = 0 ∧
    u.replies = [] ∧ u.lost = 0 ∧ u.save = none ∧ u.store = s.store ∧
    u.console = m.console ∧ u.mode = (if m.watching then .watching else .commissioning) ∧
    u.notices.enables = m.enables ∧ u.notices.period = m.period ∧
    u.notices.statusCd = (if m.period = 0 then none else some m.period) ∧
    u.dispatch.stale = 0 ∧ u.dispatch.mismatched = 0 ∧
    (∀ i, u.station i = (entryAt m.stations i).map (fun c =>
      { cfg := c, live := if c.parked then .parked else .absent, lastSeq := none
        silence := if c.parked then none else some c.limit, lastHeard := none, contents := none, phase := 0
        counts := StationCounts.zero })) ∧
    (∀ i, u.lane i = (entryAt m.lanes i).map (fun c =>
      { cfg := c, tracked := none, clearance := none, fill := none, valueTime := none, loss := 0
        credits := c.cands.map (fun _ => 0) })) ∧
    (∀ i, u.sector i = (entryAt m.sectors i).map (fun c =>
      if c.parked then Sector.parkedFrom c else Sector.afresh u c none)) ∧
    (∀ z, (u.zone z).map Zone.cfg = entryAt m.zones z) ∧ ZonesCovered u ∧
    (∀ z x, u.zone z = some x → x.force = none ∧ x.hold = none ∧ x.stage = x.target ∧ x.target = x.computed ∧
      (x.stage = .quiet → x.serial = 0 ∧ x.refreshCd = none ∧ x.undispatched = 0) ∧
      (x.stage ≠ .quiet → m.watching = true → x.serial = 1 ∧ x.undispatched = 0 ∧
        x.refreshCd = if x.cfg.refresh = 0 then none else some x.cfg.refresh) ∧
      (x.stage ≠ .quiet → m.watching = false → x.serial = 0 ∧ x.undispatched = 1 ∧ x.refreshCd = none)) ∧
    (u.notices.stage.detail = none ↔ ∀ z x, u.zone z = some x → x.stage = .quiet) ∧
    (∀ e ∈ u.dispatch.queue, m.watching = true ∧ ∃ x, u.zone e.zone = some x ∧ x.stage ≠ .quiet) ∧
    (m.watching = true → ∀ z x, u.zone z = some x → x.stage ≠ .quiet →
      ∃ e, u.dispatch.queue.filter (fun (e : Entry) => decide (e.zone = z)) = [e] ∧ e.serial = 1 ∧ e.stage = x.stage ∧
        e.causes = x.causes ∧ e.refresh = false ∧
        e.records = x.cfg.sirens.map (fun a => { addr := a, state := .pending, tries := 0, cd := none })) ∧
    (∀ k, 1 ≤ k → k ≤ 6 → (u.output k).map Output.cfg = m.outputs[k - 1]?) ∧ OutputsFollow u

/-- The first evaluation of every zone of an image, ascending, on sectors that stand as the start-up has built them, and
what it leaves in the zones, the Dispatch Queue and the notice unit (R120, R192, R200 steps 6 to 9); `power` says that the
start-up is a power-on, which has raised CLOCK UNSET. -/
def FirstEvaluated (m : Image) (power : Bool) (u : State) : Prop :=
  let clear := fun (on : Bool) => ({ enable := on, detail := none, count := 0 } : ClassState)
  let afresh : NoticeUnit :=
    { stage := clear m.enables.stage, source := clear m.enables.source, silence := clear m.enables.silence
      delivery := clear m.enables.delivery, trip := clear m.enables.trip, fault := clear m.enables.fault
      period := m.period, statusCd := none, out := [] }
  let first : State := { u with
    zones := mapEntries (fun (c : ZoneConfig) =>
      { cfg := c, stage := .quiet, computed := .quiet, force := none, target := .quiet, hold := none, serial := 0
        causes := Causes.none, peakSector := none, refreshCd := none, undispatched := 0 }) m.zones
    dispatch := { queue := [], stale := 0, mismatched := 0 }
    notices := if power then afresh.raise .clockUnset m.console else afresh }
  let w : State := (List.range 12).foldl (fun v z => v.evaluateZone z) first
  u.zones = w.zones ∧ u.dispatch = w.dispatch ∧
    u.notices = { w.notices with statusCd := if m.period = 0 then none else some m.period }

end Sys2Proof.Machine
end

