-- ==== Sys2Proof/Certificates/Slice0/Obligations.lean ====
section
/-! DEFINITION. The statements for the provers, in the order of the spec's chapters. Where a statement's title does not
say otherwise, `State.finish old new` is the end of an event (log 7, log 8, log 18): the order of new alerts, the outputs
whose reading has changed, and the idle transmitters; what it does is `EndOfEventTouchesOutputsAndSendingAlone`. And
`s₀.settle` is `s₀` once what has run out has been taken (R23, log 4), which is `s₀` itself where nothing has; what it does
is `TenthTickReachesItsTimers`. -/

open Sys2Proof Sys2Proof.Machine

/-! ## Steps and reset -/

/-- A step takes the command at the front of the queue; on an empty queue the block idles (log 3). -/
def Obligations.StepTakesTheFrontOfTheQueue : Prop :=
  (∀ (c : Instr) (rest : List Instr) (s : State),
      step { s with pending := c :: rest } = exec c { s with pending := rest }) ∧
    ∀ s : State, s.pending = [] → step s = .next s

/-- Every command and event answers a next state, and none touches the waiting queue or the strap pins. -/
def Obligations.EveryCommandAnswersANextState : Prop :=
  ∀ (c : Instr) (s : State), ∃ t, exec c s = .next t ∧ t.pending = s.pending ∧ t.straps = s.straps

/-- What reset leaves: the power-on of a part never saved (R19, R28, R46, R65, R89, R120, R132, R133, R138, R140, R192,
R200, R202). The straps and the receive lines are the model's choice (log 1, log 2, log 11) and are not named. -/
def Obligations.ResetLeavesTheStartUpValues : Prop :=
  State.reset.time = { now := { day := 0, hour := 0, minute := 0, second := 0, tenth := 0, unset := true }, phase := 0 } ∧
    (∀ i, State.reset.station i = none) ∧ (∀ i, State.reset.lane i = none) ∧ (∀ i, State.reset.sector i = none) ∧
    (∀ z, State.reset.zone z = none) ∧
    State.reset.dispatch = { queue := [], stale := 0, mismatched := 0 } ∧
    (let steady : Cadence := { cycle := 10, onTime := 10 }
     let written : Cadences := { c1 := steady, c2 := steady, c3 := steady }
     let unset : OutputConfig := { code := 0, argIndex := 0, argStage := .watch, written := written }
     ∀ k, 1 ≤ k → k ≤ 6 → State.reset.output k = some
       { cfg := unset, working := written, condition := false, inUse := none, phase := none, closed := false }) ∧
    State.reset.replies = [] ∧ State.reset.lost = 0 ∧ State.reset.save = none ∧ State.reset.mode = .blank ∧
    State.reset.console = [] ∧
    State.reset.cause = { powerOn := true, line := false, fullCommand := false, warmCommand := false, storeFault := true } ∧
    (∀ p, (State.reset.port p).rx = .hunt ∧ (State.reset.port p).tx = none ∧ ∀ n ∈ portCounts p State.reset, n = 0) ∧
    State.reset.valley.seq = 0 ∧ State.reset.valley.forward = [] ∧ State.reset.crestA.queue = [] ∧
    State.reset.crestB.queue = [] ∧ State.reset.rate = State.reset.straps.rate ∧
    State.reset.node = nodeOf State.reset.straps ∧ State.reset.notices.out = [] ∧
    State.reset.notices.fault = { enable := true, detail := some .clockUnset, count := 1 } ∧
    (∀ c ∈ NoticeClass.all, c ≠ .fault → State.reset.notices.get c = { enable := true, detail := none, count := 0 }) ∧
    State.reset.notices.period = 0 ∧ State.reset.notices.statusCd = none ∧
    exec .powerOn State.reset = .next State.reset

/-- The properties that every step keeps hold right after reset. -/
def Obligations.KeptPropertiesHoldAtReset : Prop :=
  TimeLegal State.reset ∧ QueuesBounded State.reset ∧ CountersBounded State.reset ∧ BlankIsEmpty State.reset ∧
    WatchingIsConsistent State.reset ∧ SectorsStaged State.reset ∧ ZonesCovered State.reset ∧
    SirensListed State.reset ∧ DispatchOrdered State.reset ∧ StationsLegal State.reset ∧ LanesLegal State.reset ∧
    OutputsFollow State.reset ∧ NoticesLegal State.reset ∧ BinsBounded State.reset ∧ PeriodsRun State.reset ∧
    Settled State.reset

/-! ## Receiving (chapter 1) -/

/-- A character at a receiver (R3, R4). In HUNT only SYNC is taken, and a broken character is not counted; in LENGTH a LEN
from 4 to 60 is kept and any other is counted; in BODY bytes are stored; in CHECK the check code is judged when its
second byte arrives. -/
def Obligations.ReceiversTakeCharacters : Prop :=
  (∀ (p : PortId) (b : Byte) (s₀ : State), let s := s₀.settle; (s.port p).line = .mark →
     ((s.port p).rx = .hunt → b ≠ 0xD7 → exec (.characterReceived p b) s₀ = .next (State.finish s s)) ∧
     ((s.port p).rx = .hunt → b = 0xD7 →
       exec (.characterReceived p b) s₀ = .next (State.finish s (s.updPort p (fun q => { q with rx := .length })))) ∧
     ((s.port p).rx = .hunt →
       exec (.brokenCharacter p) s₀ = .next (State.finish s (s.updPort p (fun q => { q with line := .space })))) ∧
     ((s.port p).rx = .length → 4 ≤ b.toNat → b.toNat ≤ 60 →
       exec (.characterReceived p b) s₀ =
         .next (State.finish s (s.updPort p (fun q => { q with rx := .body b [] b.toNat })))) ∧
     ((s.port p).rx = .length → b.toNat < 4 ∨ 60 < b.toNat →
       exec (.characterReceived p b) s₀ =
           .next (State.finish s (s.updPort p (fun q => { q with rx := .hunt, oversize := satInc q.oversize }))) ∧
         exec (.oversizeError p b) s₀ =
           .next (State.finish s (s.updPort p (fun q => { q with rx := .hunt, oversize := satInc q.oversize }))))) ∧
  (∀ (p : PortId) (b : Byte) (s₀ : State), let s := s₀.settle; (s.port p).line = .mark →
     (∀ len got left, (s.port p).rx = .body len got left → 1 < left →
       exec (.characterReceived p b) s₀ =
         .next (State.finish s (s.updPort p (fun q => { q with rx := .body len (got ++ [b]) (left - 1) })))) ∧
     (∀ len got left, (s.port p).rx = .body len got left → left ≤ 1 →
       exec (.characterReceived p b) s₀ =
         .next (State.finish s (s.updPort p (fun q => { q with rx := .check len (got ++ [b]) none })))) ∧
     (∀ len got, (s.port p).rx = .check len got none →
       exec (.characterReceived p b) s₀ =
         .next (State.finish s (s.updPort p (fun q => { q with rx := .check len got (some b) })))) ∧
     (∀ len got h, (s.port p).rx = .check len got (some h) → crc16 (len :: got) ≠ h ++ b →
       exec (.characterReceived p b) s₀ =
         .next (State.finish s (s.updPort p (fun q => { q with rx := .hunt, crcError := satInc q.crcError })))) ∧
     (∀ len dst src kind seq payload h, (s.port p).rx = .check len (dst :: src :: kind :: seq :: payload) (some h) →
       crc16 (len :: dst :: src :: kind :: seq :: payload) = h ++ b →
       exec (.characterReceived p b) s₀ =
         .next (State.finish s (State.decideFrame p
           { dst := dst, src := src, kind := kind, seq := seq, payload := payload, crc := h ++ b }
           (s.updPort p (fun q => { q with rx := .hunt, received := satInc q.received }))))))

/-- A whole frame (R2, R4): a good one is counted and handed to its port's decision, one whose check code differs is
counted, and a receiver that waits for mark takes nothing (R5). The check code is that of R2 over LEN through the last
payload byte, computed bit after bit, the most significant bit of each byte first (R203): the register starts at 0xFFFF,
shifts left by one place for each bit, and takes the polynomial x^16+x^12+x^5+1 when the bit shifted out and the bit that
enters differ; nothing is reflected or inverted. -/
def Obligations.WholeFrameIsJudgedByItsCheckCode : Prop :=
  (∀ f : Frame,
    let bytes := byteOf (f.payload.length + 4) :: f.dst :: f.src :: f.kind :: f.seq :: f.payload
    let bits := bytes.flatMap (fun b => (List.range 8).map (fun k => b.getLsbD (7 - k)))
    frameCrc f = bits.foldl (fun (c : Word) bit => (c <<< 1) ^^^ (if c.getLsbD 15 = bit then 0 else 0x1021)) 0xFFFF) ∧
  (∀ (p : PortId) (f : Frame) (s₀ : State), let s := s₀.settle; GoodArrival p f s →
      exec (.frameReceived p f) s₀ = .next (State.finish s (State.decideFrame p f (s.arrived p)))) ∧
    (∀ (p : PortId) (f : Frame) (s₀ : State), let s := s₀.settle; Arrives p f s → f.crc ≠ frameCrc f →
      exec (.frameReceived p f) s₀ =
        .next (State.finish s (s.updPort p (fun q => { q with crcError := satInc q.crcError })))) ∧
    ∀ (p : PortId) (f : Frame) (s₀ : State), let s := s₀.settle; (s.port p).line ≠ .mark →
      exec (.frameReceived p f) s₀ = .next (State.finish s s)

/-- Gaps, broken characters and the return to mark (R5). -/
def Obligations.GapsAndBrokenCharactersEndFrames : Prop :=
  ∀ (p : PortId) (s₀ : State), let s := s₀.settle;
    ((s.port p).rx = .hunt → exec (.idleGap p) s₀ = .next (State.finish s s)) ∧
    ((s.port p).rx ≠ .hunt →
      exec (.idleGap p) s₀ =
        .next (State.finish s (s.updPort p (fun q => { q with rx := .hunt, framing := satInc q.framing })))) ∧
    ((s.port p).line = .mark → (s.port p).rx ≠ .hunt →
      exec (.brokenCharacter p) s₀ =
        .next (State.finish s (s.updPort p (fun q =>
          { q with rx := .hunt, framing := satInc q.framing, line := .space })))) ∧
    ((s.port p).line ≠ .mark →
      exec (.brokenCharacter p) s₀ = .next (State.finish s s) ∧
        ∀ b, exec (.characterReceived p b) s₀ = .next (State.finish s s)) ∧
    exec (.lineReturnsToMark p) s₀ = .next (State.finish s (s.updPort p (fun q => { q with line := .mark })))

/-! ## Forwarding decisions (chapter 1) -/

/-- A good frame with a bad DST or SRC is discarded and counted, on every port, whatever else it is (R7). -/
def Obligations.BadAddressFramesAreDiscarded : Prop :=
  ∀ (p : PortId) (f : Frame) (s₀ : State), let s := s₀.settle; GoodArrival p f s →
    f.dst = 0 ∨ f.src = 0 ∨ f.src = 255 ∨ f.src = s.node →
    exec (.frameReceived p f) s₀ =
      .next (State.finish s ((s.arrived p).updPort p (fun q => { q with badAddress := satInc q.badAddress })))

/-- Good crest frames (R8, R9, R11): a COMMAND for the part, a frame of a loaded station (parked, wrong port, wrong
kind, or a candidate for assessment), and every other frame. The kinds of the three classes are SAMPLE, PULSE and TRIP
(R203). -/
def Obligations.CrestFramesAreDecided : Prop :=
  (∀ n, (StationClass.sweep n).kind = 0x11 ∧ (StationClass.pulse n).kind = 0x12 ∧ (StationClass.trip n).kind = 0x13) ∧
  (∀ (d : Side) (f : Frame) (s₀ : State), let s := s₀.settle; GoodArrival d.portId f s → AddressesOk s.node f →
     (f.kind = 0x20 → f.dst = s.node →
       exec (.frameReceived d.portId f) s₀ =
         .next (State.finish s ((s.arrived d.portId).updCrest d (fun c => { c with wrongSide := satInc c.wrongSide })))) ∧
     (NoStation f.src s → f.kind = 0x11 ∨ f.kind = 0x12 ∨ f.kind = 0x13 →
       exec (.frameReceived d.portId f) s₀ =
         .next (State.finish s
           (((s.arrived d.portId).updCrest d (fun c => { c with unknownSource := satInc c.unknownSource })).appendForward f))) ∧
     (NoStation f.src s → f.kind ≠ 0x11 → f.kind ≠ 0x12 → f.kind ≠ 0x13 → f.dst = s.node →
       exec (.frameReceived d.portId f) s₀ =
         .next (State.finish s ((s.arrived d.portId).updCrest d (fun c => { c with wrongSide := satInc c.wrongSide })))) ∧
     (NoStation f.src s → f.kind ≠ 0x11 → f.kind ≠ 0x12 → f.kind ≠ 0x13 → f.dst ≠ s.node →
       exec (.frameReceived d.portId f) s₀ = .next (State.finish s ((s.arrived d.portId).appendForward f)))) ∧
  (∀ (d : Side) (f : Frame) (s₀ : State) (i : Nat) (x : Station), let s := s₀.settle; GoodArrival d.portId f s → AddressesOk s.node f →
     (f.kind ≠ 0x20 ∨ f.dst ≠ s.node) → s.station i = some x → x.cfg.addr = f.src → OnlyStation i f.src s →
     (x.cfg.parked = true →
       exec (.frameReceived d.portId f) s₀ =
         .next (State.finish s
           (((s.arrived d.portId).updCrest d (fun c => { c with parked := satInc c.parked })).appendForward f))) ∧
     (x.cfg.parked = false → x.cfg.port ≠ d →
       exec (.frameReceived d.portId f) s₀ =
         .next (State.finish s (((s.arrived d.portId).setStation i
           (some { x with counts := { x.counts with wrongPort := satInc x.counts.wrongPort } })).appendForward f))) ∧
     (x.cfg.parked = false → x.cfg.port = d → f.kind ≠ x.cfg.cls.kind →
       exec (.frameReceived d.portId f) s₀ =
         .next (State.finish s (((s.arrived d.portId).setStation i
           (some { x with counts := { x.counts with wrongKind := satInc x.counts.wrongKind } })).appendForward f))) ∧
     (x.cfg.parked = false → x.cfg.port = d → f.kind = x.cfg.cls.kind →
       exec (.frameReceived d.portId f) s₀ = .next (State.finish s ((s.arrived d.portId).stationFrame i x f))))

/-- Valley frames (R12, R13, R14): for the part, for every node, for another node. -/
def Obligations.ValleyFramesGoToTheirTaker : Prop :=
  ∀ (f : Frame) (s₀ : State), let s := s₀.settle; GoodArrival .valley f s → AddressesOk s.node f →
    (f.dst = s.node → f.kind = 0x20 →
      exec (.frameReceived .valley f) s₀ = .next (State.finish s ((s.arrived .valley).takePayload f.src f.payload))) ∧
    (f.dst = s.node → f.kind = 0x31 →
      exec (.frameReceived .valley f) s₀ = .next (State.finish s ((s.arrived .valley).takeAck f.src f.payload))) ∧
    (f.dst = s.node → f.kind ≠ 0x20 → f.kind ≠ 0x31 →
      exec (.frameReceived .valley f) s₀ =
        .next (State.finish s { s.arrived .valley with
          valley := { (s.arrived .valley).valley with notForPart := satInc s.valley.notForPart } })) ∧
    (f.dst ≠ s.node → f.dst = 255 → f.kind = 0x20 → f.payload.head? = some 0x01 →
      exec (.frameReceived .valley f) s₀ =
        .next (State.finish s
          ((((s.arrived .valley).appendCrest .a f).appendCrest .b f).takePayload f.src f.payload))) ∧
    (f.dst ≠ s.node → f.dst = 255 → f.kind ≠ 0x20 ∨ f.payload.head? ≠ some 0x01 →
      exec (.frameReceived .valley f) s₀ =
        .next (State.finish s (((s.arrived .valley).appendCrest .a f).appendCrest .b f))) ∧
    (∀ i x, f.dst ≠ s.node → f.dst ≠ 255 → s.station i = some x → x.cfg.addr = f.dst → OnlyStation i f.dst s →
      exec (.frameReceived .valley f) s₀ = .next (State.finish s ((s.arrived .valley).appendCrest x.cfg.port f))) ∧
    (f.dst ≠ s.node → f.dst ≠ 255 → NoStation f.dst s →
      exec (.frameReceived .valley f) s₀ =
        .next (State.finish s (((s.arrived .valley).appendCrest .a f).appendCrest .b f)))

/-- The crest-ward queues and the valley forward queue at and below their limits (R14, R15). -/
def Obligations.QueuesTakeOrShedFrames : Prop :=
  ∀ (f : Frame) (s : State),
    (∀ d, (s.crest d).queue.length < 8 →
      s.appendCrest d f = s.updCrest d (fun c => { c with queue := c.queue ++ [f] })) ∧
    (∀ d, 8 ≤ (s.crest d).queue.length →
      s.appendCrest d f = s.updCrest d (fun c => { c with crestDrop := satInc c.crestDrop })) ∧
    (s.valley.forward.length < 32 →
      s.appendForward f = { s with valley := { s.valley with forward := s.valley.forward ++ [f] } }) ∧
    (∀ before old after, 32 ≤ s.valley.forward.length → s.valley.forward = before ++ old :: after →
      (∀ g ∈ before, g.kind ≠ 0x11) → old.kind = 0x11 →
      s.appendForward f =
        ({ s with valley := { s.valley with forward := before ++ after ++ [f]
                                            forwardDrop := satInc s.valley.forwardDrop } }).raise
          (.forwardDrop old.src old.kind)) ∧
    (32 ≤ s.valley.forward.length → (∀ g ∈ s.valley.forward, g.kind ≠ 0x11) →
      s.appendForward f =
        ({ s with valley := { s.valley with forwardDrop := satInc s.valley.forwardDrop } }).raise
          (.forwardDrop f.src f.kind))

/-! ## Sending (chapter 1) -/

/-- A transmit completion frees the port and is counted (R17), as every counter is, up to 65535 (R18). That a completion
that comes on an idle port changes nothing is the model's choice (log 23): the spec has a completion end a frame alone. -/
def Obligations.TransmitCompletionFreesThePort : Prop :=
  (∀ n k, satInc n = min (n + 1) 65535 ∧ satAdd n k = min (n + k) 65535) ∧
  ∀ (p : PortId) (s₀ : State), let s := s₀.settle;
    ((s₀.port p).tx = none → exec (.transmitCompletion p) s₀ = .next (State.finish s s)) ∧
    ∀ f, (s₀.port p).tx = some { frame := f, effect := .nothing } →
      exec (.transmitCompletion p) s₀ =
        .next (State.finish s (s.updPort p (fun q => { q with tx := none, sent := satInc q.sent })))

/-- What a transmitter takes (R2, R14, R16, R17, R126). The Valley transmitter takes nothing while SENDING; idle, it takes
the first due siren of the first entry that has one, then a reply, then a notice or status, then a forwarded frame. A
crest transmitter takes the head of its queue. The bytes of an ALERT, a NOTICE and a STATUS are R205's and R206's; that
a detail that is none is twelve 0 bytes is the model's reading (log 31). The check code of a frame the part originates is
that of `WholeFrameIsJudgedByItsCheckCode`. -/
def Obligations.TransmittersTakeInOrder : Prop :=
  ((∀ (s : State) (f : Sending), s.valley.port.tx = some f → s.kickValley = s) ∧
     (∀ (dst kind : Byte) (payload : List Byte) (effect : ReplyEffect) (s : State),
       ∃ f : Frame, f.dst = dst ∧ f.src = s.node ∧ f.kind = kind ∧ f.seq = s.valley.seq + 1 ∧ f.payload = payload ∧
         f.crc = frameCrc f ∧
         s.originate dst kind payload effect =
           { s with valley := { s.valley with
               seq := s.valley.seq + 1
               port := { s.valley.port with tx := some { frame := f, effect := effect } } } }) ∧
     (∀ (s : State) (before after : List Entry) (e : Entry) (waiting rest : List SirenRecord) (r : SirenRecord),
       s.valley.port.tx = none → s.dispatch.queue = before ++ e :: after → e.records = waiting ++ r :: rest →
       (∀ y ∈ before, ∀ q ∈ y.records, q.state ≠ .pending ∨ q.cd ≠ none) →
       (∀ q ∈ waiting, q.state ≠ .pending ∨ q.cd ≠ none) → r.state = .pending → r.cd = none →
       (s.dispatch.queue.map Entry.zone).Nodup → (e.records.map SirenRecord.addr).Nodup →
       s.kickValley =
         ({ s with dispatch := { s.dispatch with
             queue := before ++ { e with
               records := waiting ++ { r with
                 tries := r.tries + 1
                 cd := (s.zone e.zone).map (fun (x : Zone) => x.cfg.repeatInterval) } :: rest } :: after } }).originate
           r.addr 0x30 (alertPayload e) .nothing) ∧
     ∀ s : State, s.valley.port.tx = none →
       (∀ y ∈ s.dispatch.queue, ∀ q ∈ y.records, q.state ≠ .pending ∨ q.cd ≠ none) →
       (∀ r rest, s.replies = r :: rest →
         s.kickValley = ({ s with replies := rest }).originate r.dst 0x21 r.payload r.effect) ∧
       (∀ c dst rest, s.replies = [] → s.notices.out = .notice c dst :: rest →
         s.kickValley = ({ s with notices := { s.notices with out := rest } }).originate dst 0x22
           (noticePayload c s.notices) .nothing) ∧
       (∀ dst rest, s.replies = [] → s.notices.out = .status dst :: rest →
         s.kickValley = ({ s with notices := { s.notices with out := rest } }).originate dst 0x23
           (statusPayload s) .nothing) ∧
       (∀ f rest, s.replies = [] → s.notices.out = [] → s.valley.forward = f :: rest →
         s.kickValley = { s with valley := { s.valley with
           forward := rest, port := { s.valley.port with tx := some { frame := f, effect := .nothing } } } }) ∧
       (s.replies = [] → s.notices.out = [] → s.valley.forward = [] → s.kickValley = s)) ∧
  ((∀ e : Entry, alertPayload e =
       [byteOf e.zone, e.serial, byteOf e.stage.num, e.causes.byte, if e.refresh then 1 else 0,
        (e.peakSector.map byteOf).getD 0xFF, (e.peak.map (fun p => byteOf p.lane)).getD 0xFF] ++
       (e.peak.map (fun p => be16 p.fill)).getD [0xFF, 0xFF] ++ be16 e.index ++ be16 e.created.day ++
       [byteOf e.created.hour, byteOf e.created.minute, byteOf e.created.second]) ∧
     (∀ (c : NoticeClass) (u : NoticeUnit), ∃ listed : List Byte, listed.length ≤ 12 ∧
       noticePayload c u = [byteOf c.num, if (u.get c).detail = none then 0 else 1] ++ be16 (u.get c).count ++
         listed ++ List.replicate (12 - listed.length) 0 ∧
       ((u.get c).detail = none → listed = []) ∧
       ∀ d, (u.get c).detail = some d → listed = match d with
         | .stage z old new serial causes peak hold =>
           [byteOf z, byteOf old.num, byteOf new.num, serial, causes.byte, (peak.map byteOf).getD 0xFF,
            if hold then 1 else 0]
         | .source l old new station lane why =>
           [byteOf l, (old.map byteOf).getD 0xFF, (new.map byteOf).getD 0xFF, (station.map byteOf).getD 0xFF,
            (lane.map byteOf).getD 0xFF, match why with
              | .found => 0 | .echoLoss => 1 | .silent => 2 | .withdrawn => 3 | .restore => 4 | .reloaded => 5
              | .cleared => 6]
         | .silence i addr left entered heard =>
           [byteOf i, addr, left.byte, entered.byte] ++
             (heard.map TimeStamp.bytes).getD [0, 0, 0, 0, 0, 0, 0x80]
         | .delivery z serial stage siren tries => [byteOf z, serial, byteOf stage.num, siren, byteOf tries]
         | .trip sector link station addr wire time =>
           [byteOf sector, byteOf link, byteOf station, addr, byteOf wire] ++ time.bytes
         | .clockUnset => [0]
         | .storeFault => [1]
         | .forwardDrop src kind => [2, src, kind]
         | .replyLost src code => [3, src, code]) ∧
     (∀ s : State, ∃ (flags : Nat → Byte) (pending : Byte),
       statusPayload s = [s.mode.byte] ++ s.time.now.bytes ++
         (List.range 12).map (fun z => ((s.zone z).map (fun x => byteOf x.stage.num)).getD 0) ++
         (List.range 8).flatMap (fun i => [((s.sector i).map (fun y => byteOf y.stage.num)).getD 0, flags i]) ++
         [pending, byteOf s.dispatch.queue.length] ∧
       (∀ i, s.sector i = none → flags i = 0) ∧
       (∀ i y k, s.sector i = some y → (flags i).getLsbD k =
         [y.blind, y.rapid, y.surge, y.tripFault, y.trip.isSome, y.cfg.parked].getD k false) ∧
       ∀ k, pending.getLsbD k = ([s.notices.stage, s.notices.source, s.notices.silence, s.notices.delivery,
         s.notices.trip, s.notices.fault].map (fun c => c.detail.isSome)).getD k false) ∧
     (∀ n, byteOf n = BitVec.ofNat 8 n ∧ be16 n = [BitVec.ofNat 8 (n / 256), BitVec.ofNat 8 n]) ∧
     (∀ (c : Causes) k, c.byte.getLsbD k =
       [c.level, c.blind, c.rapid, c.surge, c.tripFault, c.trip, c.force, c.held].getD k false) ∧
     (∀ m : TimeStamp, m.bytes =
       be16 m.day ++ [byteOf m.hour, byteOf m.minute, byteOf m.second, byteOf m.tenth, if m.unset then 1 else 0]) ∧
     Mode.blank.byte = 0 ∧ Mode.commissioning.byte = 1 ∧ Mode.watching.byte = 2 ∧
     Liveness.absent.byte = 0 ∧ Liveness.live.byte = 1 ∧ Liveness.silent.byte = 2 ∧ Liveness.parked.byte = 3) ∧
  (∀ (d : Side) (s : State),
     (∀ f, (s.crest d).port.tx = some f → s.kickCrest d = s) ∧
     ((s.crest d).queue = [] → s.kickCrest d = s) ∧
     ∀ f rest, (s.crest d).port.tx = none → (s.crest d).queue = f :: rest →
       s.kickCrest d = s.updCrest d (fun c =>
         { c with queue := rest, port := { c.port with tx := some { frame := f, effect := .nothing } } }))

/-- The end of an event is the order of new alerts and the outputs, then the three takings (R16, R17, R122, R134). An
entry whose content stood keeps its order among those that stood; contents set within the event stand behind every entry
of their stage or higher, and among themselves in ascending zone order (log 18). An output whose watched reading stands
is untouched, and every other is re-evaluated (log 8). Nothing but outputs, transmitters and what they take from is
touched (log 7). -/
def Obligations.EndOfEventTouchesOutputsAndSendingAlone : Prop :=
  ∀ old new : State,
    (∃ q o, State.finish old new =
        ((({ new with dispatch := { new.dispatch with queue := q }, outputs := o }).kickCrest .a).kickCrest .b).kickValley ∧
      q.Perm new.dispatch.queue ∧
      (let stood := fun (e : Entry) =>
        old.dispatch.queue.any (fun x => decide (x.zone = e.zone) && decide (x.serial = e.serial));
        q.filter stood = new.dispatch.queue.filter stood ∧
          (new.dispatch.queue.Pairwise (fun a b => b.stage.num ≤ a.stage.num) →
            (new.dispatch.queue.map Entry.zone).Nodup →
            q.Pairwise (fun a b => b.stage.num < a.stage.num ∨
              (b.stage.num = a.stage.num ∧ (stood a = true ∨ (stood b = false ∧ a.zone < b.zone)))))) ∧
      ∀ (j : Nat) (x : Output), new.outputs[j]? = some x → o[j]? = some (if watched old x.cfg = watched new x.cfg then x
        else x.evaluate new)) ∧
    ∃ v, State.finish old new = v ∧
      v = { new with
        crestA := { new.crestA with
          queue := v.crestA.queue, port := { new.crestA.port with tx := v.crestA.port.tx } }
        crestB := { new.crestB with
          queue := v.crestB.queue, port := { new.crestB.port with tx := v.crestB.port.tx } }
        valley := { new.valley with
          forward := v.valley.forward, seq := v.valley.seq, port := { new.valley.port with tx := v.valley.port.tx } }
        dispatch := { new.dispatch with queue := v.dispatch.queue }
        notices := { new.notices with out := v.notices.out }
        replies := v.replies
        outputs := v.outputs } ∧
      ∀ k o, new.output k = some o → ∃ o', v.output k = some o' ∧ o'.cfg = o.cfg

/-! ## Time base (chapter 2) -/

/-- A tenth tick moves the counters on by one tenth, rolls and day wrap included, and keeps CLOCK UNSET (R21, R26).
The fifth tick of each group of five follows 3276 crystal cycles after the fourth, every other 3277 cycles after the one
before it, or after the prescaler's start (R21). -/
def Obligations.TenthTickAdvancesTheTimeBase : Prop :=
  (∀ b : TimeBase, b.cyclesToNext = if b.phase = 4 then 3276 else 3277) ∧
  ∀ s : State, TimeLegal s → ∃ t, exec .tenthTick s = .next t ∧
    t.time.now.tenths = (s.time.now.tenths + 1) % (65536 * 864000) ∧ t.time.now.unset = s.time.now.unset ∧
    t.time.phase = (s.time.phase + 1) % 5 ∧ TimeLegal t

/-- What a tenth tick reaches (R22, R23, R24, R113): every cadence phase, at a second event every second-paced
countdown, at a minute event the sectors and then the zones' countdowns (the order is log 5's). What reaches its end
there runs out before anything but another running out happens: `State.settle` is one running out after another, each
by its own row, and nothing where nothing has run out (R23, log 4). -/
def Obligations.TenthTickReachesItsTimers : Prop :=
  (∀ s : State, Settled s → s.settle = s) ∧
  (∀ s : State, ∃ rows : List Instr, (∀ c ∈ rows, c.runsOut = true) ∧ takeAll rows s = .next s.settle) ∧
  ∀ s₀ : State,
    let s := s₀.settle
    let a : State := { s with time := s.time.advance, outputs := mapTable Output.tenth s.outputs }
    let b : State := { a with
      stations := mapEntries (fun (x : Station) => { x with silence := x.silence.map (fun n => n - 1) }) s.stations
      sectors := mapEntries (fun (x : Sector) =>
        { x with blindCd := x.blindCd.map (fun n => n - 1), binCd := x.binCd.map (fun n => n - 1) }) s.sectors
      dispatch := { s.dispatch with queue := s.dispatch.queue.map (fun e =>
        { e with records := e.records.map (fun r => { r with cd := r.cd.map (fun n => n - 1) }) }) }
      notices := { s.notices with statusCd := s.notices.statusCd.map (fun n => n - 1) } }
    let c : State := eachBelow 8 State.sectorMinute b
    (s.time.now.tenth < 9 → exec .tenthTick s₀ = .next (State.finish s a)) ∧
    (9 ≤ s.time.now.tenth → s.time.now.second < 59 → exec .tenthTick s₀ = .next (State.finish s b)) ∧
    (9 ≤ s.time.now.tenth → 59 ≤ s.time.now.second →
      exec .tenthTick s₀ = .next (State.finish s { c with
        zones := mapEntries (fun (x : Zone) =>
          { x with force := x.force.map (fun f => { f with left := f.left - 1 })
                   hold := x.hold.map (fun n => n - 1)
                   refreshCd := x.refreshCd.map (fun n => n - 1) }) c.zones })) ∧
    (∀ (o : Output) n p, o.condition = true → o.inUse = some n → o.phase = some p →
      o.tenth = { o with phase := some (min (p + 1) (o.working.get n).cycle) }) ∧
    ∀ o : Output, o.condition = false → o.tenth = o

/-- A minute event at a sector (R77, R78): the push onto the ring, and the rise over the span when every entry it needs
is a value. -/
def Obligations.MinuteEventPushesAndMeasures : Prop :=
  ∀ (i : Nat) (x : Sector) (s : State), s.sector i = some x →
    (x.cfg.parked = true → s.sectorMinute i = s) ∧
    (x.cfg.parked = false → s.sectorMinute i = s.putSector i (some x.minute)) ∧
    x.minute.ring = ((if x.blind = true ∨ x.blindCd ≠ none then none else some x.index) :: x.ring).take 16 ∧
    (∀ a b, x.minute.ring[0]? = some (some a) → x.minute.ring[x.cfg.rapidSpan]? = some (some b) →
      (∀ g ∈ x.minute.ring.take (x.cfg.rapidSpan + 1), g ≠ none) →
      x.minute.lastRise = some (a - b) ∧ (x.minute.rapid = true ↔ x.cfg.rapidLimit ≤ a - b)) ∧
    (x.minute.ring.length ≤ x.cfg.rapidSpan ∨ none ∈ x.minute.ring.take (x.cfg.rapidSpan + 1) →
      x.minute.lastRise = x.lastRise ∧ x.minute.rapid = x.rapid) ∧
    x.minute = Sector.restage { x with
      ring := x.minute.ring, lastRise := x.minute.lastRise, rapid := x.minute.rapid }

/-! ## Stations (chapter 3) -/

/-- The sequence filter (R34): what passes, what is a duplicate, what is stale, and what each leaves. -/
def Obligations.SequenceFilterJudgesFrames : Prop :=
  ∀ (i : Nat) (x : Station) (f : Frame) (s : State), s.station i = some x →
    (x.live = .absent ∨ x.live = .silent ∨ x.lastSeq = none → s.stationFrame i x f = s.acceptFrame i x 0 f) ∧
    ∀ q, x.live ≠ .absent → x.live ≠ .silent → x.lastSeq = some q →
      ((f.seq - q).toNat = 0 →
        s.stationFrame i x f =
          s.setStation i (some { x with counts := { x.counts with duplicate := satInc x.counts.duplicate } })) ∧
      (1 ≤ (f.seq - q).toNat → (f.seq - q).toNat ≤ 128 →
        s.stationFrame i x f = s.acceptFrame i x ((f.seq - q).toNat - 1) f) ∧
      (129 ≤ (f.seq - q).toNat →
        s.stationFrame i x f =
          s.setStation i (some { x with counts := { x.counts with stale := satInc x.counts.stale } }))

/-- An accepted frame (R10, R32, R35, R39, R40): what it leaves in its station's entry and in the valley forward queue,
and what it hands on: from SILENT a SILENCE raising, from ABSENT or SILENT a live hand-off to the trip logic, and then a
well-formed payload as a sweep arrival, a pulse report or a trip report; last, the frame joins the valley forward queue by
R15 when its forward phase reaches the divisor. -/
def Obligations.AcceptedFrameUpdatesItsStation : Prop :=
  ∀ (i : Nat) (x : Station) (missed : Nat) (f : Frame) (s : State), s.station i = some x →
    let got := readPayload x.cfg.cls f.payload
    let u := s.acceptFrame i x missed f
    let due := x.cfg.divisor ≠ 0 ∧ x.phase + 1 = x.cfg.divisor
    u.station i = some { x with
      live := .live
      lastSeq := some f.seq
      silence := some x.cfg.limit
      lastHeard := some s.time.now
      contents := if got = none then x.contents else got
      phase := if x.cfg.divisor = 0 then x.phase else if x.phase + 1 = x.cfg.divisor then 0 else x.phase + 1
      counts := { x.counts with
        accepted := satInc x.counts.accepted
        missed := satAdd x.counts.missed missed
        malformed := if got = none then satInc x.counts.malformed else x.counts.malformed } } ∧
    (∀ j, j ≠ i → u.station j = s.station j) ∧
    (¬ due → u.valley = s.valley) ∧
    (due → s.valley.forward.length < 32 → u.valley.forward = s.valley.forward ++ [f]) ∧
    u = { s with stations := u.stations, valley := u.valley, lanes := u.lanes, sectors := u.sectors
                 zones := u.zones, dispatch := u.dispatch, notices := u.notices } ∧
    (got = none → x.live = .live → u.lanes = s.lanes ∧ u.sectors = s.sectors ∧ u.zones = s.zones ∧
      u.dispatch = s.dispatch) ∧
    let told : State := if x.live = .silent then s.raise (.silence i x.cfg.addr .silent .live x.lastHeard) else s
    let entered : State := told.setStation i (some { x with
      live := .live, lastSeq := some f.seq, silence := some x.cfg.limit, lastHeard := some s.time.now
      contents := if got = none then x.contents else got
      counts := { x.counts with
        accepted := satInc x.counts.accepted
        missed := satAdd x.counts.missed missed
        malformed := if got = none then satInc x.counts.malformed else x.counts.malformed } })
    let handed : State := if x.live = .live then entered else entered.tripHandoff i
    ∀ v : State,
      (got = none ∧ v = handed) ∨ (∃ vs, got = some (.sweep vs) ∧ v = handed.sweepArrival i) ∨
        (∃ n counts, got = some (.pulse n counts) ∧ v = handed.pulseReport i counts) ∨
        (∃ wires, got = some (.trip wires) ∧ v = handed.tripReport i x.cfg.addr wires) →
      u.lanes = v.lanes ∧ u.sectors = v.sectors ∧ u.zones = v.zones ∧ u.dispatch = v.dispatch ∧
        (¬ due ∨ s.valley.forward.length < 32 → u.notices = v.notices) ∧
        ∀ y, v.station i = some y →
          u = if x.cfg.divisor = 0 then v
            else if x.phase + 1 = x.cfg.divisor then (v.setStation i (some { y with phase := 0 })).appendForward f
            else v.setStation i (some { y with phase := x.phase + 1 })

/-- Well-formed payloads of the three station kinds, and what they give (R36, R37, R38); each class reads its own kind
(R39). -/
def Obligations.WellFormedPayloadsAreRead : Prop :=
  (∀ (n : Nat) (p : List Byte), readPayload (.sweep n) p = readSweep p ∧ readPayload (.pulse n) p = readPulse n p ∧
    readPayload (.trip n) p = readTrip n p) ∧
  (∀ (p : List Byte) (c : Contents), readSweep p = some c ↔
    ∃ n rest vs, p = n :: rest ∧ 1 ≤ n.toNat ∧ n.toNat ≤ 8 ∧ rest.length = 2 * n.toNat ∧ c = .sweep vs ∧
      vs.length = n.toNat ∧
      ∀ k, k < n.toNat → vs[k]? = some ((rest.getD (2 * k) 0).toNat * 256 + (rest.getD (2 * k + 1) 0).toNat)) ∧
  (∀ (channels : Nat) (p : List Byte) (c : Contents), readPulse channels p = some c ↔
    ∃ h l m rest counts, p = h :: l :: m :: rest ∧ 1 ≤ m.toNat ∧ m.toNat ≤ 4 ∧ rest.length = 2 * m.toNat ∧
      c = .pulse (h.toNat * 256 + l.toNat) counts ∧ counts.length = channels ∧
      ∀ k, k < channels → counts[k]? = some (if k < m.toNat then
        some ((rest.getD (2 * k) 0).toNat * 256 + (rest.getD (2 * k + 1) 0).toNat) else none)) ∧
  ∀ (wires : Nat) (p : List Byte) (c : Contents), readTrip wires p = some c ↔
    ∃ w rest ws, p = w :: rest ∧ 1 ≤ w.toNat ∧ w.toNat ≤ 8 ∧ rest.length = w.toNat ∧ c = .trip ws ∧
      ws.length = wires ∧
      ∀ k, k < wires → ws[k]? = some (if k < w.toNat then
        (if rest.getD k 0 = 0 then WireState.intact else if rest.getD k 0 = 1 then .cut else .fault) else .fault)

/-- The running out of a silence countdown (R32, R33, R40); a step for one that has not run out changes nothing
(log 4). That the hand-off reaches the Lane Map before the trip logic is the model's choice (log 9). -/
def Obligations.SilenceExpiryMakesTheStationSilent : Prop :=
  ∀ (i : Nat) (s : State),
    (∀ x, s.station i = some x → x.silence = some 0 →
      exec (.silenceCountdownExpiry i) s =
        .next (State.finish s
          ((((s.raise (.silence i x.cfg.addr x.live .silent x.lastHeard)).setStation i
            (some { x with live := .silent, silence := none })).lanesSilent i).tripHandoff i))) ∧
    ((∀ x ∈ s.station i, x.silence ≠ some 0) →
      exec (.silenceCountdownExpiry i) s = .next (State.finish s s))

/-! ## Lanes (chapter 4) -/

/-- One event at the Lane Map (R51, R58, R59, R61, R62): every lane with a candidate at the station is settled, no other
lane is touched, a sector whose range holds a changed lane takes its lane update, the lower sector first, handing its
change on (R82), and any other keeps its state, and a SOURCE raising follows for every lane whose tracked rank has
changed, the lower lane first. The silent and the withdrawn hand-off settle a lane so: its credits at the station go to
0, and a lane that tracked there reselects. Lane updates before SOURCE raisings, and the lower index first, are the
model's choice (log 9). -/
def Obligations.LaneEventSettlesTheLanesConcerned : Prop :=
  (∀ (station : Nat) (s : State),
    s.lanesSilent station = s.laneEvent station (Lane.settleGone s station .silent) ∧
      s.lanesWithdrawn station = s.laneEvent station (Lane.settleGone s station .withdrawn)) ∧
  (∀ (s : State) (station : Nat) (why : SourceReason) (l : Lane),
    let zeroed := (l.credits.zip l.cfg.cands).map (fun q => if q.2.station = station then 0 else q.1)
    (∀ r c, l.tracked = some r → l.cfg.cands[r]? = some c → c.station = station →
      l.settleGone s station why =
        { lane := Lane.reselect s { l with credits := zeroed }, changed := true, reason := why }) ∧
    ((∀ r c, l.tracked = some r → l.cfg.cands[r]? = some c → c.station ≠ station) →
      l.settleGone s station why = { lane := { l with credits := zeroed }, changed := false, reason := why })) ∧
  ∀ (station : Nat) (f : Lane → LaneStep) (s : State),
    let u := s.laneEvent station f
    (∀ j, j < 8 → ∀ x ∈ s.sector j,
      (∃ i ∈ x.cfg.range, ∃ l ∈ s.lane i, l.cfg.cands.any (fun c => decide (c.station = station)) = true ∧
        (f l).changed = true) →
      u.sector j = some (if x.cfg.parked then x else x.laneUpdate u)) ∧
    let details := (List.range 32).filterMap (fun i => (s.lane i).bind (fun l =>
        if l.cfg.cands.any (fun c => decide (c.station = station)) && decide (l.tracked ≠ (f l).lane.tracked) then
          let c := (f l).lane.tracked.bind (fun r => (f l).lane.cfg.cands[r]?)
          some (Detail.source i l.tracked (f l).lane.tracked (c.map Candidate.station) (c.map Candidate.sweepLane)
            (f l).reason)
        else none));
    (u.notices.source = (details.foldl (fun v d => v.raise d s.console) s.notices).source) ∧
    (let settled : State := { s with lanes := u.lanes }
     let updated : State := (List.range 8).foldl (fun t j => match s.sector j with
       | some x =>
         if x.cfg.parked = false ∧ x.cfg.range.any (fun i => (s.lane i).any (fun l =>
             l.cfg.cands.any (fun c => decide (c.station = station)) && (f l).changed)) = true then
           t.putSector j (some (x.laneUpdate settled))
         else t
       | none => t) settled
     u = details.foldl (fun t d => t.raise d) updated) ∧
    (∀ i, u.lane i = (s.lane i).map (fun l =>
      if l.cfg.cands.any (fun c => decide (c.station = station)) then (f l).lane else l)) ∧
    (∀ j, j < 8 → ∀ x ∈ s.sector j,
      (∀ i ∈ x.cfg.range, ∀ l ∈ s.lane i, l.cfg.cands.any (fun c => decide (c.station = station)) = true →
        (f l).changed = false) → u.sector j = some x) ∧
    u = { s with lanes := u.lanes, sectors := u.sectors, zones := u.zones, dispatch := u.dispatch
                 notices := u.notices }

/-- What a candidate gives (R36, R50), and reselection (R57): the first candidate usable now is tracked with its stored
value; with none the lane is SEEKING and keeps its last value. -/
def Obligations.ReselectionTakesTheFirstUsable : Prop :=
  (∀ (s : State) (c : Candidate) (v : Nat), usableValue s c = some v ↔
    ∃ x n vs, s.station c.station = some x ∧ x.live = .live ∧ x.cfg.parked = false ∧ x.cfg.cls = .sweep n ∧
      x.contents = some (.sweep vs) ∧ c.sweepLane < n ∧ vs[c.sweepLane]? = some v ∧ v ≠ 65535) ∧
  (∀ (s : State) (l : Lane) (before after : List Candidate) (c : Candidate) (v : Nat),
    l.cfg.cands = before ++ c :: after → (∀ k ∈ before, usableValue s k = none) → usableValue s c = some v →
    l.reselect s = { l with
      tracked := some before.length
      clearance := some v
      fill := some (l.cfg.datum - v)
      valueTime := heardAt s c
      loss := 0
      credits := l.credits.set before.length 0 }) ∧
  ∀ (s : State) (l : Lane), (∀ k ∈ l.cfg.cands, usableValue s k = none) →
    l.reselect s = { l with tracked := none, loss := 0 }

/-- The four steps of a sweep arrival at a lane, in this order (R51 to R56): credits, the tracked candidate's value or
echo loss, the restore, and the take-up of a SEEKING lane. A value's time is its station's last-heard time. -/
def Obligations.SweepArrivalSettlesALane : Prop :=
  (∀ (s : State) (c : Candidate), heardAt s c = (s.station c.station).bind (fun x => x.lastHeard)) ∧
  (∀ (s : State) (station : Nat),
     s.sweepArrival station = s.laneEvent station (fun l =>
       (((l.updateCredits s station).takeOrLose s station).restore s station).takeUp s station)) ∧
  (∀ (s : State) (station : Nat) (w : LaneStep),
     (∀ r, w.lane.tracked = some r →
       (∀ q c, q < r → w.lane.cfg.cands[q]? = some c → c.station = station → usableValue s c ≠ none →
         w.lane.credits[q]? ≠ some w.lane.cfg.restoreCount) →
       w.restore s station = w) ∧
     (w.lane.tracked = none → w.restore s station = w) ∧
     (w.lane.tracked = none → (∀ c ∈ w.lane.cfg.cands, c.station = station → usableValue s c = none) →
       w.takeUp s station = w)) ∧
  (∀ (s : State) (station : Nat) (l : Lane),
     (l.updateCredits s station = { l with credits := (l.updateCredits s station).credits } ∧
       ∀ r c n, l.cfg.cands[r]? = some c → l.credits[r]? = some n →
         (l.updateCredits s station).credits[r]? =
           some (if c.station = station ∧ l.tracked ≠ some r then
             (if usableValue s c = none then 0 else min (n + 1) l.cfg.restoreCount) else n)) ∧
     (∀ r c v, l.tracked = some r → l.cfg.cands[r]? = some c → c.station = station → usableValue s c = some v →
       l.takeOrLose s station =
         { lane := { l with clearance := some v, fill := some (l.cfg.datum - v), valueTime := heardAt s c, loss := 0
                            credits := l.credits.set r 0 }
           changed := true, reason := .found }) ∧
     (∀ r c, l.tracked = some r → l.cfg.cands[r]? = some c → c.station = station → usableValue s c = none →
       l.loss + 1 < l.cfg.lossLimit →
       l.takeOrLose s station = { lane := { l with loss := l.loss + 1 }, changed := false, reason := .found }) ∧
     (∀ r c, l.tracked = some r → l.cfg.cands[r]? = some c → c.station = station → usableValue s c = none →
       l.cfg.lossLimit ≤ l.loss + 1 →
       l.takeOrLose s station =
         { lane := Lane.reselect s { l with loss := 0, credits := l.credits.set r 0 }, changed := true
           reason := .echoLoss }) ∧
     (l.tracked = none ∨ (∃ r c, l.tracked = some r ∧ l.cfg.cands[r]? = some c ∧ c.station ≠ station) →
       l.takeOrLose s station = { lane := l, changed := false, reason := .found })) ∧
  (∀ (s : State) (station : Nat) (w : LaneStep) (before after : List Candidate) (c : Candidate) (v : Nat),
     w.lane.cfg.cands = before ++ c :: after → c.station = station → usableValue s c = some v →
     (∀ r, w.lane.tracked = some r → before.length < r →
       w.lane.credits[before.length]? = some w.lane.cfg.restoreCount →
       (∀ (q : Nat) (k : Candidate), before[q]? = some k → k.station = station → usableValue s k ≠ none →
         w.lane.credits[q]? ≠ some w.lane.cfg.restoreCount) →
       w.restore s station =
         { lane := { w.lane with
             tracked := some before.length, clearance := some v, fill := some (w.lane.cfg.datum - v)
             valueTime := heardAt s c, loss := 0, credits := w.lane.credits.set before.length 0 }
           changed := true, reason := .restore }) ∧
     (∀ r, w.lane.tracked = some r → w.takeUp s station = w) ∧
     (w.lane.tracked = none → (∀ k ∈ before, k.station = station → usableValue s k = none) →
       w.restore s station = w ∧
         w.takeUp s station =
           { lane := { w.lane with
               tracked := some before.length, clearance := some v, fill := some (w.lane.cfg.datum - v)
               valueTime := heardAt s c, loss := 0, credits := w.lane.credits.set before.length 0 }
             changed := true, reason := .found }))

/-! ## Sectors (chapters 5 and 6) -/

/-- A lane update (R69, R71, R72, R73, R75): counts, masks, peak, index, blind countdown and BLIND from the lanes of the
whole range, the level kept below quorum, and everything else untouched. -/
def Obligations.LaneUpdateReadsTheWholeRange : Prop :=
  ∀ (s : State) (x : Sector),
    let fills := validFills s x.cfg.range
    let y := x.laneUpdate s
    (∀ l v, (l, v) ∈ fills ↔ l ∈ x.cfg.range ∧ ∃ k ∈ s.lane l, k.tracked ≠ none ∧ v = k.fill.getD 0) ∧
    y.valid = fills.length ∧
    (∀ l, (l ∈ y.rise.watch ↔ ∃ v, (l, v) ∈ fills ∧ x.cfg.rise.watch < v) ∧
      (l ∈ y.rise.prepare ↔ ∃ v, (l, v) ∈ fills ∧ x.cfg.rise.prepare < v) ∧
      (l ∈ y.rise.evacuate ↔ ∃ v, (l, v) ∈ fills ∧ x.cfg.rise.evacuate < v) ∧
      (l ∈ y.hold.watch ↔ ∃ v, (l, v) ∈ fills ∧ x.cfg.fall.watch < v) ∧
      (l ∈ y.hold.prepare ↔ ∃ v, (l, v) ∈ fills ∧ x.cfg.fall.prepare < v) ∧
      (l ∈ y.hold.evacuate ↔ ∃ v, (l, v) ∈ fills ∧ x.cfg.fall.evacuate < v)) ∧
    (fills = [] → y.peak = none) ∧ (fills ≠ [] → y.peak ≠ none) ∧
    (∀ p ∈ y.peak, (p.lane, p.fill) ∈ fills ∧
      ∀ l v, (l, v) ∈ fills → v ≤ p.fill ∧ (v = p.fill → p.lane ≤ l)) ∧
    y.index = min (fills.map Prod.snd).sum 65535 ∧
    (fills.length < x.cfg.quorum → y.level = x.level ∧ y.blind = x.blind ∧
      (x.blind = true → y.blindCd = none) ∧
      (x.blind = false → y.blindCd = some (x.blindCd.getD x.cfg.blindDelay))) ∧
    (x.cfg.quorum ≤ fills.length → y.blind = false ∧ y.blindCd = none) ∧
    y = Sector.restage { x with
      valid := y.valid, rise := y.rise, hold := y.hold, peak := y.peak, index := y.index, blindCd := y.blindCd
      blind := y.blind, level := y.level }

/-- The level stage from the masks (R70): the higher of up and hold, the current level the one before the event. -/
def Obligations.LevelIsTheHigherOfUpAndHold : Prop :=
  ∀ (s : State) (x : Sector), x.cfg.quorum ≤ (x.laneUpdate s).valid →
    let y := x.laneUpdate s
    ∃ up hold : Stage, y.level.num = max up.num hold.num ∧
      (up = .quiet ∨ (up = .watch ∧ x.cfg.quorum ≤ y.rise.watch.length) ∨
        (up = .prepare ∧ x.cfg.quorum ≤ y.rise.prepare.length) ∨
        (up = .evacuate ∧ x.cfg.quorum ≤ y.rise.evacuate.length)) ∧
      (x.cfg.quorum ≤ y.rise.watch.length → 1 ≤ up.num) ∧ (x.cfg.quorum ≤ y.rise.prepare.length → 2 ≤ up.num) ∧
      (x.cfg.quorum ≤ y.rise.evacuate.length → 3 ≤ up.num) ∧
      hold.num ≤ x.level.num ∧
      (hold = .quiet ∨ (hold = .watch ∧ x.cfg.quorum ≤ y.hold.watch.length) ∨
        (hold = .prepare ∧ x.cfg.quorum ≤ y.hold.prepare.length) ∨
        (hold = .evacuate ∧ x.cfg.quorum ≤ y.hold.evacuate.length)) ∧
      (x.cfg.quorum ≤ y.hold.watch.length → 1 ≤ x.level.num → 1 ≤ hold.num) ∧
      (x.cfg.quorum ≤ y.hold.prepare.length → 2 ≤ x.level.num → 2 ≤ hold.num) ∧
      (x.cfg.quorum ≤ y.hold.evacuate.length → 3 ≤ x.level.num → 3 ≤ hold.num)

/-- The running out of a blind countdown and of a bin countdown (R74, R93), what a pulse count adds and at which sectors
(R92, the lower first, log 9), and the window with SURGE (R94); a step for a countdown that has not run out changes
nothing (log 4). No bin passes 65535 (R91): `BinsBounded` is kept by every step. -/
def Obligations.BlindAndSurgeRunTheirCourse : Prop :=
  (∀ (i : Nat) (s : State),
     (∀ x, s.sector i = some x → x.cfg.parked = false → x.blindCd = some 0 →
       exec (.blindCountdownExpiry i) s =
         .next (State.finish s
           (s.putSector i (some (Sector.restage { x with blind := true, blindCd := none }))))) ∧
     ((∀ x ∈ s.sector i, x.cfg.parked = true ∨ x.blindCd ≠ some 0) →
       exec (.blindCountdownExpiry i) s = .next (State.finish s s)) ∧
     (∀ x, s.sector i = some x → x.cfg.parked = false → x.binCd = some 0 →
       exec (.binAdvance i) s =
         .next (State.finish s
           (s.putSector i (some (Sector.restage (Sector.evalSurge
             { x with bins := (0 :: x.bins).take 12, binCd := some x.cfg.binLength })))))) ∧
     ((∀ x ∈ s.sector i, x.cfg.parked = true ∨ x.binCd ≠ some 0) →
       exec (.binAdvance i) s = .next (State.finish s s)) ∧
     ∀ (x : Sector) (b n : Nat) (rest : List Nat), x.bins = b :: rest → b ≤ 65535 →
       x.pulse (some n) = Sector.restage (Sector.evalSurge { x with bins := min (b + n) 65535 :: rest }) ∧
       x.pulse none = Sector.restage (Sector.evalSurge x)) ∧
  (∀ (station : Nat) (counts : List (Option Nat)) (s : State),
     s.pulseReport station counts = (List.range 8).foldl (fun t j => match s.sector j with
       | some x =>
         if x.cfg.parked = false ∧ x.cfg.pulse.map PulseLink.station = some station then
           t.putSector j (some (x.pulse (x.cfg.pulse.bind (fun k => (counts[k.channel]?).join))))
         else t
       | none => t) s) ∧
  (∀ x : Sector, x.cfg.surgeRelease < x.cfg.surgeLimit →
     let y := x.evalSurge
     y = { x with window := y.window, surge := y.surge } ∧
     y.window = min (x.bins.take x.cfg.surgeSpan).sum 65535 ∧
     (x.cfg.surgeLimit < y.window → y.surge = true) ∧
     (y.window ≤ x.cfg.surgeLimit → x.cfg.surgeRelease < y.window → y.surge = x.surge) ∧
     (y.window ≤ x.cfg.surgeRelease → y.surge = false))

/-- A sector's stage is the highest its six conditions call for, its causes those conditions that call for that stage
(R80, R81), each judged anew whenever a condition is. A sector written with its change handed on (R82): the zones that
list it are evaluated, the lower first (log 9), when its stage or causes differ, no other zone is touched, and no zone
is when they do not. -/
def Obligations.SectorChangeReachesItsZones : Prop :=
  (∀ x : Sector,
    let y := x.restage
    let calls : List Stage :=
      [x.level, if x.blind then .watch else .quiet, if x.rapid then .prepare else .quiet,
       if x.surge then .prepare else .quiet, if x.tripFault then .watch else .quiet,
       if x.trip = none then .quiet else .evacuate]
    y = { x with stage := y.stage, causes := y.causes } ∧
    y.stage ∈ calls ∧ (∀ c ∈ calls, c.num ≤ y.stage.num) ∧
    (y.stage = .quiet → y.causes = Causes.none) ∧
    (y.stage ≠ .quiet → y.causes =
      { level := decide (x.level = y.stage), blind := x.blind && decide (y.stage = .watch)
        rapid := x.rapid && decide (y.stage = .prepare), surge := x.surge && decide (y.stage = .prepare)
        tripFault := x.tripFault && decide (y.stage = .watch), trip := x.trip.isSome && decide (y.stage = .evacuate)
        force := false, held := false }) ∧
    Stage.quiet.num = 0 ∧ Stage.watch.num = 1 ∧ Stage.prepare.num = 2 ∧ Stage.evacuate.num = 3) ∧
  ∀ (i : Nat) (x : Option Sector) (s : State), i < 8 →
    let u := s.putSector i x
    u.sector i = x ∧ (∀ j, j ≠ i → u.sector j = s.sector j) ∧
    (sectorView x = sectorView (s.sector i) → u = s.setSector i x) ∧
    (sectorView x ≠ sectorView (s.sector i) → ∀ z, z < 12 → ∀ y ∈ s.zone z,
      (i ∈ y.cfg.sectors → u.zone z = ((s.setSector i x).evaluateZone z).zone z) ∧
      (i ∉ y.cfg.sectors → u.zone z = some y)) ∧
    (sectorView x ≠ sectorView (s.sector i) →
      u = (List.range 12).foldl (fun t z => match s.zone z with
        | some y => if i ∈ y.cfg.sectors then t.evaluateZone z else t
        | none => t) (s.setSector i x)) ∧
    (∀ y : Sector, sectorView none = (.quiet, Causes.none) ∧ sectorView (some y) = (y.stage, y.causes)) ∧
    u = { s with sectors := u.sectors, zones := u.zones, dispatch := u.dispatch, notices := u.notices }

/-- What a trip link reads and TRIP FAULT from the readings (R97, R98); the hand-off of a station at the sectors whose
links name it (R98); and a trip report at a sector (R99, R100, R101): the first CUT link sets a clear latch with its
record and its notice, the stage is EVACUATE with TRIP among the causes, a latch that is set keeps its record, a report
with no CUT leaves the latch clear, and TRIP FAULT is evaluated. The lower sector comes first (log 9). -/
def Obligations.TripLinksSetFaultAndLatch : Prop :=
  (WireState.intact.reading = .intact ∧ WireState.cut.reading = .cut ∧ WireState.fault.reading = .fault) ∧
  ((∀ (s : State) (k : TripLink),
     (s.station k.station = none → readLink s k = .unusable) ∧
     ∀ x, s.station k.station = some x →
       ((∀ n, x.cfg.cls ≠ .trip n) → readLink s k = .unusable) ∧
       ∀ n, x.cfg.cls = .trip n →
         (x.live = .parked → readLink s k = .parked) ∧ (x.live = .silent → readLink s k = .silent) ∧
         (x.live = .absent → readLink s k = .awaiting) ∧
         (x.live = .live → x.contents = none → readLink s k = .awaiting) ∧
         (∀ ws st, x.live = .live → x.contents = some (.trip ws) → k.wire < n → ws[k.wire]? = some st →
           readLink s k = st.reading) ∧
         (x.live = .live → x.contents ≠ none → n ≤ k.wire → readLink s k = .fault)) ∧
   ∀ (s : State) (x : Sector),
     let readings := x.cfg.trips.map (readLink s)
     x.evalTripFault s = { x with tripFault := (x.evalTripFault s).tripFault } ∧
     ((.fault ∈ readings ∨ .silent ∈ readings ∨ .parked ∈ readings ∨ .unusable ∈ readings) →
       (x.evalTripFault s).tripFault = true) ∧
     ((∀ r ∈ readings, r = .intact ∨ r = .cut) → (x.evalTripFault s).tripFault = false) ∧
     ((∀ r ∈ readings, r = .intact ∨ r = .cut ∨ r = .awaiting) → .awaiting ∈ readings →
       (x.evalTripFault s).tripFault = x.tripFault)) ∧
  (∀ (station : Nat) (addr : Byte) (wires : List WireState) (i : Nat) (x : Sector) (s : State),
     s.sector i = some x → x.cfg.parked = false →
     let u := s.tripAt station addr wires i
     (∀ before k after, x.trip = none → x.cfg.trips = before ++ k :: after → k.station = station →
       wires[k.wire]? = some .cut → (∀ j ∈ before, j.station ≠ station ∨ wires[j.wire]? ≠ some .cut) →
       (∃ y, u.sector i = some y ∧
         y.trip = some { link := before.length, station := station, addr := addr, wire := k.wire, time := s.time.now } ∧
         y.stage = .evacuate ∧ y.causes.trip = true) ∧
       (s.raise (.trip i before.length station addr k.wire s.time.now)).notices.trip = u.notices.trip) ∧
     (∀ r, x.trip = some r → ∃ y, u.sector i = some y ∧ y.trip = some r) ∧
     ((∀ k ∈ x.cfg.trips, k.station ≠ station) → u = s) ∧
     (∀ before k after, x.trip = none → x.cfg.trips = before ++ k :: after → k.station = station →
       wires[k.wire]? = some .cut → (∀ j ∈ before, j.station ≠ station ∨ wires[j.wire]? ≠ some .cut) →
       let record : TripRecord :=
         { link := before.length, station := station, addr := addr, wire := k.wire, time := s.time.now }
       u = (s.raise (.trip i before.length station addr k.wire s.time.now)).putSector i
         (some (Sector.restage { x.evalTripFault s with trip := some record }))) ∧
     ((∃ k ∈ x.cfg.trips, k.station = station) →
       x.trip ≠ none ∨ (∀ k ∈ x.cfg.trips, k.station = station → wires[k.wire]? ≠ some .cut) →
       u = s.putSector i (some (Sector.restage (x.evalTripFault s))))) ∧
  (∀ (station : Nat) (addr : Byte) (wires : List WireState) (i : Nat) (s : State),
     (∀ x ∈ s.sector i, x.cfg.parked = true) → s.tripAt station addr wires i = s) ∧
  (∀ (station : Nat) (addr : Byte) (wires : List WireState) (s : State),
     s.tripReport station addr wires = (List.range 8).foldl (fun t j => t.tripAt station addr wires j) s) ∧
  ∀ (station : Nat) (s : State),
    s.tripHandoff station = (List.range 8).foldl (fun t j => match s.sector j with
      | some x =>
        if x.cfg.parked = false ∧ x.cfg.trips.any (fun k => decide (k.station = station)) = true then
          t.putSector j (some (Sector.restage (x.evalTripFault s)))
        else t
      | none => t) s

/-! ## Zones (chapter 7) -/

/-- The evaluation of a zone (R108, R109, R110, R111, R117): computed stage, peak sector, target, causes, and the four
cases of R110. -/
def Obligations.EvaluationTakesTheCaseItFinds : Prop :=
  ∀ (z : Nat) (x : Zone) (s : State), s.zone z = some x →
    let cs := contributing s x.cfg.sectors
    let target := (computedStage cs).max x.forceStage
    let u := s.evaluateZone z
    (∀ j y, (j, y) ∈ cs ↔ j < 8 ∧ s.sector j = some y ∧ j ∈ x.cfg.sectors ∧ y.cfg.parked = false) ∧
    (x.force = none → x.forceStage = .quiet) ∧ (∀ f, x.force = some f → x.forceStage = f.stage) ∧
    target.num = max (computedStage cs).num x.forceStage.num ∧
    (∀ j y, (j, y) ∈ cs → y.stage.num ≤ (computedStage cs).num) ∧
    (computedStage cs = .quiet ∨ ∃ j y, (j, y) ∈ cs ∧ y.stage = computedStage cs) ∧
    (∀ j, j ≠ z → u.zone j = s.zone j) ∧
    u = { s with zones := u.zones, dispatch := u.dispatch, notices := u.notices } ∧
    ∃ y, u.zone z = some y ∧ y.cfg = x.cfg ∧ y.force = x.force ∧ y.target = target ∧ y.Reads cs ∧
      (x.stage.num < target.num → y.stage = target ∧ y.hold = none ∧
        u.notices = s.notices.raise (.stage z x.stage target y.serial y.causes y.peakSector false) s.console ∧
        (s.mode = .watching → y.serial = x.serial + 1 ∧ y.undispatched = x.undispatched ∧
          y.refreshCd = (if x.cfg.refresh = 0 then none else some x.cfg.refresh) ∧
          u.dispatch = ((s.setZone z (some y)).alertRaised z).dispatch) ∧
        (s.mode ≠ .watching → y.serial = x.serial ∧ y.undispatched = satInc x.undispatched ∧
          y.refreshCd = x.refreshCd ∧ u.dispatch = s.dispatch)) ∧
      (target.num ≤ x.stage.num → y.stage = x.stage ∧ y.serial = x.serial ∧ y.undispatched = x.undispatched ∧
        y.refreshCd = x.refreshCd ∧ u.dispatch = s.dispatch ∧ u.notices = s.notices) ∧
      (target.num = x.stage.num → y.hold = none) ∧
      (target.num < x.stage.num → y.hold = some (x.hold.getD x.cfg.holdDown))

/-- The runnings out at a zone (R111 to R114, R116): the expiry of a force, the end of a hold, a refresh, each taken in
the order of R113 (log 22), the end of a hold with its computed stage, peak sector and causes taken anew (R108, R109),
and nothing where the countdown has not run out (log 4). -/
def Obligations.ZoneCountdownsRunOut : Prop :=
  ∀ (z : Nat) (s : State),
    (∀ x f, s.zone z = some x → x.force = some f → f.left = 0 →
      exec (.forceExpiry z) s =
        .next (State.finish s ((s.setZone z (some { x with force := none })).evaluateZone z))) ∧
    ((∀ x ∈ s.zone z, ∀ f ∈ x.force, f.left ≠ 0) → exec (.forceExpiry z) s = .next (State.finish s s)) ∧
    (∀ x, s.zone z = some x → x.hold = some 0 → (∀ f ∈ x.force, f.left ≠ 0) →
      let cs := contributing s x.cfg.sectors
      let target := (computedStage cs).max x.forceStage
      ∃ u y, exec (.endOfHold z) s = .next (State.finish s u) ∧ u.zone z = some y ∧ y.cfg = x.cfg ∧
        y.force = x.force ∧ y.stage = target ∧ y.target = target ∧ y.hold = none ∧ y.causes.held = false ∧
        y.Reads cs ∧
        u.notices = s.notices.raise (.stage z x.stage target y.serial y.causes y.peakSector true) s.console ∧
        (s.mode = .watching → y.serial = x.serial + 1 ∧ y.undispatched = x.undispatched ∧
          y.refreshCd = (if target = .quiet ∨ x.cfg.refresh = 0 then none else some x.cfg.refresh) ∧
          u.dispatch = ((s.setZone z (some y)).alertRaised z).dispatch) ∧
        (s.mode ≠ .watching → y.serial = x.serial ∧ y.undispatched = satInc x.undispatched ∧
          y.refreshCd = x.refreshCd ∧ u.dispatch = s.dispatch) ∧
        (∀ j, j ≠ z → u.zone j = s.zone j) ∧
        u = { s with zones := u.zones, dispatch := u.dispatch, notices := u.notices }) ∧
    ((∀ x ∈ s.zone z, x.hold ≠ some 0 ∨ ∃ f, x.force = some f ∧ f.left = 0) →
      exec (.endOfHold z) s = .next (State.finish s s)) ∧
    (∀ x, s.zone z = some x → x.refreshCd = some 0 → x.hold ≠ some 0 → (∀ f ∈ x.force, f.left ≠ 0) →
      exec (.refreshExpiry z) s =
        .next (State.finish s ((s.setZone z (some { x with refreshCd := some x.cfg.refresh })).refreshDue z))) ∧
    ((∀ x ∈ s.zone z, x.refreshCd ≠ some 0 ∨ x.hold = some 0 ∨ ∃ f, x.force = some f ∧ f.left = 0) →
      exec (.refreshExpiry z) s = .next (State.finish s s))

/-! ## Dispatch Queue and outputs (chapter 8) -/

/-- The content of an entry, set by an alert raised or by a refresh due (R122, R124, R125). For a peak sector that is
VACANT, peak none and fill index 0 are the model's choice (log 25). -/
def Obligations.AlertsAndRefreshesSetContent : Prop :=
  ∀ (z : Nat) (x : Zone) (s : State), s.zone z = some x →
    let content : Bool → Entry := fun refresh =>
      { zone := z, serial := x.serial, stage := x.stage, causes := x.causes, refresh := refresh
        peakSector := x.peakSector
        peak := (x.peakSector.bind s.sector).bind (fun y => y.peak)
        index := ((x.peakSector.bind s.sector).map (fun y => y.index)).getD 0
        created := s.time.now
        records := x.cfg.sirens.map (fun a => { addr := a, state := .pending, tries := 0, cd := none }) }
    (∃ before after, s.dispatch.queue.filter (fun e => decide (e.zone ≠ z)) = before ++ after ∧
      s.alertRaised z = { s with dispatch := { s.dispatch with queue := before ++ content false :: after } } ∧
      (∀ e ∈ before, x.stage.num ≤ e.stage.num) ∧ (∀ e ∈ after.head?, e.stage.num < x.stage.num)) ∧
    ((∃ e ∈ s.dispatch.queue, e.zone = z) → s.refreshDue z = s) ∧
    ((∀ e ∈ s.dispatch.queue, e.zone ≠ z) →
      ∃ before after, s.dispatch.queue = before ++ after ∧
        s.refreshDue z = { s with dispatch := { s.dispatch with queue := before ++ content true :: after } } ∧
        (∀ e ∈ before, x.stage.num ≤ e.stage.num) ∧ (∀ e ∈ after.head?, e.stage.num < x.stage.num))

/-- An ACK by the first line of its table that fits it (R127, R128), and the running out of a repeat countdown (R126,
R128): due again below the tries limit, UNREACHED with its DELIVERY raising at it, the entry retiring with its last
PENDING record. -/
def Obligations.AcksAndRepeatsMoveRecords : Prop :=
  (∀ (src : Byte) (s : State),
     (∀ p : List Byte, p.length ≠ 3 →
       s.takeAck src p = { s with dispatch := { s.dispatch with mismatched := satInc s.dispatch.mismatched } }) ∧
     ∀ z serial stage : Byte,
       ((∀ e ∈ s.dispatch.queue, e.zone ≠ z.toNat) →
         s.takeAck src [z, serial, stage] =
           { s with dispatch := { s.dispatch with stale := satInc s.dispatch.stale } }) ∧
       ∀ before e after, s.dispatch.queue = before ++ e :: after → e.zone = z.toNat →
         (s.dispatch.queue.map Entry.zone).Nodup →
         (e.serial ≠ serial →
           s.takeAck src [z, serial, stage] =
             { s with dispatch := { s.dispatch with stale := satInc s.dispatch.stale } }) ∧
         (e.serial = serial → (∀ r ∈ e.records, r.addr ≠ src) →
           s.takeAck src [z, serial, stage] =
             { s with dispatch := { s.dispatch with mismatched := satInc s.dispatch.mismatched } }) ∧
         (e.serial = serial → (∃ r ∈ e.records, r.addr = src) → stage.toNat ≠ e.stage.num →
           s.takeAck src [z, serial, stage] =
             { s with dispatch := { s.dispatch with mismatched := satInc s.dispatch.mismatched } }) ∧
         ∀ waiting r rest, e.serial = serial → stage.toNat = e.stage.num → e.records = waiting ++ r :: rest →
           r.addr = src → (e.records.map SirenRecord.addr).Nodup →
           (r.state = .delivered → s.takeAck src [z, serial, stage] = s) ∧
           (r.state ≠ .delivered → (∃ q ∈ waiting ++ rest, q.state = .pending) →
             s.takeAck src [z, serial, stage] =
               { s with dispatch := { s.dispatch with queue := before ++ { e with
                 records := waiting ++ { r with state := .delivered, cd := none } :: rest } :: after } }) ∧
           (r.state ≠ .delivered → (∀ q ∈ waiting ++ rest, q.state ≠ .pending) →
             s.takeAck src [z, serial, stage] =
               { s with dispatch := { s.dispatch with queue := before ++ after } })) ∧
  (∀ (z : Nat) (a : Byte) (s : State),
     (∀ before e after waiting r rest x, s.dispatch.queue = before ++ e :: after → e.zone = z →
       (s.dispatch.queue.map Entry.zone).Nodup → e.records = waiting ++ r :: rest → r.addr = a →
       (e.records.map SirenRecord.addr).Nodup → r.state = .pending → r.cd = some 0 → s.zone z = some x →
       let left := { s with dispatch := { s.dispatch with queue := before ++ { e with
         records := waiting ++ { r with state := .unreached, cd := none } :: rest } :: after } }
       let retired := { s with dispatch := { s.dispatch with queue := before ++ after } }
       (r.tries < x.cfg.tries →
         exec (.repeatCountdownExpiry z a) s =
           .next (State.finish s { s with dispatch := { s.dispatch with queue := before ++ { e with
             records := waiting ++ { r with cd := none } :: rest } :: after } })) ∧
       (x.cfg.tries ≤ r.tries → (∃ q ∈ waiting ++ rest, q.state = .pending) →
         exec (.repeatCountdownExpiry z a) s =
           .next (State.finish s (State.raise (.delivery z e.serial e.stage a r.tries) left))) ∧
       (x.cfg.tries ≤ r.tries → (∀ q ∈ waiting ++ rest, q.state ≠ .pending) →
         exec (.repeatCountdownExpiry z a) s =
           .next (State.finish s (State.raise (.delivery z e.serial e.stage a r.tries) retired)))) ∧
     ((∀ e ∈ s.dispatch.queue, e.zone = z → ∀ r ∈ e.records, r.addr = a → r.cd ≠ some 0) →
       exec (.repeatCountdownExpiry z a) s = .next (State.finish s s)))

/-- A contact output (R134, R135): the condition its select code names, what a re-evaluation reads, the start, restart and
stop of its cycle, a cycle that runs on, and the two moments of a running cycle. -/
def Obligations.OutputsFollowConditionsAndCadences : Prop :=
  (∀ (s : State) (c : OutputConfig),
    (c.code = 0 → conditionOf s c = false) ∧ (c.code = 1 → conditionOf s c = true) ∧
    (c.code = 2 → (conditionOf s c = true ↔ ∃ x, s.zone c.argIndex = some x ∧ c.argStage.num ≤ x.stage.num)) ∧
    (c.code = 3 → (conditionOf s c = true ↔ ∃ x, s.sector c.argIndex = some x ∧ c.argStage.num ≤ x.stage.num)) ∧
    (c.code = 4 → (conditionOf s c = true ↔ ∃ i x, s.sector i = some x ∧ x.blind = true)) ∧
    (c.code = 5 → (conditionOf s c = true ↔ ∃ i x, s.sector i = some x ∧ x.trip ≠ none)) ∧
    (c.code = 6 → (conditionOf s c = true ↔ s.notices.delivery.detail ≠ none)) ∧
    (c.code = 7 → (conditionOf s c = true ↔ s.notices.fault.detail ≠ none)) ∧
    (c.code = 8 → (conditionOf s c = true ↔ s.mode = .watching)) ∧
    (c.code = 2 → ∀ x, s.zone c.argIndex = some x → cadenceFor s c = x.stage.num) ∧
    (c.code = 3 → ∀ x, s.sector c.argIndex = some x → cadenceFor s c = x.stage.num) ∧
    (c.code ≠ 2 → c.code ≠ 3 → cadenceFor s c = 1) ∧
    (watched s c).1 = conditionOf s c ∧
    (c.code = 2 → (watched s c).2 = (s.zone c.argIndex).map Zone.stage) ∧
    (c.code = 3 → (watched s c).2 = (s.sector c.argIndex).map Sector.stage) ∧
    (c.code ≠ 2 → c.code ≠ 3 → (watched s c).2 = none)) ∧
  (∀ (s : State) (o : Output),
    (conditionOf s o.cfg = true → o.condition = false →
      o.evaluate s = { o with working := o.cfg.written, condition := true, inUse := some (cadenceFor s o.cfg)
                              phase := some 0, closed := true }) ∧
    (conditionOf s o.cfg = false → o.condition = true →
      o.evaluate s = { o with condition := false, inUse := none, phase := none, closed := false }) ∧
    (conditionOf s o.cfg = false → o.condition = false → o.evaluate s = o) ∧
    (conditionOf s o.cfg = true → o.condition = true →
      (o.cfg.code ≠ 2 ∧ o.cfg.code ≠ 3) ∨ o.inUse = some (cadenceFor s o.cfg) → o.evaluate s = o) ∧
    (conditionOf s o.cfg = true → o.condition = true → o.cfg.code = 2 ∨ o.cfg.code = 3 →
      o.inUse ≠ some (cadenceFor s o.cfg) →
      o.evaluate s = { o with working := o.cfg.written, condition := true, inUse := some (cadenceFor s o.cfg)
                              phase := some 0, closed := true })) ∧
  ∀ (k : Nat) (s : State), 1 ≤ k → k ≤ 6 → ∃ o, s.output k = some o ∧
    (∀ n p, o.inUse = some n → o.phase = some p →
      ((o.working.get n).onTime ≤ p → p < (o.working.get n).cycle →
        exec (.cadenceOnTimeReached k) s = .next (State.finish s (s.setOutput k { o with closed := false }))) ∧
      ((o.working.get n).cycle ≤ p →
        exec (.cycleBoundary k) s =
          .next (State.finish s (s.setOutput k
            { o with working := o.cfg.written, phase := some 0, closed := true }))) ∧
      (p < (o.working.get n).onTime ∨ (o.working.get n).cycle ≤ p →
        exec (.cadenceOnTimeReached k) s = .next (State.finish s s)) ∧
      (p < (o.working.get n).cycle → exec (.cycleBoundary k) s = .next (State.finish s s))) ∧
    (o.inUse = none ∨ o.phase = none →
      exec (.cadenceOnTimeReached k) s = .next (State.finish s s) ∧
        exec (.cycleBoundary k) s = .next (State.finish s s))

/-! ## Notices and the store (chapters 10 and 11) -/

/-- A raising and the joining of the outgoing list, which holds at most 28 items (R186, R187), the console addresses in
the order of their list (the model's choice, log 32), the running out of the status countdown (R190) and the completion
of a save (R199); a step with no countdown that has run out changes nothing (log 4), nor does one with no save in
progress (log 23). -/
def Obligations.NoticesStatusAndSavesComplete : Prop :=
  ((∀ (d : Detail) (console : List Byte) (u : NoticeUnit),
     ((u.get d.cls).detail ≠ none →
       u.raise d console = u.set d.cls { u.get d.cls with count := satInc (u.get d.cls).count }) ∧
     ((u.get d.cls).detail = none → (u.get d.cls).enable = false →
       u.raise d console = u.set d.cls { u.get d.cls with detail := some d }) ∧
     ((u.get d.cls).detail = none → (u.get d.cls).enable = true →
       u.raise d console = console.foldl (fun v a => v.enqueue (.notice d.cls a))
         (u.set d.cls { u.get d.cls with detail := some d }))) ∧
   (∀ (it : OutItem) (u : NoticeUnit),
     (it ∈ u.out → u.enqueue it = u) ∧
     (it ∉ u.out → u.out.length < 28 → u.enqueue it = { u with out := u.out ++ [it] }) ∧
     (it ∉ u.out → 28 ≤ u.out.length → u.enqueue it = u)) ∧
   ∀ (c d : NoticeClass) (x : ClassState) (u : NoticeUnit),
     (u.set c x).get c = x ∧ (d ≠ c → (u.set c x).get d = u.get d) ∧ (u.set c x).out = u.out ∧
       (u.set c x).period = u.period ∧ (u.set c x).statusCd = u.statusCd) ∧
  (∀ s : State,
     (s.notices.statusCd = some 0 →
       exec .statusCountdownExpiry s =
         .next (State.finish s { s with
           notices := s.console.foldl (fun v a => v.enqueue (.status a))
             { s.notices with
               statusCd := if s.notices.period = 0 then none else some s.notices.period } })) ∧
     (s.notices.statusCd ≠ some 0 → exec .statusCountdownExpiry s = .next (State.finish s s))) ∧
  ∀ s₀ : State, let s := s₀.settle;
     (∀ j, s.save = some j →
       exec .saveCompletion s₀ =
         .next (State.finish s { s with
           store := j.content, save := none
           replies := s.replies ++ [{ dst := j.dst, payload := [0x52, j.tag, 0], effect := .nothing }] })) ∧
     (s.save = none → exec .saveCompletion s₀ = .next (State.finish s s))

/-- Start-up without a valid image, at power-on, at a line reset and at the effect of a RESET (R6, R19, R28, R29, R182,
R192, R200, R202): the whole state it leaves. A break that has already requested its reset requests no second one. -/
def Obligations.StartUpWithoutAnImage : Prop :=
  (∀ line : LineLevel,
    let port : Port := { rx := .hunt, line := line, tx := none, received := 0, crcError := 0, framing := 0, oversize := 0
                         badAddress := 0, sent := 0 }
    CrestPort.fresh line = { port := port, queue := [], wrongSide := 0, parked := 0, unknownSource := 0, crestDrop := 0 } ∧
    ValleyPort.fresh line = { port := port, forward := [], seq := 0, notForPart := 0, forwardDrop := 0 }) ∧
  ∀ s : State,
    let started : State := { State.reset with
      straps := s.straps, rate := s.straps.rate, node := byteOf (s.straps.addr.val + 1)
      store := if s.save = none then s.store else .void, pending := s.pending }
    let warm : State := { started with
      time := s.time
      crestA := CrestPort.fresh s.crestA.port.line
      crestB := CrestPort.fresh s.crestB.port.line
      notices := { State.reset.notices with fault := { enable := true, detail := some .storeFault, count := 0 } } }
    (NoValidImage s → exec .powerOn s = .next started) ∧
    (NoValidImage s → s.valley.port.line ≠ .spent →
      exec .lineReset s = .next { warm with
        valley := ValleyPort.fresh .spent, cause := { s.cause with line := true, storeFault := true } }) ∧
    (s.valley.port.line = .spent → exec .lineReset s = .next (State.finish s.settle s.settle)) ∧
    ∀ f, NoValidImage s → s.valley.port.tx = some { frame := f, effect := .reset } →
      exec (.transmitCompletion .valley) s = .next { warm with
        valley := ValleyPort.fresh s.valley.port.line
        cause := { s.cause with fullCommand := true, storeFault := true } }

/-- Start-up from a valid image (R46, R65, R89, R120, R138, R198, R200): what is taken from the image, what is started
afresh, and the zones after their first evaluation, ascending (log 9), with the Dispatch Queue and the notice unit it
leaves. An image is valid when it does not name the part's own address (R198). -/
def Obligations.StartUpFromAnImage : Prop :=
  (∀ (m : Image) (a : Byte), a ∈ m.addresses ↔
    (∃ i c, entryAt m.stations i = some c ∧ c.addr = a) ∨ a ∈ m.console ∨ ∃ z c, entryAt m.zones z = some c ∧ a ∈ c.sirens) ∧
  ∀ (s : State) (m : Image), ValidImage m s →
    (∃ u : State, exec .powerOn s = .next (State.finish u u) ∧ StartedFrom m s u ∧
      FirstEvaluated m true u ∧ u.time = { now := { day := 0, hour := 0, minute := 0, second := 0, tenth := 0, unset := true }, phase := 0 } ∧
      u.cause = { powerOn := true, line := false, fullCommand := false, warmCommand := false, storeFault := false } ∧
      u.notices.fault = { enable := m.enables.fault, detail := some .clockUnset, count := 0 }) ∧
    (s.valley.port.line ≠ .spent →
      ∃ u : State, exec .lineReset s = .next (State.finish u u) ∧ StartedFrom m s u ∧ FirstEvaluated m false u ∧
        u.time = s.time ∧
        u.cause = { s.cause with line := true } ∧ u.valley.port.line = .spent ∧
        u.notices.fault = { enable := m.enables.fault, detail := none, count := 0 }) ∧
    ∀ f, s.valley.port.tx = some { frame := f, effect := .reset } →
      ∃ u : State, exec (.transmitCompletion .valley) s = .next (State.finish u u) ∧ StartedFrom m s u ∧
        FirstEvaluated m false u ∧ u.time = s.time ∧
        u.cause = { s.cause with fullCommand := true } ∧
        u.notices.fault = { enable := m.enables.fault, detail := none, count := 0 }

/-- The effect of a RESTART at the completion of its reply (R20, R29, R46, R65, R90, R121, R132, R138, R181, R192, R201,
R202). A zone keeps its state, a running hold loaded afresh, and is evaluated where a listed sector's stage or causes
have changed; where no zone's stage has risen, the Dispatch Queue and the notice unit keep all they hold. That all
sectors start before any hands its change on is the model's choice (log 19), and so is the lower sector and the lower
zone first (log 9). -/
def Obligations.RestartTakesEffectAtItsReply : Prop :=
  ∀ (s₀ : State) (f : Frame), let s := s₀.settle; s₀.valley.port.tx = some { frame := f, effect := .restart } →
    ∃ u : State, exec (.transmitCompletion .valley) s₀ = .next (State.finish s u) ∧
      u.cause = { s.cause with warmCommand := true } ∧
      u.valley = { s.valley with port := { s.valley.port with tx := none, sent := satInc s.valley.port.sent } } ∧
      (∀ i, u.station i = (s.station i).map (fun x =>
        { cfg := x.cfg, live := if x.cfg.parked then .parked else .absent, lastSeq := none
          silence := if x.cfg.parked then none else some x.cfg.limit, lastHeard := none, contents := none
          phase := 0, counts := x.counts })) ∧
      (∀ i, u.lane i = (s.lane i).map (fun l =>
        { cfg := l.cfg, tracked := none, clearance := none, fill := none, valueTime := none, loss := 0
          credits := l.cfg.cands.map (fun _ => 0) })) ∧
      (∀ i, ∀ x ∈ s.sector i, x.cfg.parked = true → u.sector i = some (Sector.parkedFrom x.cfg)) ∧
      (∀ i, ∀ x ∈ s.sector i, x.cfg.parked = false → u.sector i = some (Sector.afresh u x.cfg x.trip)) ∧
      (∀ z, (u.zone z).map Zone.cfg = (s.zone z).map Zone.cfg ∧
        (u.zone z).map Zone.force = (s.zone z).map Zone.force) ∧
      (∀ z x, s.zone z = some x →
        let kept : Zone := { x with hold := x.hold.map (fun _ => x.cfg.holdDown) }
        ((∀ j ∈ x.cfg.sectors, sectorView (u.sector j) = sectorView (s.sector j)) → u.zone z = some kept) ∧
        ((∃ j ∈ x.cfg.sectors, sectorView (u.sector j) ≠ sectorView (s.sector j)) →
          u.zone z = ((u.setZone z (some kept)).evaluateZone z).zone z)) ∧
      (∀ k, 1 ≤ k → k ≤ 6 → ∀ o ∈ s.output k,
        u.output k = some (Output.evaluate u
          { cfg := o.cfg, working := o.cfg.written, condition := false, inUse := none, phase := none, closed := false })) ∧
      ((∀ z, (u.zone z).map Zone.stage = (s.zone z).map Zone.stage) → u.dispatch = s.dispatch ∧ u.notices = s.notices) ∧
      (let started : State := { s with
         cause := u.cause, valley := u.valley, stations := u.stations, lanes := u.lanes, sectors := u.sectors
         zones := mapEntries (fun (x : Zone) => { x with hold := x.hold.map (fun _ => x.cfg.holdDown) }) s.zones }
       let told : State := (List.range 8).foldl (fun t j =>
         if sectorView (u.sector j) = sectorView (s.sector j) then t
         else (List.range 12).foldl (fun v z => match s.zone z with
           | some x => if j ∈ x.cfg.sectors then v.evaluateZone z else v
           | none => v) t) started
       u = { told with outputs := u.outputs }) ∧
      u = { s with cause := u.cause, valley := u.valley, stations := u.stations, lanes := u.lanes
                   sectors := u.sectors, zones := u.zones, dispatch := u.dispatch, notices := u.notices
                   outputs := u.outputs }

/-! ## Commands (chapter 9) -/

/-- A command that finds no place is lost, and one that fails a check is answered with the first it fails (R140, R141
checks 3 to 6, R142, R143, R195). The codes, the reading commands, the lengths an argument block must have and the codes
of the outcomes are those of R142 and R207. -/
def Obligations.CommandsAreCheckedInOrder : Prop :=
  (∀ (c : Command) (src tag : Byte) (args : List Byte) (s₀ : State), let s := s₀.settle;
    (4 ≤ s.heldPlaces →
      exec (c.instr src tag args) s₀ =
        .next (State.finish s (({ s with lost := satInc s.lost }).raise (.replyLost src c.code)))) ∧
    (s.heldPlaces < 4 → args.length ≠ requiredLength c args →
      exec (c.instr src tag args) s₀ = .next (State.finish s (s.reply src c.code tag .badForm [] .nothing))) ∧
    (s.heldPlaces < 4 → args.length = requiredLength c args → isReading c = false → s.console ≠ [] →
      src ∉ s.console →
      exec (c.instr src tag args) s₀ = .next (State.finish s (s.reply src c.code tag .notConsole [] .nothing))) ∧
    (s.heldPlaces < 4 → args.length = requiredLength c args → isReading c = false →
      s.console = [] ∨ src ∈ s.console → s.save ≠ none →
      exec (c.instr src tag args) s₀ = .next (State.finish s (s.reply src c.code tag .busy [] .nothing))) ∧
    (s.heldPlaces < 4 → args.length = requiredLength c args →
      isReading c = true ∨ ((s.console = [] ∨ src ∈ s.console) ∧ s.save = none) → modeOk c args s.mode = false →
      exec (c.instr src tag args) s₀ = .next (State.finish s (s.reply src c.code tag .mode [] .nothing)))) ∧
  (∀ (c : Command) (args : List Byte) (m : Mode), modeOk c args m = false ↔
    (c = .goWatch ∧ m ≠ .commissioning) ∨ (c = .goCommission ∧ m ≠ .watching) ∨ (c = .eraseTables ∧ m = .watching) ∨
      ((c = .parkStation ∨ c = .clearTrip ∨ c = .forceStage) ∧ m = .blank) ∨
      (c = .loadConsole ∧ m = .watching ∧ (args.getD 0 0).toNat = 0)) ∧
  (∀ s : State, s.heldPlaces = s.replies.length + if s.save = none then 0 else 1) ∧
  (∀ args : List Byte,
    let n := fun i => (args.getD i 0).toNat
    let table : List (Command × Byte × Bool × Nat) :=
      [(.readIdent, 0x01, true, 0), (.readClock, 0x02, true, 0), (.setClock, 0x03, false, 6),
       (.loadConsole, 0x08, false, 1 + n 0), (.loadStation, 0x10, false, 8), (.clearStation, 0x11, false, 1),
       (.readStation, 0x12, true, 1), (.parkStation, 0x13, false, 1), (.unparkStation, 0x14, false, 1),
       (.loadLane, 0x18, false, 6 + 2 * n 5), (.clearLane, 0x19, false, 1), (.readLane, 0x1A, true, 1),
       (.loadSector, 0x20, false, 30 + 2 * n 29), (.clearSector, 0x21, false, 1), (.readSector, 0x22, true, 2),
       (.parkSector, 0x23, false, 1), (.unparkSector, 0x24, false, 1), (.clearTrip, 0x25, false, 1),
       (.loadZone, 0x28, false, 8 + n 1 + n (2 + n 1)), (.clearZone, 0x29, false, 1), (.readZone, 0x2A, true, 1)] ++
      [(.forceStage, 0x2B, false, 4), (.releaseForce, 0x2C, false, 1), (.readDispatch, 0x30, true, 1),
       (.loadOutput, 0x38, false, 16), (.readOutput, 0x39, true, 1), (.setNotices, 0x40, false, 3),
       (.readNotices, 0x41, true, 1), (.clearNotices, 0x42, false, 1), (.readCounters, 0x48, true, 1),
       (.clearCounters, 0x49, false, 0), (.goWatch, 0x50, false, 0), (.goCommission, 0x51, false, 0),
       (.saveTables, 0x52, false, 0), (.eraseTables, 0x53, false, 0), (.restart, 0x54, false, 0),
       (.reset, 0x55, false, 0), (.readResetCause, 0x56, true, 0), (.clearResetCause, 0x57, false, 0)]
    ∀ c : Command, (c, c.code, isReading c, requiredLength c args) ∈ table) ∧
  (Outcome.done.code = 0 ∧ Outcome.badForm.code = 1 ∧ Outcome.range.code = 2 ∧ Outcome.busy.code = 3 ∧
    Outcome.parked.code = 4 ∧ Outcome.latched.code = 5 ∧ Outcome.notConsole.code = 6 ∧ Outcome.mode.code = 7 ∧
    Outcome.incomplete.code = 8 ∧ Outcome.unknown.code = 9) ∧
  ∀ (code tag : Byte) (o : Outcome) (data : List Byte), data.length ≤ 53 →
    replyPayload code tag o data = code :: tag :: o.code :: data

/-- A COMMAND frame for the part does what its command does (R12, R139), and a payload that holds no command the unit
knows is answered or lost (R140, R141 checks 1 and 2, R144). -/
def Obligations.CommandFramesCarryCommands : Prop :=
  ∀ (f : Frame) (s₀ : State), let s := s₀.settle; GoodArrival .valley f s → AddressesOk s.node f → f.dst = s.node → f.kind = 0x20 →
    (∀ (c : Command) tag args, f.payload = c.code :: tag :: args →
      ∃ u : State, exec (.frameReceived .valley f) s₀ = .next (State.finish s u) ∧
        ∀ s₁ : State, s₁.settle = s.arrived .valley →
          exec (c.instr f.src tag args) s₁ = .next (State.finish (s.arrived .valley) u)) ∧
    (s.heldPlaces < 4 →
      (f.payload = [] →
        exec (.frameReceived .valley f) s₀ = .next (State.finish s { s.arrived .valley with
          replies := s.replies ++ [{ dst := f.src, payload := [0, 0, 1], effect := .nothing }] })) ∧
      (∀ code, f.payload = [code] →
        exec (.frameReceived .valley f) s₀ = .next (State.finish s { s.arrived .valley with
          replies := s.replies ++ [{ dst := f.src, payload := [code, 0, 1], effect := .nothing }] })) ∧
      (∀ code tag args, f.payload = code :: tag :: args → (∀ c : Command, c.code ≠ code) →
        exec (.frameReceived .valley f) s₀ = .next (State.finish s { s.arrived .valley with
          replies := s.replies ++ [{ dst := f.src, payload := [code, tag, 9], effect := .nothing }] }))) ∧
    (4 ≤ s.heldPlaces → ∀ code, f.payload = [] ∧ code = 0 ∨ f.payload = [code] ∨
        (∃ tag args, f.payload = code :: tag :: args ∧ ∀ c : Command, c.code ≠ code) →
      exec (.frameReceived .valley f) s₀ =
        .next (State.finish s (({ s.arrived .valley with lost := satInc s.lost }).raise (.replyLost f.src code))))

/-- The nine reading commands that report a table, a queue, a class or a group of counters (R144, R146, R152, R157,
R160, R166, R169, R171, R173, R175): admitted and in range, each answers DONE with its data and changes nothing else;
out of range, it answers RANGE. `ReportData` and `EntryData` in Safety.lean spell their bytes; where R204 and R207 give
no order, no yes or no byte, no cadence none and no width they are the model's (log 15, log 16, log 17, log 28, log 29),
and so are the order of a zone's sector set (log 30) and the bytes of a detail that is none (log 31). READ SECTOR part 1
with 15 or 16 ring entries has more data than the 53 bytes a reply has room for: it is answered DONE, but its reply
carries, in place of that data, a free value that nothing constrains (log 6, by `State.reply`); data of at most 53 bytes
is carried whole (`CommandsAreCheckedInOrder`). -/
def Obligations.ReadingCommandsReportTheirData : Prop :=
  ∀ (src tag : Byte) (args : List Byte) (s₀ : State),
    let s := s₀.settle
    let done := fun (code : Byte) (data : List Byte) =>
      Host.Outcome.next (φ := Fault) (ρ := Refusal) (State.finish s (s.reply src code tag .done data .nothing))
    let range := fun (code : Byte) =>
      Host.Outcome.next (φ := Fault) (ρ := Refusal) (State.finish s (s.reply src code tag .range [] .nothing))
    (Admitted .readIdent src args s → exec (.readIdent src tag args) s₀ = done 0x01 (identData s)) ∧
    (Admitted .readStation src args s →
      (arg args 0 < 16 → exec (.readStation src tag args) s₀ = done 0x12 (stationData (arg args 0) s)) ∧
      (16 ≤ arg args 0 → exec (.readStation src tag args) s₀ = range 0x12)) ∧
    (Admitted .readLane src args s →
      (arg args 0 < 32 → exec (.readLane src tag args) s₀ = done 0x1A (laneData (arg args 0) s)) ∧
      (32 ≤ arg args 0 → exec (.readLane src tag args) s₀ = range 0x1A)) ∧
    (Admitted .readSector src args s →
      (arg args 0 < 8 → arg args 1 ≤ 2 →
        exec (.readSector src tag args) s₀ = done 0x22 (sectorData (arg args 0) (arg args 1) s)) ∧
      (8 ≤ arg args 0 ∨ 2 < arg args 1 → exec (.readSector src tag args) s₀ = range 0x22)) ∧
    (Admitted .readZone src args s →
      (arg args 0 < 12 → exec (.readZone src tag args) s₀ = done 0x2A (zoneData (arg args 0) s)) ∧
      (12 ≤ arg args 0 → exec (.readZone src tag args) s₀ = range 0x2A)) ∧
    (Admitted .readDispatch src args s →
      (arg args 0 < 12 → exec (.readDispatch src tag args) s₀ = done 0x30 (dispatchData (arg args 0) s)) ∧
      (12 ≤ arg args 0 → exec (.readDispatch src tag args) s₀ = range 0x30)) ∧
    (Admitted .readOutput src args s →
      (1 ≤ arg args 0 → arg args 0 ≤ 6 →
        exec (.readOutput src tag args) s₀ = done 0x39 (outputData (arg args 0) s)) ∧
      (arg args 0 = 0 ∨ 6 < arg args 0 → exec (.readOutput src tag args) s₀ = range 0x39)) ∧
    (Admitted .readNotices src args s →
      (∀ c, arg args 0 = NoticeClass.num c →
        exec (.readNotices src tag args) s₀ = done 0x41 (noticesData c s.notices)) ∧
      (6 ≤ arg args 0 → exec (.readNotices src tag args) s₀ = range 0x41)) ∧
    (Admitted .readCounters src args s →
      (arg args 0 = 0 →
        exec (.readCounters src tag args) s₀ = done 0x48 ((portCounts .crestA s).flatMap be16)) ∧
      (arg args 0 = 1 →
        exec (.readCounters src tag args) s₀ = done 0x48 ((portCounts .crestB s).flatMap be16)) ∧
      (arg args 0 = 2 →
        exec (.readCounters src tag args) s₀ = done 0x48 ((portCounts .valley s).flatMap be16)) ∧
      (arg args 0 = 3 → exec (.readCounters src tag args) s₀ = done 0x48 (partCountsData s)) ∧
      (∀ i, i < 16 → arg args 0 = 16 + i →
        exec (.readCounters src tag args) s₀ = done 0x48 (stationCountsData i s)) ∧
      (4 ≤ arg args 0 ∧ arg args 0 < 16 ∨ 32 ≤ arg args 0 →
        exec (.readCounters src tag args) s₀ = range 0x48)) ∧
    ReportData s ∧ EntryData s ∧
    (∀ i, s.station i = none → stationData i s = [byteOf i, 0xFF] ∧ stationCountsData i s = [byteOf i, 0xFF]) ∧
    (∀ i, s.lane i = none → laneData i s = [byteOf i, 0xFF]) ∧
    (∀ i part, s.sector i = none → sectorData i part s = [byteOf i, 0xFF]) ∧
    ∀ z, s.zone z = none → zoneData z s = [byteOf z, 0xFF]

/-- READ CLOCK reports the five counters as they stand with the CLOCK UNSET flag (R147). SET CLOCK (R25, R148) gives every
counter its written value, clears CLOCK UNSET and starts the prescaler afresh, so that the next tick falls 3277 cycles
later; nothing else moves, it is taken in every mode, and a value out of range is refused RANGE. -/
def Obligations.ClockIsReadAndSet : Prop :=
  (∀ (src tag : Byte) (s₀ : State), let s := s₀.settle; Admitted .readClock src [] s →
     exec (.readClock src tag []) s₀ = .next (State.finish s { s with
       replies := s.replies ++ [{
         dst := src
         payload := [0x02, tag, 0, BitVec.ofNat 8 (s.time.now.day / 256), BitVec.ofNat 8 s.time.now.day,
           BitVec.ofNat 8 s.time.now.hour, BitVec.ofNat 8 s.time.now.minute, BitVec.ofNat 8 s.time.now.second,
           BitVec.ofNat 8 s.time.now.tenth, if s.time.now.unset then 1 else 0]
         effect := .nothing }] })) ∧
  (∀ (src tag : Byte) (day hour minute second tenth : Nat) (s₀ : State), let s := s₀.settle; day ≤ 65535 → hour ≤ 255 → minute ≤ 255 →
     second ≤ 255 → tenth ≤ 255 →
     let args := be16 day ++ [byteOf hour, byteOf minute, byteOf second, byteOf tenth]
     let set : TimeBase :=
       { now := { day := day, hour := hour, minute := minute, second := second, tenth := tenth, unset := false }
         phase := 0 }
     (Admitted .setClock src args s ↔
       s.heldPlaces < 4 ∧ (s.console = [] ∨ src ∈ s.console) ∧ s.save = none) ∧
     (Admitted .setClock src args s → hour ≤ 23 → minute ≤ 59 → second ≤ 59 → tenth ≤ 9 →
       exec (.setClock src tag args) s₀ =
         .next (State.finish s (({ s with time := set }).reply src 0x03 tag .done [] .nothing)) ∧
       set.cyclesToNext = 3277) ∧
     (Admitted .setClock src args s → 23 < hour ∨ 59 < minute ∨ 59 < second ∨ 9 < tenth →
       exec (.setClock src tag args) s₀ = .next (State.finish s (s.reply src 0x03 tag .range [] .nothing))))

/-- The station commands that write (R41 to R44, R150, R151, R153, R154), each with what it leaves in the entry, what it
hands on and its refusals by checks 7 to 10 (R141). That a withdrawn hand-off reaches the Lane Map before the trip logic
is the model's choice (log 9). -/
def Obligations.StationCommandsWriteTheirEntry : Prop :=
  ∀ (src tag : Byte) (i : Nat) (s₀ : State), let s := s₀.settle; i < 16 →
    let start := fun (c : StationConfig) =>
      ({ cfg := c, live := .absent, lastSeq := none, silence := some c.limit, lastHeard := none, contents := none
         phase := 0, counts := StationCounts.zero } : Station)
    (∀ c : StationConfig, c.Legal → Admitted .loadStation src (stationBlock i c) s → c.addr ≠ s.node →
      OnlyStation i c.addr s → (∀ x ∈ s.station i, x.cfg.parked = false) →
      StaysConsistent s (s.setStation i (some (start c))) →
      exec (.loadStation src tag (stationBlock i c)) s₀ =
        .next (State.finish s (((({ s with mode := if s.mode = Mode.blank then Mode.commissioning else s.mode }).setStation i
          (some (start c))).handWithdrawn i).reply src 0x10 tag .done [] .nothing))) ∧
    (∀ x, s.station i = some x → Admitted .clearStation src [byteOf i] s → x.cfg.parked = false →
      StaysConsistent s (s.setStation i none) →
      exec (.clearStation src tag [byteOf i]) s₀ =
        .next (State.finish s (((s.setStation i none).handWithdrawn i).reply src 0x11 tag .done [] .nothing))) ∧
    (s.station i = none → Admitted .clearStation src [byteOf i] s → StaysConsistent s s →
      exec (.clearStation src tag [byteOf i]) s₀ =
        .next (State.finish s (s.reply src 0x11 tag .done [] .nothing))) ∧
    (∀ x, s.station i = some x → Admitted .parkStation src [byteOf i] s → x.cfg.parked = false →
      exec (.parkStation src tag [byteOf i]) s₀ =
        .next (State.finish s (((s.setStation i (some
          { cfg := { x.cfg with parked := true }, live := .parked, lastSeq := none, silence := none, lastHeard := none
            contents := none, phase := 0, counts := StationCounts.zero })).handWithdrawn i).reply
              src 0x13 tag .done [] .nothing))) ∧
    (∀ x, s.station i = some x → Admitted .parkStation src [byteOf i] s → x.cfg.parked = true →
      exec (.parkStation src tag [byteOf i]) s₀ =
        .next (State.finish s (s.reply src 0x13 tag .done [] .nothing))) ∧
    (∀ x, s.station i = some x → Admitted .unparkStation src [byteOf i] s → x.cfg.parked = true →
      exec (.unparkStation src tag [byteOf i]) s₀ =
        .next (State.finish s (((s.setStation i (some (start { x.cfg with parked := false }))).tripHandoff i).reply
          src 0x14 tag .done [] .nothing))) ∧
    (∀ x, s.station i = some x → Admitted .unparkStation src [byteOf i] s → x.cfg.parked = false →
      exec (.unparkStation src tag [byteOf i]) s₀ =
        .next (State.finish s (s.reply src 0x14 tag .done [] .nothing))) ∧
    (∀ args, Admitted .loadStation src args s → (¬ ∃ j c, j < 16 ∧ StationConfig.Legal c ∧ args = stationBlock j c) →
      exec (.loadStation src tag args) s₀ = .next (State.finish s (s.reply src 0x10 tag .range [] .nothing))) ∧
    (∀ c : StationConfig, c.Legal → Admitted .loadStation src (stationBlock i c) s →
      (c.addr = s.node ∨ ¬ OnlyStation i c.addr s →
        exec (.loadStation src tag (stationBlock i c)) s₀ =
          .next (State.finish s (s.reply src 0x10 tag .range [] .nothing))) ∧
      (c.addr ≠ s.node → OnlyStation i c.addr s → ∀ x ∈ s.station i, x.cfg.parked = true →
        exec (.loadStation src tag (stationBlock i c)) s₀ =
          .next (State.finish s (s.reply src 0x10 tag .parked [] .nothing))) ∧
      ∀ data, c.addr ≠ s.node → OnlyStation i c.addr s → (∀ x ∈ s.station i, x.cfg.parked = false) →
        s.mode = .watching → (s.setStation i (some (start c))).firstFailure = some data →
        exec (.loadStation src tag (stationBlock i c)) s₀ =
          .next (State.finish s (s.reply src 0x10 tag .incomplete data .nothing))) ∧
    (∀ a : Byte, Admitted .clearStation src [a] s → 16 ≤ a.toNat →
      exec (.clearStation src tag [a]) s₀ = .next (State.finish s (s.reply src 0x11 tag .range [] .nothing))) ∧
    (∀ x ∈ s.station i, Admitted .clearStation src [byteOf i] s → x.cfg.parked = true →
      exec (.clearStation src tag [byteOf i]) s₀ =
        .next (State.finish s (s.reply src 0x11 tag .parked [] .nothing))) ∧
    (∀ data, Admitted .clearStation src [byteOf i] s → (∀ x ∈ s.station i, x.cfg.parked = false) →
      s.mode = .watching → (s.setStation i none).firstFailure = some data →
      exec (.clearStation src tag [byteOf i]) s₀ =
        .next (State.finish s (s.reply src 0x11 tag .incomplete data .nothing))) ∧
    (∀ a : Byte, s.station a.toNat = none →
      (Admitted .parkStation src [a] s →
        exec (.parkStation src tag [a]) s₀ = .next (State.finish s (s.reply src 0x13 tag .range [] .nothing))) ∧
      (Admitted .unparkStation src [a] s →
        exec (.unparkStation src tag [a]) s₀ = .next (State.finish s (s.reply src 0x14 tag .range [] .nothing)))) ∧
    ∀ t : State, t.handWithdrawn i = (t.laneEvent i (Lane.settleGone t i .withdrawn)).tripHandoff i

/-- The lane commands that write (R61 to R64, R155, R156): the entry, its sector's lane update, the SOURCE raising of a
lane that was TRACKING, and their refusals by checks 7 and 10 (R141). The lane update before the SOURCE raising is the
model's choice (log 9). -/
def Obligations.LaneCommandsWriteTheirLane : Prop :=
  ∀ (src tag : Byte) (i : Nat) (s₀ : State), let s := s₀.settle; i < 32 →
    let start := fun (c : LaneConfig) =>
      ({ cfg := c, tracked := none, clearance := none, fill := none, valueTime := none, loss := 0
         credits := c.cands.map (fun _ => 0) } : Lane)
    (∀ args, Admitted .loadLane src args s → (¬ ∃ j c, j < 32 ∧ LaneConfig.Legal c ∧ args = laneBlock j c) →
      exec (.loadLane src tag args) s₀ = .next (State.finish s (s.reply src 0x18 tag .range [] .nothing))) ∧
    (∀ (c : LaneConfig) data, c.Legal → Admitted .loadLane src (laneBlock i c) s → s.mode = .watching →
      (s.setLane i (some (start c))).firstFailure = some data →
      exec (.loadLane src tag (laneBlock i c)) s₀ =
        .next (State.finish s (s.reply src 0x18 tag .incomplete data .nothing))) ∧
    (∀ a : Byte, Admitted .clearLane src [a] s → 32 ≤ a.toNat →
      exec (.clearLane src tag [a]) s₀ = .next (State.finish s (s.reply src 0x19 tag .range [] .nothing))) ∧
    (∀ data, Admitted .clearLane src [byteOf i] s → s.mode = .watching →
      (s.setLane i none).firstFailure = some data →
      exec (.clearLane src tag [byteOf i]) s₀ =
        .next (State.finish s (s.reply src 0x19 tag .incomplete data .nothing))) ∧
    (∀ c : LaneConfig, c.Legal → Admitted .loadLane src (laneBlock i c) s →
      StaysConsistent s (s.setLane i (some (start c))) →
      let t := (({ s with mode := if s.mode = Mode.blank then Mode.commissioning else s.mode }).setLane i
        (some (start c))).laneUpdates [i]
      ((∀ l ∈ s.lane i, l.tracked = none) →
        exec (.loadLane src tag (laneBlock i c)) s₀ =
          .next (State.finish s (t.reply src 0x18 tag .done [] .nothing))) ∧
      ∀ l r, s.lane i = some l → l.tracked = some r →
        exec (.loadLane src tag (laneBlock i c)) s₀ =
          .next (State.finish s ((t.raise (.source i (some r) none none none .reloaded)).reply
            src 0x18 tag .done [] .nothing))) ∧
    (Admitted .clearLane src [byteOf i] s → StaysConsistent s (s.setLane i none) →
      (s.lane i = none →
        exec (.clearLane src tag [byteOf i]) s₀ =
          .next (State.finish s (s.reply src 0x19 tag .done [] .nothing))) ∧
      (∀ l, s.lane i = some l → l.tracked = none →
        exec (.clearLane src tag [byteOf i]) s₀ =
          .next (State.finish s (((s.setLane i none).laneUpdates [i]).reply src 0x19 tag .done [] .nothing))) ∧
      ∀ l r, s.lane i = some l → l.tracked = some r →
        exec (.clearLane src tag [byteOf i]) s₀ =
          .next (State.finish s ((((s.setLane i none).laneUpdates [i]).raise
            (.source i (some r) none none none .cleared)).reply src 0x19 tag .done [] .nothing)))

/-- The sector commands that write (R68, R84 to R87, R91, R102, R104, R158, R159, R161 to R163), with what a sector
started afresh and a parked one hold, and their refusals by checks 7 to 10 (R141). The channel byte of a pulse link none
may be anything (R208). -/
def Obligations.SectorCommandsWriteTheirSector : Prop :=
  (∀ (t : State) (c : SectorConfig) (trip : Option TripRecord),
    Sector.afresh t c trip = Sector.laneUpdate t
      { cfg := c, valid := 0, rise := ⟨[], [], []⟩, hold := ⟨[], [], []⟩, level := .quiet, peak := none, index := 0
        blindCd := some c.blindDelay, blind := false, ring := [], lastRise := none, rapid := false
        bins := if c.pulse = none then [] else List.replicate 12 0
        binCd := if c.pulse = none then none else some c.binLength, window := 0, surge := false
        tripFault := c.trips.any (fun k =>
          readLink t k = .fault || readLink t k = .silent || readLink t k = .parked || readLink t k = .unusable)
        trip := trip, stage := .quiet, causes := Causes.none }) ∧
  ∀ (src tag : Byte) (i : Nat) (s₀ : State), let s := s₀.settle; i < 8 →
    (∀ (c : SectorConfig) (ch : Byte), c.Legal → Admitted .loadSector src (sectorBlock i c ch) s →
      (∀ j, j ≠ i → ∀ y ∈ s.sector j, ∀ l ∈ c.range, l ∉ y.cfg.range) →
      (∀ x ∈ s.sector i, x.cfg.parked = false ∧ x.trip = none) →
      StaysConsistent s (s.setSector i (some (Sector.afresh s c none))) →
      let t : State := { s with mode := if s.mode = Mode.blank then Mode.commissioning else s.mode }
      exec (.loadSector src tag (sectorBlock i c ch)) s₀ =
        .next (State.finish s ((State.putSector i (some (Sector.afresh t c none)) t).reply
          src 0x20 tag .done [] .nothing))) ∧
    (∀ args, Admitted .loadSector src args s →
      (¬ ∃ j c ch, j < 8 ∧ SectorConfig.Legal c ∧ args = sectorBlock j c ch) →
      exec (.loadSector src tag args) s₀ = .next (State.finish s (s.reply src 0x20 tag .range [] .nothing))) ∧
    (∀ (c : SectorConfig) (ch : Byte), c.Legal → Admitted .loadSector src (sectorBlock i c ch) s →
      ((∃ j, j ≠ i ∧ ∃ y ∈ s.sector j, ∃ l ∈ c.range, l ∈ y.cfg.range) →
        exec (.loadSector src tag (sectorBlock i c ch)) s₀ =
          .next (State.finish s (s.reply src 0x20 tag .range [] .nothing))) ∧
      ((∀ j, j ≠ i → ∀ y ∈ s.sector j, ∀ l ∈ c.range, l ∉ y.cfg.range) →
        (∀ x ∈ s.sector i, x.cfg.parked = true →
          exec (.loadSector src tag (sectorBlock i c ch)) s₀ =
            .next (State.finish s (s.reply src 0x20 tag .parked [] .nothing))) ∧
        (∀ x ∈ s.sector i, x.cfg.parked = false → x.trip ≠ none →
          exec (.loadSector src tag (sectorBlock i c ch)) s₀ =
            .next (State.finish s (s.reply src 0x20 tag .latched [] .nothing))) ∧
        ∀ data, (∀ x ∈ s.sector i, x.cfg.parked = false ∧ x.trip = none) → s.mode = .watching →
          (s.setSector i (some (Sector.afresh s c none))).firstFailure = some data →
          exec (.loadSector src tag (sectorBlock i c ch)) s₀ =
            .next (State.finish s (s.reply src 0x20 tag .incomplete data .nothing)))) ∧
    (∀ a : Byte, Admitted .clearSector src [a] s → 8 ≤ a.toNat →
      exec (.clearSector src tag [a]) s₀ = .next (State.finish s (s.reply src 0x21 tag .range [] .nothing))) ∧
    (∀ x ∈ s.sector i, Admitted .clearSector src [byteOf i] s → x.cfg.parked = true →
      exec (.clearSector src tag [byteOf i]) s₀ =
        .next (State.finish s (s.reply src 0x21 tag .parked [] .nothing))) ∧
    (∀ x ∈ s.sector i, Admitted .clearSector src [byteOf i] s → x.cfg.parked = false → x.trip ≠ none →
      exec (.clearSector src tag [byteOf i]) s₀ =
        .next (State.finish s (s.reply src 0x21 tag .latched [] .nothing))) ∧
    (∀ data, Admitted .clearSector src [byteOf i] s → (∀ x ∈ s.sector i, x.cfg.parked = false ∧ x.trip = none) →
      s.mode = .watching → (s.setSector i none).firstFailure = some data →
      exec (.clearSector src tag [byteOf i]) s₀ =
        .next (State.finish s (s.reply src 0x21 tag .incomplete data .nothing))) ∧
    (∀ a : Byte, s.sector a.toNat = none →
      (Admitted .parkSector src [a] s →
        exec (.parkSector src tag [a]) s₀ = .next (State.finish s (s.reply src 0x23 tag .range [] .nothing))) ∧
      (Admitted .unparkSector src [a] s →
        exec (.unparkSector src tag [a]) s₀ = .next (State.finish s (s.reply src 0x24 tag .range [] .nothing))) ∧
      (Admitted .clearTrip src [a] s →
        exec (.clearTrip src tag [a]) s₀ = .next (State.finish s (s.reply src 0x25 tag .range [] .nothing)))) ∧
    (∀ x ∈ s.sector i, Admitted .parkSector src [byteOf i] s → x.trip ≠ none →
      exec (.parkSector src tag [byteOf i]) s₀ =
        .next (State.finish s (s.reply src 0x23 tag .latched [] .nothing))) ∧
    (Admitted .clearSector src [byteOf i] s → (∀ x ∈ s.sector i, x.cfg.parked = false ∧ x.trip = none) →
      StaysConsistent s (s.setSector i none) →
      exec (.clearSector src tag [byteOf i]) s₀ =
        .next (State.finish s ((s.putSector i none).reply src 0x21 tag .done [] .nothing))) ∧
    ∀ x, s.sector i = some x →
      (Admitted .parkSector src [byteOf i] s → x.cfg.parked = false → x.trip = none →
        exec (.parkSector src tag [byteOf i]) s₀ =
          .next (State.finish s ((s.putSector i (some
            { cfg := { x.cfg with parked := true }, valid := 0, rise := ⟨[], [], []⟩, hold := ⟨[], [], []⟩
              level := .quiet, peak := none, index := 0, blindCd := none, blind := false, ring := []
              lastRise := none, rapid := false, bins := [], binCd := none, window := 0, surge := false
              tripFault := false, trip := none, stage := .quiet, causes := Causes.none })).reply
                src 0x23 tag .done [] .nothing))) ∧
      (Admitted .parkSector src [byteOf i] s → x.cfg.parked = true → x.trip = none →
        exec (.parkSector src tag [byteOf i]) s₀ =
          .next (State.finish s (s.reply src 0x23 tag .done [] .nothing))) ∧
      (Admitted .unparkSector src [byteOf i] s → x.cfg.parked = true →
        exec (.unparkSector src tag [byteOf i]) s₀ =
          .next (State.finish s ((s.putSector i (some (Sector.afresh s { x.cfg with parked := false } none))).reply
            src 0x24 tag .done [] .nothing))) ∧
      (Admitted .unparkSector src [byteOf i] s → x.cfg.parked = false →
        exec (.unparkSector src tag [byteOf i]) s₀ =
          .next (State.finish s (s.reply src 0x24 tag .done [] .nothing))) ∧
      (Admitted .clearTrip src [byteOf i] s → x.trip ≠ none →
        exec (.clearTrip src tag [byteOf i]) s₀ =
          .next (State.finish s ((s.putSector i (some (Sector.restage { x with trip := none }))).reply
            src 0x25 tag .done [] .nothing))) ∧
      (Admitted .clearTrip src [byteOf i] s → x.trip = none →
        exec (.clearTrip src tag [byteOf i]) s₀ =
          .next (State.finish s (s.reply src 0x25 tag .done [] .nothing)))

/-- The zone commands that write (R114, R118, R119, R164, R165, R167, R168), what becomes of the siren records of an entry
in flight (R130, the DELIVERY raisings in the order of the new siren list, log 26), and their refusals by checks 7 and 10
(R141). -/
def Obligations.ZoneCommandsWriteTheirZone : Prop :=
  (∀ (z : Nat) (c : ZoneConfig) (s : State),
    ((∀ e ∈ s.dispatch.queue, e.zone ≠ z) → s.followZoneWrite z c = s) ∧
    ∀ before e after, s.dispatch.queue = before ++ e :: after → e.zone = z →
      (s.dispatch.queue.map Entry.zone).Nodup →
      let kept := c.sirens.map (fun a => (e.records.find? (fun r => decide (r.addr = a))).getD
        { addr := a, state := .pending, tries := 0, cd := none })
      let fitted := kept.map (fun (r : SirenRecord) => { r with
        tries := min r.tries c.tries
        state :=
          if r.state = .pending ∧ min r.tries c.tries = c.tries ∧ r.cd = none then .unreached
          else if r.state = .unreached ∧ min r.tries c.tries < c.tries then .pending
          else r.state })
      let lost := (kept.zip fitted).filterMap (fun p =>
        if p.1.state = .pending ∧ p.2.state = .unreached then
          some (Detail.delivery z e.serial e.stage p.2.addr p.2.tries)
        else none)
      s.followZoneWrite z c = lost.foldl (fun t d => t.raise d) { s with dispatch := { s.dispatch with
        queue := if fitted.any (fun r => decide (r.state = .pending)) then
            before ++ { e with records := fitted } :: after
          else before ++ after } }) ∧
  ∀ (src tag : Byte) (z : Nat) (s₀ : State), let s := s₀.settle; z < 12 →
    (∀ c : ZoneConfig, c.Legal s.node → Admitted .loadZone src (zoneBlock z c) s →
      let start : Zone :=
        { cfg := c, stage := .quiet, computed := .quiet, force := none, target := .quiet, hold := none, serial := 0
          causes := Causes.none, peakSector := none, refreshCd := none, undispatched := 0 }
      StaysConsistent s (s.setZone z (some start)) →
      let t : State := { s with mode := if s.mode = Mode.blank then Mode.commissioning else s.mode }
      (s.zone z = none → (∀ e ∈ s.dispatch.queue, e.zone ≠ z) →
        exec (.loadZone src tag (zoneBlock z c)) s₀ =
          .next (State.finish s (((State.setZone z (some start) t).evaluateZone z).reply
            src 0x28 tag .done [] .nothing))) ∧
      ∀ x, s.zone z = some x →
        let v := ((State.setZone z (some { x with cfg := c }) t).followZoneWrite z c).evaluateZone z
        ∃ y, v.zone z = some y ∧
          exec (.loadZone src tag (zoneBlock z c)) s₀ =
            .next (State.finish s ((v.setZone z (some { y with
              refreshCd := if s.mode = .watching ∧ y.stage ≠ .quiet ∧ c.refresh ≠ 0 then some c.refresh
                else none })).reply src 0x28 tag .done [] .nothing))) ∧
    (∀ args, Admitted .loadZone src args s →
      (¬ ∃ j c, j < 12 ∧ ZoneConfig.Legal s.node c ∧ args = zoneBlock j c) →
      exec (.loadZone src tag args) s₀ = .next (State.finish s (s.reply src 0x28 tag .range [] .nothing))) ∧
    (∀ (c : ZoneConfig) (y : Zone) data, c.Legal s.node → Admitted .loadZone src (zoneBlock z c) s →
      s.mode = .watching → y.cfg = c → (s.setZone z (some y)).firstFailure = some data →
      exec (.loadZone src tag (zoneBlock z c)) s₀ =
        .next (State.finish s (s.reply src 0x28 tag .incomplete data .nothing))) ∧
    (∀ a : Byte, Admitted .clearZone src [a] s → 12 ≤ a.toNat →
      exec (.clearZone src tag [a]) s₀ = .next (State.finish s (s.reply src 0x29 tag .range [] .nothing))) ∧
    (∀ data, Admitted .clearZone src [byteOf z] s → s.mode = .watching →
      (s.setZone z none).firstFailure = some data →
      exec (.clearZone src tag [byteOf z]) s₀ =
        .next (State.finish s (s.reply src 0x29 tag .incomplete data .nothing))) ∧
    (∀ args, Admitted .forceStage src args s →
      (¬ ∃ (j : Nat) (stage : Stage) (minutes : Nat), s.zone j ≠ none ∧ stage ≠ .quiet ∧ 1 ≤ minutes ∧ minutes ≤ 1440 ∧
        args = [byteOf j, stage.byte] ++ be16 minutes) →
      exec (.forceStage src tag args) s₀ = .next (State.finish s (s.reply src 0x2B tag .range [] .nothing))) ∧
    (∀ a : Byte, Admitted .releaseForce src [a] s → s.zone a.toNat = none →
      exec (.releaseForce src tag [a]) s₀ = .next (State.finish s (s.reply src 0x2C tag .range [] .nothing))) ∧
    (Admitted .clearZone src [byteOf z] s → StaysConsistent s (s.setZone z none) →
      exec (.clearZone src tag [byteOf z]) s₀ =
        .next (State.finish s (({ s.setZone z none with
          dispatch := { s.dispatch with queue := s.dispatch.queue.filter (fun e => decide (e.zone ≠ z)) } }).reply
            src 0x29 tag .done [] .nothing))) ∧
    ∀ x, s.zone z = some x →
      (∀ (stage : Stage) (minutes : Nat), stage ≠ .quiet → 1 ≤ minutes → minutes ≤ 1440 →
        Admitted .forceStage src ([byteOf z, stage.byte] ++ be16 minutes) s →
        exec (.forceStage src tag ([byteOf z, stage.byte] ++ be16 minutes)) s₀ =
          .next (State.finish s (((s.setZone z (some
            { x with force := some { stage := stage, left := minutes } })).evaluateZone z).reply
              src 0x2B tag .done [] .nothing))) ∧
      (Admitted .releaseForce src [byteOf z] s → x.force ≠ none →
        exec (.releaseForce src tag [byteOf z]) s₀ =
          .next (State.finish s (((s.setZone z (some { x with force := none })).evaluateZone z).reply
            src 0x2C tag .done [] .nothing))) ∧
      (Admitted .releaseForce src [byteOf z] s → x.force = none →
        exec (.releaseForce src tag [byteOf z]) s₀ =
          .next (State.finish s (s.reply src 0x2C tag .done [] .nothing)))

/-- LOAD CONSOLE (R149), LOAD OUTPUT (R136, R170), SET NOTICES (R172, R188, R190) and CLEAR NOTICES (R174, R188), with
their refusals RANGE (R141 check 7). That SET NOTICES takes the classes in the order of their numbers, and the console
addresses in the order of the list, is the model's choice (log 27, log 32). -/
def Obligations.ConsoleOutputAndNoticeCommandsWrite : Prop :=
  ((∀ (src tag : Byte) (k : Nat) (c : OutputConfig) (o : Output) (s₀ : State), let s := s₀.settle; 1 ≤ k → k ≤ 6 → c.Legal →
     s.output k = some o → Admitted .loadOutput src (outputBlock k c) s →
     let t : State := { s with mode := if s.mode = Mode.blank then Mode.commissioning else s.mode }
     (o.cfg.code = c.code → o.cfg.argIndex = c.argIndex → o.cfg.argStage = c.argStage →
       exec (.loadOutput src tag (outputBlock k c)) s₀ =
         .next (State.finish s ((State.setOutput k { o with cfg := c } t).reply src 0x38 tag .done [] .nothing))) ∧
     (o.cfg.code ≠ c.code ∨ o.cfg.argIndex ≠ c.argIndex ∨ o.cfg.argStage ≠ c.argStage →
       (conditionOf t c = true →
         exec (.loadOutput src tag (outputBlock k c)) s₀ =
           .next (State.finish s ((State.setOutput k
             { cfg := c, working := c.written, condition := true, inUse := some (cadenceFor t c), phase := some 0
               closed := true } t).reply src 0x38 tag .done [] .nothing))) ∧
       (conditionOf t c = false →
         exec (.loadOutput src tag (outputBlock k c)) s₀ =
           .next (State.finish s ((State.setOutput k
             { cfg := c, working := o.working, condition := false, inUse := none, phase := none, closed := false }
             t).reply src 0x38 tag .done [] .nothing))))) ∧
   (∀ (src tag : Byte) (args : List Byte) (s₀ : State), let s := s₀.settle;
     (Admitted .loadOutput src args s →
       (¬ ∃ k c, 1 ≤ k ∧ k ≤ 6 ∧ OutputConfig.Legal c ∧ args = outputBlock k c) →
       exec (.loadOutput src tag args) s₀ = .next (State.finish s (s.reply src 0x38 tag .range [] .nothing))) ∧
     (Admitted .setNotices src args s →
       (¬ ∃ (set : Byte) (period : Nat), (period = 0 ∨ (10 ≤ period ∧ period ≤ 3600)) ∧ args = set :: be16 period) →
       exec (.setNotices src tag args) s₀ = .next (State.finish s (s.reply src 0x40 tag .range [] .nothing)))) ∧
   (∀ (src tag set : Byte) (period : Nat) (s₀ : State), let s := s₀.settle; period = 0 ∨ (10 ≤ period ∧ period ≤ 3600) →
     Admitted .setNotices src (set :: be16 period) s →
     ∃ v : NoticeUnit, exec (.setNotices src tag (set :: be16 period)) s₀ =
         .next (State.finish s (({ s with notices := v }).reply src 0x40 tag .done [] .nothing)) ∧
       v.period = period ∧ v.statusCd = (if period = 0 then none else some period) ∧
       v.out = [NoticeClass.stage, .source, .silence, .delivery, .trip, .fault].foldl (fun out c =>
         if (s.notices.get c).enable = false ∧ set.getLsbD c.num = true ∧ (s.notices.get c).detail ≠ none then
           (s.console.foldl (fun (w : NoticeUnit) a => w.enqueue (.notice c a)) { s.notices with out := out }).out
         else if (s.notices.get c).enable = true ∧ set.getLsbD c.num = false then
           out.filter (fun it => !it.isNotice c)
         else out) s.notices.out ∧
       (∀ c, v.get c = { s.notices.get c with enable := set.getLsbD c.num }) ∧
       (∀ c a, (s.notices.get c).enable = set.getLsbD c.num → (.notice c a ∈ v.out ↔ .notice c a ∈ s.notices.out)) ∧
       (∀ c a, (s.notices.get c).enable = true → set.getLsbD c.num = false → .notice c a ∉ v.out) ∧
       (∀ c a, (s.notices.get c).enable = false → set.getLsbD c.num = true → s.console.length ≤ 2 →
         s.notices.out.length ≤ 16 →
         (.notice c a ∈ v.out ↔
           .notice c a ∈ s.notices.out ∨ ((s.notices.get c).detail ≠ none ∧ a ∈ s.console))) ∧
       ∀ a, .status a ∈ v.out ↔ .status a ∈ s.notices.out) ∧
   ∀ (src tag set : Byte) (s₀ : State), let s := s₀.settle; Admitted .clearNotices src [set] s →
     ∃ v : NoticeUnit, exec (.clearNotices src tag [set]) s₀ =
         .next (State.finish s (({ s with notices := v }).reply src 0x42 tag .done [] .nothing)) ∧
       v.period = s.notices.period ∧ v.statusCd = s.notices.statusCd ∧
       (∀ c, v.get c = if set.getLsbD c.num then { enable := (s.notices.get c).enable, detail := none, count := 0 }
         else s.notices.get c) ∧
       v.out = s.notices.out.filter (fun it => !NoticeClass.all.any (fun c => set.getLsbD c.num && it.isNotice c))) ∧
  (∀ (src tag : Byte) (l : List Byte) (s₀ : State), let s := s₀.settle; Admitted .loadConsole src (byteOf l.length :: l) s →
     (l.length ≤ 2 → l.Nodup → (∀ a ∈ l, a ≠ 0 ∧ a ≠ 255 ∧ a ≠ s.node) →
       exec (.loadConsole src tag (byteOf l.length :: l)) s₀ =
         .next (State.finish s (({ s with console := l }).reply src 0x08 tag .done [] .nothing))) ∧
     (2 < l.length ∨ ¬ l.Nodup ∨ (∃ a ∈ l, a = 0 ∨ a = 255 ∨ a = s.node) →
       exec (.loadConsole src tag (byteOf l.length :: l)) s₀ =
         .next (State.finish s (s.reply src 0x08 tag .range [] .nothing))))

/-- READ RESET CAUSE reports the five flags, one byte for each (R183; the bytes are the model's reading, log 17), and
CLEAR RESET CAUSE empties the record (R184). CLEAR COUNTERS sets every counter it names to 0 and moves nothing else
(R176). -/
def Obligations.ResetCauseAndCountersAreCleared : Prop :=
  (∀ (src tag : Byte) (s₀ : State), let s := s₀.settle;
     (Admitted .readResetCause src [] s →
       exec (.readResetCause src tag []) s₀ = .next (State.finish s { s with
         replies := s.replies ++ [{
           dst := src
           payload := [0x56, tag, 0, if s.cause.powerOn then 1 else 0, if s.cause.line then 1 else 0,
             if s.cause.fullCommand then 1 else 0, if s.cause.warmCommand then 1 else 0,
             if s.cause.storeFault then 1 else 0]
           effect := .nothing }] })) ∧
     (Admitted .clearResetCause src [] s →
       exec (.clearResetCause src tag []) s₀ =
         .next (State.finish s (({ s with cause :=
           { powerOn := false, line := false, fullCommand := false, warmCommand := false, storeFault := false } }).reply
             src 0x57 tag .done [] .nothing)))) ∧
  (∀ (src tag : Byte) (s₀ : State), let s := s₀.settle; Admitted .clearCounters src [] s →
     let quiet := fun (q : Port) =>
       { q with received := 0, crcError := 0, framing := 0, oversize := 0, badAddress := 0, sent := 0 }
     let crest := fun (c : CrestPort) =>
       { c with port := quiet c.port, wrongSide := 0, parked := 0, unknownSource := 0, crestDrop := 0 }
     exec (.clearCounters src tag []) s₀ = .next (State.finish s (({ s with
       crestA := crest s.crestA
       crestB := crest s.crestB
       valley := { s.valley with port := quiet s.valley.port, notForPart := 0, forwardDrop := 0 }
       stations := mapEntries (fun (x : Station) =>
         if x.cfg.parked then x else { x with counts := ⟨0, 0, 0, 0, 0, 0, 0⟩ }) s.stations
       dispatch := { s.dispatch with stale := 0, mismatched := 0 }
       lost := 0
       zones := mapEntries (fun (x : Zone) => { x with undispatched := 0 }) s.zones }).reply
         src 0x49 tag .done [] .nothing)))

/-- GO WATCH, GO COMMISSION, ERASE TABLES, SAVE TABLES, RESTART and RESET (R116, R117, R131, R177 to R182, R194 to R199),
each with all it changes when it is taken, and the consistency check: its seven items, their order, and the three bytes
of the first failing one (R145, R207). -/
def Obligations.ModeAndStoreCommandsTakeEffect : Prop :=
  (∀ s : State,
    (s.firstFailure = none ↔ ∀ n a b, ¬ ItemFails s n a b) ∧
    ∀ n a b, ItemFails s n a b →
      (∀ m i j, ItemFails s m i j → n < m ∨ (n = m ∧ (a < i ∨ (a = i ∧ b ≤ j)))) →
      s.firstFailure = some [byteOf n, byteOf a, byteOf b]) ∧
  ∀ (src tag : Byte) (s₀ : State), let s := s₀.settle;
    (∀ data, Admitted .goWatch src [] s → s.firstFailure = some data →
      exec (.goWatch src tag []) s₀ = .next (State.finish s (s.reply src 0x50 tag .incomplete data .nothing))) ∧
    (Admitted .goWatch src [] s → s.firstFailure = none →
      ∃ u : State, exec (.goWatch src tag []) s₀ = .next (State.finish s (u.reply src 0x50 tag .done [] .nothing)) ∧
        u = { s with mode := .watching, zones := u.zones, dispatch := { s.dispatch with queue := u.dispatch.queue } } ∧
        u = (List.range 12).foldl (fun t z => match s.zone z with
          | some x =>
            if x.stage = .quiet then t
            else (t.setZone z (some { x with
              serial := x.serial + 1
              refreshCd := if x.cfg.refresh = 0 then none else some x.cfg.refresh })).alertRaised z
          | none => t) { s with mode := .watching } ∧
        ∀ z, z < 12 →
          ((∀ x ∈ s.zone z, x.stage = .quiet) → u.zone z = s.zone z ∧
            u.dispatch.queue.filter (fun (e : Entry) => decide (e.zone = z)) =
              s.dispatch.queue.filter (fun (e : Entry) => decide (e.zone = z))) ∧
          ∀ x, s.zone z = some x → x.stage ≠ .quiet →
            u.zone z = some { x with
              serial := x.serial + 1
              refreshCd := if x.cfg.refresh = 0 then none else some x.cfg.refresh } ∧
            ∃ e, u.dispatch.queue.filter (fun (e : Entry) => decide (e.zone = z)) = [e] ∧ e.serial = x.serial + 1 ∧
              e.stage = x.stage ∧ e.causes = x.causes ∧ e.refresh = false ∧ e.peakSector = x.peakSector ∧
              e.created = s.time.now ∧
              e.records = x.cfg.sirens.map (fun a => { addr := a, state := .pending, tries := 0, cd := none })) ∧
    (Admitted .goCommission src [] s →
      exec (.goCommission src tag []) s₀ =
        .next (State.finish s (({ s with
          mode := .commissioning
          zones := mapEntries (fun (x : Zone) => { x with refreshCd := none }) s.zones }).reply
            src 0x51 tag .done [] .nothing))) ∧
    (Admitted .eraseTables src [] s → (∀ i, ∀ x ∈ s.sector i, x.trip = none) →
      let steady : Cadence := { cycle := 10, onTime := 10 }
      let written : Cadences := { c1 := steady, c2 := steady, c3 := steady }
      exec (.eraseTables src tag []) s₀ =
        .next (State.finish s (({ s with
          stations := Vector.replicate 16 none
          lanes := Vector.replicate 32 none
          sectors := Vector.replicate 8 none
          zones := Vector.replicate 12 none
          outputs := Vector.replicate 6
            { cfg := { code := 0, argIndex := 0, argStage := .watch, written := written }, working := written
              condition := false, inUse := none, phase := none, closed := false }
          mode := .blank
          dispatch := { s.dispatch with queue := [] } }).reply src 0x53 tag .done [] .nothing))) ∧
    (∀ i x, Admitted .eraseTables src [] s → s.sector i = some x → x.trip ≠ none →
      exec (.eraseTables src tag []) s₀ = .next (State.finish s (s.reply src 0x53 tag .latched [] .nothing))) ∧
    (∀ image, image = Image.mk (mapEntries Station.cfg s.stations) (mapEntries Lane.cfg s.lanes)
        (mapEntries Sector.cfg s.sectors) (mapEntries Zone.cfg s.zones) (mapTable Output.cfg s.outputs)
        s.notices.enables s.notices.period s.console (decide (s.mode = .watching)) →
      Admitted .saveTables src [] s →
      exec (.saveTables src tag []) s₀ =
        .next (State.finish s { s with
          store := .void
          save := some (SaveJob.mk (if s.mode = .blank then .empty else .image image) src tag) })) ∧
    (Admitted .restart src [] s →
      exec (.restart src tag []) s₀ = .next (State.finish s (s.reply src 0x54 tag .done [] .restart))) ∧
    (Admitted .reset src [] s →
      exec (.reset src tag []) s₀ = .next (State.finish s (s.reply src 0x55 tag .done [] .reset)))

/-! ## What every step keeps -/

/-- The counters of the time base keep their ranges (R21). Every countdown can be loaded with at least 1 alone, so that
after settling nothing is left that has run out (R23, log 4). -/
def Obligations.EveryStepKeepsTheTimeLegal : Prop :=
  (∀ s t : State, TimeLegal s → step s = .next t → TimeLegal t) ∧
  (∀ s t : State, PeriodsRun s → step s = .next t → PeriodsRun t) ∧
  ∀ s : State, PeriodsRun s → SirensListed s → DispatchOrdered s → Settled s.settle

/-- No queue passes its places, no counter passes 65535 (R14, R15, R18, R45, R140, R187, R193), and no bin of a surge
window does (R91, R92). -/
def Obligations.EveryStepKeepsQueuesAndCountersBounded : Prop :=
  (∀ s t : State, QueuesBounded s → CountersBounded s → step s = .next t → QueuesBounded t ∧ CountersBounded t) ∧
  ∀ s t : State, BinsBounded s → step s = .next t → BinsBounded t

/-- In BLANK every table and the Dispatch Queue stay empty (R194). -/
def Obligations.EveryStepKeepsBlankEmpty : Prop :=
  ∀ s t : State, BlankIsEmpty s → step s = .next t → BlankIsEmpty t

/-- In WATCHING the tables pass the consistency check, whatever is written, parked, stored or restored (R145, R194). -/
def Obligations.EveryStepKeepsWatchingConsistent : Prop :=
  ∀ s t : State, WatchingIsConsistent s → step s = .next t → WatchingIsConsistent t

/-- Every sector stands at the highest stage its conditions call for, with the causes that reach it (R80, R81, R86). -/
def Obligations.EveryStepKeepsSectorsAtTheirStage : Prop :=
  ∀ s t : State, SectorsStaged s → step s = .next t → SectorsStaged t

/-- No zone stands below its force or below any contributing sector, and its hold runs exactly while it stands above
both (R108, R110, R112). `SectorsStaged` is kept by a statement of its own. -/
def Obligations.EveryStepKeepsZonesCovered : Prop :=
  ∀ s t : State, SectorsStaged s → ZonesCovered s → step s = .next t → ZonesCovered t

/-- The Dispatch Queue keeps its order, one entry for a zone, each for a loaded zone, with its siren list's records and
one of them PENDING (R122, R123, R128, R130). -/
def Obligations.EveryStepKeepsTheDispatchQueueOrdered : Prop :=
  ∀ s t : State, SirensListed s → DispatchOrdered s → step s = .next t → SirensListed t ∧ DispatchOrdered t

/-- A station's state, countdown and records agree (R31 to R33, R43). -/
def Obligations.EveryStepKeepsStationsLegal : Prop :=
  ∀ s t : State, StationsLegal s → step s = .next t → StationsLegal t

/-- A lane's dynamic state agrees with its configuration (R48, R49, R52, R57). -/
def Obligations.EveryStepKeepsLanesLegal : Prop :=
  ∀ s t : State, LanesLegal s → step s = .next t → LanesLegal t

/-- Every contact output's condition is the reading its select code names, and contact and cadence follow (R133 to
R136). -/
def Obligations.EveryStepKeepsOutputsFollowing : Prop :=
  ∀ s t : State, OutputsFollow s → step s = .next t → OutputsFollow t

/-- The notice unit's flags, details, counts and outgoing list agree (R185 to R188). -/
def Obligations.EveryStepKeepsNoticesLegal : Prop :=
  ∀ s t : State, NoticesLegal s → step s = .next t → NoticesLegal t
end

