-- ==== Sys2Proof/Laws/Bins.lean ====
section
/-! SUPPORT. The bin ring (R91 to R93): which operations on a sector touch it, and that no bin passes 65535. -/

namespace Sys2Proof.Machine

/-! ## Operations that keep the ring -/

@[simp] theorem Sector.restage_bins (x : Sector) : x.restage.bins = x.bins := rfl
@[simp] theorem Sector.evalSurge_bins (x : Sector) : x.evalSurge.bins = x.bins := rfl
@[simp] theorem Sector.laneUpdate_bins (s : State) (x : Sector) : (x.laneUpdate s).bins = x.bins := rfl
@[simp] theorem Sector.goBlind_bins (x : Sector) : x.goBlind.bins = x.bins := rfl
@[simp] theorem Sector.evalTripFault_bins (s : State) (x : Sector) : (x.evalTripFault s).bins = x.bins := rfl
@[simp] theorem Sector.second_bins (x : Sector) : x.second.bins = x.bins := rfl

@[simp] theorem Sector.minute_bins (x : Sector) : x.minute.bins = x.bins := by
  simp only [Sector.minute]
  cases ringRise x.cfg.rapidSpan ((x.ringEntry :: x.ring).take 16) <;> rfl

/-! ## Operations that move it -/

@[simp] theorem Sector.pulse_bins (c : Option Nat) (x : Sector) : (x.pulse c).bins = addToBin c x.bins := rfl
@[simp] theorem Sector.advanceBin_bins (x : Sector) : x.advanceBin.bins = (0 :: x.bins).take 12 := rfl

theorem addToBin_le {c : Option Nat} {bins : List Nat} (h : ∀ b ∈ bins, b ≤ 65535) : ∀ b ∈ addToBin c bins, b ≤ 65535 := by
  cases bins with
  | nil => simp [addToBin]
  | cons n rest =>
    simp only [addToBin, List.mem_cons]
    rintro b (rfl | hb)
    · exact Nat.min_le_right _ _
    · exact h b (List.mem_cons_of_mem _ hb)

theorem Sector.advanceBin_le {x : Sector} (h : ∀ b ∈ x.bins, b ≤ 65535) : ∀ b ∈ x.advanceBin.bins, b ≤ 65535 := by
  intro b hb
  rcases List.mem_cons.mp (List.mem_of_mem_take hb) with rfl | hb
  · exact Nat.zero_le _
  · exact h b hb

theorem Sector.afresh_le (s : State) (c : SectorConfig) (trip : Option TripRecord) :
    ∀ b ∈ (Sector.afresh s c trip).bins, b ≤ 65535 := by
  intro b hb
  simp only [Sector.afresh, Sector.laneUpdate_bins, Sector.start] at hb
  split at hb
  · rw [List.eq_of_mem_replicate hb]; exact Nat.zero_le _
  · simp at hb

end Sys2Proof.Machine
end

