-- ==== Sys2Proof/Laws/CheckCode.lean ====
section
/-! SUPPORT. The check code (R2): its register is linear, and a byte enters it as its eight bits, the most significant
first. -/

namespace Sys2Proof.Machine

/-- One bit enters the register: a shift by one place, and the polynomial where the bit shifted out differs from it. -/
def crcShift (c : Word) (bit : Bool) : Word :=
  (c <<< 1) ^^^ (if c.getLsbD 15 = bit then 0 else 0x1021)

theorem xor_cancel (a b p : Word) : (a ^^^ p) ^^^ (b ^^^ p) = a ^^^ b := by
  rw [BitVec.xor_comm b p, ← BitVec.xor_assoc, BitVec.xor_assoc a p p, BitVec.xor_self, BitVec.xor_zero]

theorem crcBit_eq_crcShift (a : Word) : crcBit a = crcShift a false := by
  unfold crcShift crcBit
  rw [BitVec.msb_eq_getLsbD_last]
  cases a.getLsbD 15 <;> simp

theorem crcShift_xor (a b : Word) (d : Bool) : crcShift (a ^^^ b) d = crcBit a ^^^ crcShift b d := by
  unfold crcShift crcBit
  rw [BitVec.getLsbD_xor, BitVec.shiftLeft_xor_distrib, BitVec.msb_eq_getLsbD_last]
  generalize a <<< 1 = x
  generalize b <<< 1 = y
  have h := xor_cancel x y 0x1021
  have h' : x ^^^ 0x1021 ^^^ y = x ^^^ y ^^^ 0x1021 := by ac_rfl
  have h2 : x ^^^ (y ^^^ 0x1021) = x ^^^ y ^^^ 0x1021 := by ac_rfl
  cases a.getLsbD 15 <;> cases b.getLsbD 15 <;> cases d <;> simp_all [BitVec.xor_assoc]

theorem crcBit_xor (a b : Word) : crcBit (a ^^^ b) = crcBit a ^^^ crcBit b := by
  rw [crcBit_eq_crcShift (a ^^^ b), crcShift_xor, ← crcBit_eq_crcShift]

theorem foldl_crcShift_xor (bits : List Bool) (a b : Word) :
    bits.foldl crcShift (a ^^^ b) = bits.foldl (fun c _ => crcBit c) a ^^^ bits.foldl crcShift b := by
  induction bits generalizing a b with
  | nil => rfl
  | cons d rest ih => simp only [List.foldl_cons, crcShift_xor, ih]

theorem crcByte_xor (c : Word) (b : Byte) : crcByte c b = crcByte c 0 ^^^ crcByte 0 b := by
  simp [crcByte, crcBit_xor]

/-- A byte enters an empty register as its bits. -/
theorem crcByte_zero (b : Byte) :
    crcByte 0 b = ((List.range 8).map (fun k => b.getLsbD (7 - k))).foldl crcShift 0 := by
  revert b; decide +kernel

/-- A byte enters the register as its eight bits, the most significant first. -/
theorem crcByte_bits (c : Word) (b : Byte) :
    crcByte c b = ((List.range 8).map (fun k => b.getLsbD (7 - k))).foldl crcShift c := by
  have h := foldl_crcShift_xor ((List.range 8).map (fun k => b.getLsbD (7 - k))) c 0
  rw [show c ^^^ (0 : Word) = c by simp] at h
  rw [crcByte_xor, crcByte_zero, h]
  congr 1
  simp [crcByte]
  rfl

end Sys2Proof.Machine
end

