-- ==== Sys2Proof/Laws/State.lean ====
section
/-! SUPPORT. What each update of the state leaves in each field: one rewriting lemma per field and update. -/

namespace Sys2Proof.Machine

/-! ## setStation -/

@[simp] theorem State.setStation_straps (i : Nat) (x : Option Station) (s : State) : (s.setStation i x).straps = s.straps := rfl
@[simp] theorem State.setStation_rate (i : Nat) (x : Option Station) (s : State) : (s.setStation i x).rate = s.rate := rfl
@[simp] theorem State.setStation_node (i : Nat) (x : Option Station) (s : State) : (s.setStation i x).node = s.node := rfl
@[simp] theorem State.setStation_crestA (i : Nat) (x : Option Station) (s : State) : (s.setStation i x).crestA = s.crestA := rfl
@[simp] theorem State.setStation_crestB (i : Nat) (x : Option Station) (s : State) : (s.setStation i x).crestB = s.crestB := rfl
@[simp] theorem State.setStation_valley (i : Nat) (x : Option Station) (s : State) : (s.setStation i x).valley = s.valley := rfl
@[simp] theorem State.setStation_time (i : Nat) (x : Option Station) (s : State) : (s.setStation i x).time = s.time := rfl
@[simp] theorem State.setStation_stations (i : Nat) (x : Option Station) (s : State) : (s.setStation i x).stations = s.stations.setIfInBounds i x := rfl
@[simp] theorem State.setStation_lanes (i : Nat) (x : Option Station) (s : State) : (s.setStation i x).lanes = s.lanes := rfl
@[simp] theorem State.setStation_sectors (i : Nat) (x : Option Station) (s : State) : (s.setStation i x).sectors = s.sectors := rfl
@[simp] theorem State.setStation_zones (i : Nat) (x : Option Station) (s : State) : (s.setStation i x).zones = s.zones := rfl
@[simp] theorem State.setStation_dispatch (i : Nat) (x : Option Station) (s : State) : (s.setStation i x).dispatch = s.dispatch := rfl
@[simp] theorem State.setStation_outputs (i : Nat) (x : Option Station) (s : State) : (s.setStation i x).outputs = s.outputs := rfl
@[simp] theorem State.setStation_notices (i : Nat) (x : Option Station) (s : State) : (s.setStation i x).notices = s.notices := rfl
@[simp] theorem State.setStation_console (i : Nat) (x : Option Station) (s : State) : (s.setStation i x).console = s.console := rfl
@[simp] theorem State.setStation_replies (i : Nat) (x : Option Station) (s : State) : (s.setStation i x).replies = s.replies := rfl
@[simp] theorem State.setStation_lost (i : Nat) (x : Option Station) (s : State) : (s.setStation i x).lost = s.lost := rfl
@[simp] theorem State.setStation_save (i : Nat) (x : Option Station) (s : State) : (s.setStation i x).save = s.save := rfl
@[simp] theorem State.setStation_mode (i : Nat) (x : Option Station) (s : State) : (s.setStation i x).mode = s.mode := rfl
@[simp] theorem State.setStation_store (i : Nat) (x : Option Station) (s : State) : (s.setStation i x).store = s.store := rfl
@[simp] theorem State.setStation_cause (i : Nat) (x : Option Station) (s : State) : (s.setStation i x).cause = s.cause := rfl
@[simp] theorem State.setStation_pending (i : Nat) (x : Option Station) (s : State) : (s.setStation i x).pending = s.pending := rfl

/-! ## setLane -/

@[simp] theorem State.setLane_straps (i : Nat) (x : Option Lane) (s : State) : (s.setLane i x).straps = s.straps := rfl
@[simp] theorem State.setLane_rate (i : Nat) (x : Option Lane) (s : State) : (s.setLane i x).rate = s.rate := rfl
@[simp] theorem State.setLane_node (i : Nat) (x : Option Lane) (s : State) : (s.setLane i x).node = s.node := rfl
@[simp] theorem State.setLane_crestA (i : Nat) (x : Option Lane) (s : State) : (s.setLane i x).crestA = s.crestA := rfl
@[simp] theorem State.setLane_crestB (i : Nat) (x : Option Lane) (s : State) : (s.setLane i x).crestB = s.crestB := rfl
@[simp] theorem State.setLane_valley (i : Nat) (x : Option Lane) (s : State) : (s.setLane i x).valley = s.valley := rfl
@[simp] theorem State.setLane_time (i : Nat) (x : Option Lane) (s : State) : (s.setLane i x).time = s.time := rfl
@[simp] theorem State.setLane_stations (i : Nat) (x : Option Lane) (s : State) : (s.setLane i x).stations = s.stations := rfl
@[simp] theorem State.setLane_lanes (i : Nat) (x : Option Lane) (s : State) : (s.setLane i x).lanes = s.lanes.setIfInBounds i x := rfl
@[simp] theorem State.setLane_sectors (i : Nat) (x : Option Lane) (s : State) : (s.setLane i x).sectors = s.sectors := rfl
@[simp] theorem State.setLane_zones (i : Nat) (x : Option Lane) (s : State) : (s.setLane i x).zones = s.zones := rfl
@[simp] theorem State.setLane_dispatch (i : Nat) (x : Option Lane) (s : State) : (s.setLane i x).dispatch = s.dispatch := rfl
@[simp] theorem State.setLane_outputs (i : Nat) (x : Option Lane) (s : State) : (s.setLane i x).outputs = s.outputs := rfl
@[simp] theorem State.setLane_notices (i : Nat) (x : Option Lane) (s : State) : (s.setLane i x).notices = s.notices := rfl
@[simp] theorem State.setLane_console (i : Nat) (x : Option Lane) (s : State) : (s.setLane i x).console = s.console := rfl
@[simp] theorem State.setLane_replies (i : Nat) (x : Option Lane) (s : State) : (s.setLane i x).replies = s.replies := rfl
@[simp] theorem State.setLane_lost (i : Nat) (x : Option Lane) (s : State) : (s.setLane i x).lost = s.lost := rfl
@[simp] theorem State.setLane_save (i : Nat) (x : Option Lane) (s : State) : (s.setLane i x).save = s.save := rfl
@[simp] theorem State.setLane_mode (i : Nat) (x : Option Lane) (s : State) : (s.setLane i x).mode = s.mode := rfl
@[simp] theorem State.setLane_store (i : Nat) (x : Option Lane) (s : State) : (s.setLane i x).store = s.store := rfl
@[simp] theorem State.setLane_cause (i : Nat) (x : Option Lane) (s : State) : (s.setLane i x).cause = s.cause := rfl
@[simp] theorem State.setLane_pending (i : Nat) (x : Option Lane) (s : State) : (s.setLane i x).pending = s.pending := rfl

/-! ## setSector -/

@[simp] theorem State.setSector_straps (i : Nat) (x : Option Sector) (s : State) : (s.setSector i x).straps = s.straps := rfl
@[simp] theorem State.setSector_rate (i : Nat) (x : Option Sector) (s : State) : (s.setSector i x).rate = s.rate := rfl
@[simp] theorem State.setSector_node (i : Nat) (x : Option Sector) (s : State) : (s.setSector i x).node = s.node := rfl
@[simp] theorem State.setSector_crestA (i : Nat) (x : Option Sector) (s : State) : (s.setSector i x).crestA = s.crestA := rfl
@[simp] theorem State.setSector_crestB (i : Nat) (x : Option Sector) (s : State) : (s.setSector i x).crestB = s.crestB := rfl
@[simp] theorem State.setSector_valley (i : Nat) (x : Option Sector) (s : State) : (s.setSector i x).valley = s.valley := rfl
@[simp] theorem State.setSector_time (i : Nat) (x : Option Sector) (s : State) : (s.setSector i x).time = s.time := rfl
@[simp] theorem State.setSector_stations (i : Nat) (x : Option Sector) (s : State) : (s.setSector i x).stations = s.stations := rfl
@[simp] theorem State.setSector_lanes (i : Nat) (x : Option Sector) (s : State) : (s.setSector i x).lanes = s.lanes := rfl
@[simp] theorem State.setSector_sectors (i : Nat) (x : Option Sector) (s : State) : (s.setSector i x).sectors = s.sectors.setIfInBounds i x := rfl
@[simp] theorem State.setSector_zones (i : Nat) (x : Option Sector) (s : State) : (s.setSector i x).zones = s.zones := rfl
@[simp] theorem State.setSector_dispatch (i : Nat) (x : Option Sector) (s : State) : (s.setSector i x).dispatch = s.dispatch := rfl
@[simp] theorem State.setSector_outputs (i : Nat) (x : Option Sector) (s : State) : (s.setSector i x).outputs = s.outputs := rfl
@[simp] theorem State.setSector_notices (i : Nat) (x : Option Sector) (s : State) : (s.setSector i x).notices = s.notices := rfl
@[simp] theorem State.setSector_console (i : Nat) (x : Option Sector) (s : State) : (s.setSector i x).console = s.console := rfl
@[simp] theorem State.setSector_replies (i : Nat) (x : Option Sector) (s : State) : (s.setSector i x).replies = s.replies := rfl
@[simp] theorem State.setSector_lost (i : Nat) (x : Option Sector) (s : State) : (s.setSector i x).lost = s.lost := rfl
@[simp] theorem State.setSector_save (i : Nat) (x : Option Sector) (s : State) : (s.setSector i x).save = s.save := rfl
@[simp] theorem State.setSector_mode (i : Nat) (x : Option Sector) (s : State) : (s.setSector i x).mode = s.mode := rfl
@[simp] theorem State.setSector_store (i : Nat) (x : Option Sector) (s : State) : (s.setSector i x).store = s.store := rfl
@[simp] theorem State.setSector_cause (i : Nat) (x : Option Sector) (s : State) : (s.setSector i x).cause = s.cause := rfl
@[simp] theorem State.setSector_pending (i : Nat) (x : Option Sector) (s : State) : (s.setSector i x).pending = s.pending := rfl

/-! ## setZone -/

@[simp] theorem State.setZone_straps (i : Nat) (x : Option Zone) (s : State) : (s.setZone i x).straps = s.straps := rfl
@[simp] theorem State.setZone_rate (i : Nat) (x : Option Zone) (s : State) : (s.setZone i x).rate = s.rate := rfl
@[simp] theorem State.setZone_node (i : Nat) (x : Option Zone) (s : State) : (s.setZone i x).node = s.node := rfl
@[simp] theorem State.setZone_crestA (i : Nat) (x : Option Zone) (s : State) : (s.setZone i x).crestA = s.crestA := rfl
@[simp] theorem State.setZone_crestB (i : Nat) (x : Option Zone) (s : State) : (s.setZone i x).crestB = s.crestB := rfl
@[simp] theorem State.setZone_valley (i : Nat) (x : Option Zone) (s : State) : (s.setZone i x).valley = s.valley := rfl
@[simp] theorem State.setZone_time (i : Nat) (x : Option Zone) (s : State) : (s.setZone i x).time = s.time := rfl
@[simp] theorem State.setZone_stations (i : Nat) (x : Option Zone) (s : State) : (s.setZone i x).stations = s.stations := rfl
@[simp] theorem State.setZone_lanes (i : Nat) (x : Option Zone) (s : State) : (s.setZone i x).lanes = s.lanes := rfl
@[simp] theorem State.setZone_sectors (i : Nat) (x : Option Zone) (s : State) : (s.setZone i x).sectors = s.sectors := rfl
@[simp] theorem State.setZone_zones (i : Nat) (x : Option Zone) (s : State) : (s.setZone i x).zones = s.zones.setIfInBounds i x := rfl
@[simp] theorem State.setZone_dispatch (i : Nat) (x : Option Zone) (s : State) : (s.setZone i x).dispatch = s.dispatch := rfl
@[simp] theorem State.setZone_outputs (i : Nat) (x : Option Zone) (s : State) : (s.setZone i x).outputs = s.outputs := rfl
@[simp] theorem State.setZone_notices (i : Nat) (x : Option Zone) (s : State) : (s.setZone i x).notices = s.notices := rfl
@[simp] theorem State.setZone_console (i : Nat) (x : Option Zone) (s : State) : (s.setZone i x).console = s.console := rfl
@[simp] theorem State.setZone_replies (i : Nat) (x : Option Zone) (s : State) : (s.setZone i x).replies = s.replies := rfl
@[simp] theorem State.setZone_lost (i : Nat) (x : Option Zone) (s : State) : (s.setZone i x).lost = s.lost := rfl
@[simp] theorem State.setZone_save (i : Nat) (x : Option Zone) (s : State) : (s.setZone i x).save = s.save := rfl
@[simp] theorem State.setZone_mode (i : Nat) (x : Option Zone) (s : State) : (s.setZone i x).mode = s.mode := rfl
@[simp] theorem State.setZone_store (i : Nat) (x : Option Zone) (s : State) : (s.setZone i x).store = s.store := rfl
@[simp] theorem State.setZone_cause (i : Nat) (x : Option Zone) (s : State) : (s.setZone i x).cause = s.cause := rfl
@[simp] theorem State.setZone_pending (i : Nat) (x : Option Zone) (s : State) : (s.setZone i x).pending = s.pending := rfl

/-! ## setOutput -/

@[simp] theorem State.setOutput_straps (k : Nat) (x : Output) (s : State) : (s.setOutput k x).straps = s.straps := rfl
@[simp] theorem State.setOutput_rate (k : Nat) (x : Output) (s : State) : (s.setOutput k x).rate = s.rate := rfl
@[simp] theorem State.setOutput_node (k : Nat) (x : Output) (s : State) : (s.setOutput k x).node = s.node := rfl
@[simp] theorem State.setOutput_crestA (k : Nat) (x : Output) (s : State) : (s.setOutput k x).crestA = s.crestA := rfl
@[simp] theorem State.setOutput_crestB (k : Nat) (x : Output) (s : State) : (s.setOutput k x).crestB = s.crestB := rfl
@[simp] theorem State.setOutput_valley (k : Nat) (x : Output) (s : State) : (s.setOutput k x).valley = s.valley := rfl
@[simp] theorem State.setOutput_time (k : Nat) (x : Output) (s : State) : (s.setOutput k x).time = s.time := rfl
@[simp] theorem State.setOutput_stations (k : Nat) (x : Output) (s : State) : (s.setOutput k x).stations = s.stations := rfl
@[simp] theorem State.setOutput_lanes (k : Nat) (x : Output) (s : State) : (s.setOutput k x).lanes = s.lanes := rfl
@[simp] theorem State.setOutput_sectors (k : Nat) (x : Output) (s : State) : (s.setOutput k x).sectors = s.sectors := rfl
@[simp] theorem State.setOutput_zones (k : Nat) (x : Output) (s : State) : (s.setOutput k x).zones = s.zones := rfl
@[simp] theorem State.setOutput_dispatch (k : Nat) (x : Output) (s : State) : (s.setOutput k x).dispatch = s.dispatch := rfl
@[simp] theorem State.setOutput_outputs (k : Nat) (x : Output) (s : State) : (s.setOutput k x).outputs = s.outputs.setIfInBounds (k - 1) x := rfl
@[simp] theorem State.setOutput_notices (k : Nat) (x : Output) (s : State) : (s.setOutput k x).notices = s.notices := rfl
@[simp] theorem State.setOutput_console (k : Nat) (x : Output) (s : State) : (s.setOutput k x).console = s.console := rfl
@[simp] theorem State.setOutput_replies (k : Nat) (x : Output) (s : State) : (s.setOutput k x).replies = s.replies := rfl
@[simp] theorem State.setOutput_lost (k : Nat) (x : Output) (s : State) : (s.setOutput k x).lost = s.lost := rfl
@[simp] theorem State.setOutput_save (k : Nat) (x : Output) (s : State) : (s.setOutput k x).save = s.save := rfl
@[simp] theorem State.setOutput_mode (k : Nat) (x : Output) (s : State) : (s.setOutput k x).mode = s.mode := rfl
@[simp] theorem State.setOutput_store (k : Nat) (x : Output) (s : State) : (s.setOutput k x).store = s.store := rfl
@[simp] theorem State.setOutput_cause (k : Nat) (x : Output) (s : State) : (s.setOutput k x).cause = s.cause := rfl
@[simp] theorem State.setOutput_pending (k : Nat) (x : Output) (s : State) : (s.setOutput k x).pending = s.pending := rfl

/-! ## raise -/

@[simp] theorem State.raise_straps (d : Detail) (s : State) : (s.raise d).straps = s.straps := rfl
@[simp] theorem State.raise_rate (d : Detail) (s : State) : (s.raise d).rate = s.rate := rfl
@[simp] theorem State.raise_node (d : Detail) (s : State) : (s.raise d).node = s.node := rfl
@[simp] theorem State.raise_crestA (d : Detail) (s : State) : (s.raise d).crestA = s.crestA := rfl
@[simp] theorem State.raise_crestB (d : Detail) (s : State) : (s.raise d).crestB = s.crestB := rfl
@[simp] theorem State.raise_valley (d : Detail) (s : State) : (s.raise d).valley = s.valley := rfl
@[simp] theorem State.raise_time (d : Detail) (s : State) : (s.raise d).time = s.time := rfl
@[simp] theorem State.raise_stations (d : Detail) (s : State) : (s.raise d).stations = s.stations := rfl
@[simp] theorem State.raise_lanes (d : Detail) (s : State) : (s.raise d).lanes = s.lanes := rfl
@[simp] theorem State.raise_sectors (d : Detail) (s : State) : (s.raise d).sectors = s.sectors := rfl
@[simp] theorem State.raise_zones (d : Detail) (s : State) : (s.raise d).zones = s.zones := rfl
@[simp] theorem State.raise_dispatch (d : Detail) (s : State) : (s.raise d).dispatch = s.dispatch := rfl
@[simp] theorem State.raise_outputs (d : Detail) (s : State) : (s.raise d).outputs = s.outputs := rfl
@[simp] theorem State.raise_notices (d : Detail) (s : State) : (s.raise d).notices = s.notices.raise d s.console := rfl
@[simp] theorem State.raise_console (d : Detail) (s : State) : (s.raise d).console = s.console := rfl
@[simp] theorem State.raise_replies (d : Detail) (s : State) : (s.raise d).replies = s.replies := rfl
@[simp] theorem State.raise_lost (d : Detail) (s : State) : (s.raise d).lost = s.lost := rfl
@[simp] theorem State.raise_save (d : Detail) (s : State) : (s.raise d).save = s.save := rfl
@[simp] theorem State.raise_mode (d : Detail) (s : State) : (s.raise d).mode = s.mode := rfl
@[simp] theorem State.raise_store (d : Detail) (s : State) : (s.raise d).store = s.store := rfl
@[simp] theorem State.raise_cause (d : Detail) (s : State) : (s.raise d).cause = s.cause := rfl
@[simp] theorem State.raise_pending (d : Detail) (s : State) : (s.raise d).pending = s.pending := rfl

/-! ## reply -/

@[simp] theorem State.reply_straps (dst code tag : Byte) (o : Outcome) (data : List Byte) (e : ReplyEffect) (s : State) : (s.reply dst code tag o data e).straps = s.straps := rfl
@[simp] theorem State.reply_rate (dst code tag : Byte) (o : Outcome) (data : List Byte) (e : ReplyEffect) (s : State) : (s.reply dst code tag o data e).rate = s.rate := rfl
@[simp] theorem State.reply_node (dst code tag : Byte) (o : Outcome) (data : List Byte) (e : ReplyEffect) (s : State) : (s.reply dst code tag o data e).node = s.node := rfl
@[simp] theorem State.reply_crestA (dst code tag : Byte) (o : Outcome) (data : List Byte) (e : ReplyEffect) (s : State) : (s.reply dst code tag o data e).crestA = s.crestA := rfl
@[simp] theorem State.reply_crestB (dst code tag : Byte) (o : Outcome) (data : List Byte) (e : ReplyEffect) (s : State) : (s.reply dst code tag o data e).crestB = s.crestB := rfl
@[simp] theorem State.reply_valley (dst code tag : Byte) (o : Outcome) (data : List Byte) (e : ReplyEffect) (s : State) : (s.reply dst code tag o data e).valley = s.valley := rfl
@[simp] theorem State.reply_time (dst code tag : Byte) (o : Outcome) (data : List Byte) (e : ReplyEffect) (s : State) : (s.reply dst code tag o data e).time = s.time := rfl
@[simp] theorem State.reply_stations (dst code tag : Byte) (o : Outcome) (data : List Byte) (e : ReplyEffect) (s : State) : (s.reply dst code tag o data e).stations = s.stations := rfl
@[simp] theorem State.reply_lanes (dst code tag : Byte) (o : Outcome) (data : List Byte) (e : ReplyEffect) (s : State) : (s.reply dst code tag o data e).lanes = s.lanes := rfl
@[simp] theorem State.reply_sectors (dst code tag : Byte) (o : Outcome) (data : List Byte) (e : ReplyEffect) (s : State) : (s.reply dst code tag o data e).sectors = s.sectors := rfl
@[simp] theorem State.reply_zones (dst code tag : Byte) (o : Outcome) (data : List Byte) (e : ReplyEffect) (s : State) : (s.reply dst code tag o data e).zones = s.zones := rfl
@[simp] theorem State.reply_dispatch (dst code tag : Byte) (o : Outcome) (data : List Byte) (e : ReplyEffect) (s : State) : (s.reply dst code tag o data e).dispatch = s.dispatch := rfl
@[simp] theorem State.reply_outputs (dst code tag : Byte) (o : Outcome) (data : List Byte) (e : ReplyEffect) (s : State) : (s.reply dst code tag o data e).outputs = s.outputs := rfl
@[simp] theorem State.reply_notices (dst code tag : Byte) (o : Outcome) (data : List Byte) (e : ReplyEffect) (s : State) : (s.reply dst code tag o data e).notices = s.notices := rfl
@[simp] theorem State.reply_console (dst code tag : Byte) (o : Outcome) (data : List Byte) (e : ReplyEffect) (s : State) : (s.reply dst code tag o data e).console = s.console := rfl
@[simp] theorem State.reply_replies (dst code tag : Byte) (o : Outcome) (data : List Byte) (e : ReplyEffect) (s : State) : (s.reply dst code tag o data e).replies = s.replies ++ [{ dst := dst, payload := replyPayload code tag o data, effect := e }] := rfl
@[simp] theorem State.reply_lost (dst code tag : Byte) (o : Outcome) (data : List Byte) (e : ReplyEffect) (s : State) : (s.reply dst code tag o data e).lost = s.lost := rfl
@[simp] theorem State.reply_save (dst code tag : Byte) (o : Outcome) (data : List Byte) (e : ReplyEffect) (s : State) : (s.reply dst code tag o data e).save = s.save := rfl
@[simp] theorem State.reply_mode (dst code tag : Byte) (o : Outcome) (data : List Byte) (e : ReplyEffect) (s : State) : (s.reply dst code tag o data e).mode = s.mode := rfl
@[simp] theorem State.reply_store (dst code tag : Byte) (o : Outcome) (data : List Byte) (e : ReplyEffect) (s : State) : (s.reply dst code tag o data e).store = s.store := rfl
@[simp] theorem State.reply_cause (dst code tag : Byte) (o : Outcome) (data : List Byte) (e : ReplyEffect) (s : State) : (s.reply dst code tag o data e).cause = s.cause := rfl
@[simp] theorem State.reply_pending (dst code tag : Byte) (o : Outcome) (data : List Byte) (e : ReplyEffect) (s : State) : (s.reply dst code tag o data e).pending = s.pending := rfl

/-! ## removeEntry -/

@[simp] theorem State.removeEntry_straps (z : Nat) (s : State) : (s.removeEntry z).straps = s.straps := rfl
@[simp] theorem State.removeEntry_rate (z : Nat) (s : State) : (s.removeEntry z).rate = s.rate := rfl
@[simp] theorem State.removeEntry_node (z : Nat) (s : State) : (s.removeEntry z).node = s.node := rfl
@[simp] theorem State.removeEntry_crestA (z : Nat) (s : State) : (s.removeEntry z).crestA = s.crestA := rfl
@[simp] theorem State.removeEntry_crestB (z : Nat) (s : State) : (s.removeEntry z).crestB = s.crestB := rfl
@[simp] theorem State.removeEntry_valley (z : Nat) (s : State) : (s.removeEntry z).valley = s.valley := rfl
@[simp] theorem State.removeEntry_time (z : Nat) (s : State) : (s.removeEntry z).time = s.time := rfl
@[simp] theorem State.removeEntry_stations (z : Nat) (s : State) : (s.removeEntry z).stations = s.stations := rfl
@[simp] theorem State.removeEntry_lanes (z : Nat) (s : State) : (s.removeEntry z).lanes = s.lanes := rfl
@[simp] theorem State.removeEntry_sectors (z : Nat) (s : State) : (s.removeEntry z).sectors = s.sectors := rfl
@[simp] theorem State.removeEntry_zones (z : Nat) (s : State) : (s.removeEntry z).zones = s.zones := rfl
@[simp] theorem State.removeEntry_dispatch (z : Nat) (s : State) : (s.removeEntry z).dispatch = { s.dispatch with queue := withoutZone z s.dispatch.queue } := rfl
@[simp] theorem State.removeEntry_outputs (z : Nat) (s : State) : (s.removeEntry z).outputs = s.outputs := rfl
@[simp] theorem State.removeEntry_notices (z : Nat) (s : State) : (s.removeEntry z).notices = s.notices := rfl
@[simp] theorem State.removeEntry_console (z : Nat) (s : State) : (s.removeEntry z).console = s.console := rfl
@[simp] theorem State.removeEntry_replies (z : Nat) (s : State) : (s.removeEntry z).replies = s.replies := rfl
@[simp] theorem State.removeEntry_lost (z : Nat) (s : State) : (s.removeEntry z).lost = s.lost := rfl
@[simp] theorem State.removeEntry_save (z : Nat) (s : State) : (s.removeEntry z).save = s.save := rfl
@[simp] theorem State.removeEntry_mode (z : Nat) (s : State) : (s.removeEntry z).mode = s.mode := rfl
@[simp] theorem State.removeEntry_store (z : Nat) (s : State) : (s.removeEntry z).store = s.store := rfl
@[simp] theorem State.removeEntry_cause (z : Nat) (s : State) : (s.removeEntry z).cause = s.cause := rfl
@[simp] theorem State.removeEntry_pending (z : Nat) (s : State) : (s.removeEntry z).pending = s.pending := rfl

/-! ## updEntry -/

@[simp] theorem State.updEntry_straps (z : Nat) (f : List SirenRecord → List SirenRecord) (s : State) : (s.updEntry z f).straps = s.straps := rfl
@[simp] theorem State.updEntry_rate (z : Nat) (f : List SirenRecord → List SirenRecord) (s : State) : (s.updEntry z f).rate = s.rate := rfl
@[simp] theorem State.updEntry_node (z : Nat) (f : List SirenRecord → List SirenRecord) (s : State) : (s.updEntry z f).node = s.node := rfl
@[simp] theorem State.updEntry_crestA (z : Nat) (f : List SirenRecord → List SirenRecord) (s : State) : (s.updEntry z f).crestA = s.crestA := rfl
@[simp] theorem State.updEntry_crestB (z : Nat) (f : List SirenRecord → List SirenRecord) (s : State) : (s.updEntry z f).crestB = s.crestB := rfl
@[simp] theorem State.updEntry_valley (z : Nat) (f : List SirenRecord → List SirenRecord) (s : State) : (s.updEntry z f).valley = s.valley := rfl
@[simp] theorem State.updEntry_time (z : Nat) (f : List SirenRecord → List SirenRecord) (s : State) : (s.updEntry z f).time = s.time := rfl
@[simp] theorem State.updEntry_stations (z : Nat) (f : List SirenRecord → List SirenRecord) (s : State) : (s.updEntry z f).stations = s.stations := rfl
@[simp] theorem State.updEntry_lanes (z : Nat) (f : List SirenRecord → List SirenRecord) (s : State) : (s.updEntry z f).lanes = s.lanes := rfl
@[simp] theorem State.updEntry_sectors (z : Nat) (f : List SirenRecord → List SirenRecord) (s : State) : (s.updEntry z f).sectors = s.sectors := rfl
@[simp] theorem State.updEntry_zones (z : Nat) (f : List SirenRecord → List SirenRecord) (s : State) : (s.updEntry z f).zones = s.zones := rfl
@[simp] theorem State.updEntry_outputs (z : Nat) (f : List SirenRecord → List SirenRecord) (s : State) : (s.updEntry z f).outputs = s.outputs := rfl
@[simp] theorem State.updEntry_notices (z : Nat) (f : List SirenRecord → List SirenRecord) (s : State) : (s.updEntry z f).notices = s.notices := rfl
@[simp] theorem State.updEntry_console (z : Nat) (f : List SirenRecord → List SirenRecord) (s : State) : (s.updEntry z f).console = s.console := rfl
@[simp] theorem State.updEntry_replies (z : Nat) (f : List SirenRecord → List SirenRecord) (s : State) : (s.updEntry z f).replies = s.replies := rfl
@[simp] theorem State.updEntry_lost (z : Nat) (f : List SirenRecord → List SirenRecord) (s : State) : (s.updEntry z f).lost = s.lost := rfl
@[simp] theorem State.updEntry_save (z : Nat) (f : List SirenRecord → List SirenRecord) (s : State) : (s.updEntry z f).save = s.save := rfl
@[simp] theorem State.updEntry_mode (z : Nat) (f : List SirenRecord → List SirenRecord) (s : State) : (s.updEntry z f).mode = s.mode := rfl
@[simp] theorem State.updEntry_store (z : Nat) (f : List SirenRecord → List SirenRecord) (s : State) : (s.updEntry z f).store = s.store := rfl
@[simp] theorem State.updEntry_cause (z : Nat) (f : List SirenRecord → List SirenRecord) (s : State) : (s.updEntry z f).cause = s.cause := rfl
@[simp] theorem State.updEntry_pending (z : Nat) (f : List SirenRecord → List SirenRecord) (s : State) : (s.updEntry z f).pending = s.pending := rfl

/-! ## alertSent -/

@[simp] theorem State.alertSent_straps (z : Nat) (a : Byte) (s : State) : (s.alertSent z a).straps = s.straps := rfl
@[simp] theorem State.alertSent_rate (z : Nat) (a : Byte) (s : State) : (s.alertSent z a).rate = s.rate := rfl
@[simp] theorem State.alertSent_node (z : Nat) (a : Byte) (s : State) : (s.alertSent z a).node = s.node := rfl
@[simp] theorem State.alertSent_crestA (z : Nat) (a : Byte) (s : State) : (s.alertSent z a).crestA = s.crestA := rfl
@[simp] theorem State.alertSent_crestB (z : Nat) (a : Byte) (s : State) : (s.alertSent z a).crestB = s.crestB := rfl
@[simp] theorem State.alertSent_valley (z : Nat) (a : Byte) (s : State) : (s.alertSent z a).valley = s.valley := rfl
@[simp] theorem State.alertSent_time (z : Nat) (a : Byte) (s : State) : (s.alertSent z a).time = s.time := rfl
@[simp] theorem State.alertSent_stations (z : Nat) (a : Byte) (s : State) : (s.alertSent z a).stations = s.stations := rfl
@[simp] theorem State.alertSent_lanes (z : Nat) (a : Byte) (s : State) : (s.alertSent z a).lanes = s.lanes := rfl
@[simp] theorem State.alertSent_sectors (z : Nat) (a : Byte) (s : State) : (s.alertSent z a).sectors = s.sectors := rfl
@[simp] theorem State.alertSent_zones (z : Nat) (a : Byte) (s : State) : (s.alertSent z a).zones = s.zones := rfl
@[simp] theorem State.alertSent_outputs (z : Nat) (a : Byte) (s : State) : (s.alertSent z a).outputs = s.outputs := rfl
@[simp] theorem State.alertSent_notices (z : Nat) (a : Byte) (s : State) : (s.alertSent z a).notices = s.notices := rfl
@[simp] theorem State.alertSent_console (z : Nat) (a : Byte) (s : State) : (s.alertSent z a).console = s.console := rfl
@[simp] theorem State.alertSent_replies (z : Nat) (a : Byte) (s : State) : (s.alertSent z a).replies = s.replies := rfl
@[simp] theorem State.alertSent_lost (z : Nat) (a : Byte) (s : State) : (s.alertSent z a).lost = s.lost := rfl
@[simp] theorem State.alertSent_save (z : Nat) (a : Byte) (s : State) : (s.alertSent z a).save = s.save := rfl
@[simp] theorem State.alertSent_mode (z : Nat) (a : Byte) (s : State) : (s.alertSent z a).mode = s.mode := rfl
@[simp] theorem State.alertSent_store (z : Nat) (a : Byte) (s : State) : (s.alertSent z a).store = s.store := rfl
@[simp] theorem State.alertSent_cause (z : Nat) (a : Byte) (s : State) : (s.alertSent z a).cause = s.cause := rfl
@[simp] theorem State.alertSent_pending (z : Nat) (a : Byte) (s : State) : (s.alertSent z a).pending = s.pending := rfl

/-! ## orderAlerts -/

@[simp] theorem State.orderAlerts_straps (old : State) (s : State) : (s.orderAlerts old).straps = s.straps := rfl
@[simp] theorem State.orderAlerts_rate (old : State) (s : State) : (s.orderAlerts old).rate = s.rate := rfl
@[simp] theorem State.orderAlerts_node (old : State) (s : State) : (s.orderAlerts old).node = s.node := rfl
@[simp] theorem State.orderAlerts_crestA (old : State) (s : State) : (s.orderAlerts old).crestA = s.crestA := rfl
@[simp] theorem State.orderAlerts_crestB (old : State) (s : State) : (s.orderAlerts old).crestB = s.crestB := rfl
@[simp] theorem State.orderAlerts_valley (old : State) (s : State) : (s.orderAlerts old).valley = s.valley := rfl
@[simp] theorem State.orderAlerts_time (old : State) (s : State) : (s.orderAlerts old).time = s.time := rfl
@[simp] theorem State.orderAlerts_stations (old : State) (s : State) : (s.orderAlerts old).stations = s.stations := rfl
@[simp] theorem State.orderAlerts_lanes (old : State) (s : State) : (s.orderAlerts old).lanes = s.lanes := rfl
@[simp] theorem State.orderAlerts_sectors (old : State) (s : State) : (s.orderAlerts old).sectors = s.sectors := rfl
@[simp] theorem State.orderAlerts_zones (old : State) (s : State) : (s.orderAlerts old).zones = s.zones := rfl
@[simp] theorem State.orderAlerts_dispatch (old : State) (s : State) : (s.orderAlerts old).dispatch = { s.dispatch with queue := orderFresh old.dispatch.queue s.dispatch.queue } := rfl
@[simp] theorem State.orderAlerts_outputs (old : State) (s : State) : (s.orderAlerts old).outputs = s.outputs := rfl
@[simp] theorem State.orderAlerts_notices (old : State) (s : State) : (s.orderAlerts old).notices = s.notices := rfl
@[simp] theorem State.orderAlerts_console (old : State) (s : State) : (s.orderAlerts old).console = s.console := rfl
@[simp] theorem State.orderAlerts_replies (old : State) (s : State) : (s.orderAlerts old).replies = s.replies := rfl
@[simp] theorem State.orderAlerts_lost (old : State) (s : State) : (s.orderAlerts old).lost = s.lost := rfl
@[simp] theorem State.orderAlerts_save (old : State) (s : State) : (s.orderAlerts old).save = s.save := rfl
@[simp] theorem State.orderAlerts_mode (old : State) (s : State) : (s.orderAlerts old).mode = s.mode := rfl
@[simp] theorem State.orderAlerts_store (old : State) (s : State) : (s.orderAlerts old).store = s.store := rfl
@[simp] theorem State.orderAlerts_cause (old : State) (s : State) : (s.orderAlerts old).cause = s.cause := rfl
@[simp] theorem State.orderAlerts_pending (old : State) (s : State) : (s.orderAlerts old).pending = s.pending := rfl

/-! ## reevaluate -/

@[simp] theorem State.reevaluate_straps (old : State) (s : State) : (s.reevaluate old).straps = s.straps := rfl
@[simp] theorem State.reevaluate_rate (old : State) (s : State) : (s.reevaluate old).rate = s.rate := rfl
@[simp] theorem State.reevaluate_node (old : State) (s : State) : (s.reevaluate old).node = s.node := rfl
@[simp] theorem State.reevaluate_crestA (old : State) (s : State) : (s.reevaluate old).crestA = s.crestA := rfl
@[simp] theorem State.reevaluate_crestB (old : State) (s : State) : (s.reevaluate old).crestB = s.crestB := rfl
@[simp] theorem State.reevaluate_valley (old : State) (s : State) : (s.reevaluate old).valley = s.valley := rfl
@[simp] theorem State.reevaluate_time (old : State) (s : State) : (s.reevaluate old).time = s.time := rfl
@[simp] theorem State.reevaluate_stations (old : State) (s : State) : (s.reevaluate old).stations = s.stations := rfl
@[simp] theorem State.reevaluate_lanes (old : State) (s : State) : (s.reevaluate old).lanes = s.lanes := rfl
@[simp] theorem State.reevaluate_sectors (old : State) (s : State) : (s.reevaluate old).sectors = s.sectors := rfl
@[simp] theorem State.reevaluate_zones (old : State) (s : State) : (s.reevaluate old).zones = s.zones := rfl
@[simp] theorem State.reevaluate_dispatch (old : State) (s : State) : (s.reevaluate old).dispatch = s.dispatch := rfl
@[simp] theorem State.reevaluate_notices (old : State) (s : State) : (s.reevaluate old).notices = s.notices := rfl
@[simp] theorem State.reevaluate_console (old : State) (s : State) : (s.reevaluate old).console = s.console := rfl
@[simp] theorem State.reevaluate_replies (old : State) (s : State) : (s.reevaluate old).replies = s.replies := rfl
@[simp] theorem State.reevaluate_lost (old : State) (s : State) : (s.reevaluate old).lost = s.lost := rfl
@[simp] theorem State.reevaluate_save (old : State) (s : State) : (s.reevaluate old).save = s.save := rfl
@[simp] theorem State.reevaluate_mode (old : State) (s : State) : (s.reevaluate old).mode = s.mode := rfl
@[simp] theorem State.reevaluate_store (old : State) (s : State) : (s.reevaluate old).store = s.store := rfl
@[simp] theorem State.reevaluate_cause (old : State) (s : State) : (s.reevaluate old).cause = s.cause := rfl
@[simp] theorem State.reevaluate_pending (old : State) (s : State) : (s.reevaluate old).pending = s.pending := rfl

/-! ## evaluateAll -/

@[simp] theorem State.evaluateAll_straps (s : State) : (s.evaluateAll).straps = s.straps := rfl
@[simp] theorem State.evaluateAll_rate (s : State) : (s.evaluateAll).rate = s.rate := rfl
@[simp] theorem State.evaluateAll_node (s : State) : (s.evaluateAll).node = s.node := rfl
@[simp] theorem State.evaluateAll_crestA (s : State) : (s.evaluateAll).crestA = s.crestA := rfl
@[simp] theorem State.evaluateAll_crestB (s : State) : (s.evaluateAll).crestB = s.crestB := rfl
@[simp] theorem State.evaluateAll_valley (s : State) : (s.evaluateAll).valley = s.valley := rfl
@[simp] theorem State.evaluateAll_time (s : State) : (s.evaluateAll).time = s.time := rfl
@[simp] theorem State.evaluateAll_stations (s : State) : (s.evaluateAll).stations = s.stations := rfl
@[simp] theorem State.evaluateAll_lanes (s : State) : (s.evaluateAll).lanes = s.lanes := rfl
@[simp] theorem State.evaluateAll_sectors (s : State) : (s.evaluateAll).sectors = s.sectors := rfl
@[simp] theorem State.evaluateAll_zones (s : State) : (s.evaluateAll).zones = s.zones := rfl
@[simp] theorem State.evaluateAll_dispatch (s : State) : (s.evaluateAll).dispatch = s.dispatch := rfl
@[simp] theorem State.evaluateAll_outputs (s : State) : (s.evaluateAll).outputs = mapTable (Output.evaluate s) s.outputs := rfl
@[simp] theorem State.evaluateAll_notices (s : State) : (s.evaluateAll).notices = s.notices := rfl
@[simp] theorem State.evaluateAll_console (s : State) : (s.evaluateAll).console = s.console := rfl
@[simp] theorem State.evaluateAll_replies (s : State) : (s.evaluateAll).replies = s.replies := rfl
@[simp] theorem State.evaluateAll_lost (s : State) : (s.evaluateAll).lost = s.lost := rfl
@[simp] theorem State.evaluateAll_save (s : State) : (s.evaluateAll).save = s.save := rfl
@[simp] theorem State.evaluateAll_mode (s : State) : (s.evaluateAll).mode = s.mode := rfl
@[simp] theorem State.evaluateAll_store (s : State) : (s.evaluateAll).store = s.store := rfl
@[simp] theorem State.evaluateAll_cause (s : State) : (s.evaluateAll).cause = s.cause := rfl
@[simp] theorem State.evaluateAll_pending (s : State) : (s.evaluateAll).pending = s.pending := rfl

/-! ## originate -/

@[simp] theorem State.originate_straps (dst kind : Byte) (p : List Byte) (e : ReplyEffect) (s : State) : (s.originate dst kind p e).straps = s.straps := rfl
@[simp] theorem State.originate_rate (dst kind : Byte) (p : List Byte) (e : ReplyEffect) (s : State) : (s.originate dst kind p e).rate = s.rate := rfl
@[simp] theorem State.originate_node (dst kind : Byte) (p : List Byte) (e : ReplyEffect) (s : State) : (s.originate dst kind p e).node = s.node := rfl
@[simp] theorem State.originate_crestA (dst kind : Byte) (p : List Byte) (e : ReplyEffect) (s : State) : (s.originate dst kind p e).crestA = s.crestA := rfl
@[simp] theorem State.originate_crestB (dst kind : Byte) (p : List Byte) (e : ReplyEffect) (s : State) : (s.originate dst kind p e).crestB = s.crestB := rfl
@[simp] theorem State.originate_time (dst kind : Byte) (p : List Byte) (e : ReplyEffect) (s : State) : (s.originate dst kind p e).time = s.time := rfl
@[simp] theorem State.originate_stations (dst kind : Byte) (p : List Byte) (e : ReplyEffect) (s : State) : (s.originate dst kind p e).stations = s.stations := rfl
@[simp] theorem State.originate_lanes (dst kind : Byte) (p : List Byte) (e : ReplyEffect) (s : State) : (s.originate dst kind p e).lanes = s.lanes := rfl
@[simp] theorem State.originate_sectors (dst kind : Byte) (p : List Byte) (e : ReplyEffect) (s : State) : (s.originate dst kind p e).sectors = s.sectors := rfl
@[simp] theorem State.originate_zones (dst kind : Byte) (p : List Byte) (e : ReplyEffect) (s : State) : (s.originate dst kind p e).zones = s.zones := rfl
@[simp] theorem State.originate_dispatch (dst kind : Byte) (p : List Byte) (e : ReplyEffect) (s : State) : (s.originate dst kind p e).dispatch = s.dispatch := rfl
@[simp] theorem State.originate_outputs (dst kind : Byte) (p : List Byte) (e : ReplyEffect) (s : State) : (s.originate dst kind p e).outputs = s.outputs := rfl
@[simp] theorem State.originate_notices (dst kind : Byte) (p : List Byte) (e : ReplyEffect) (s : State) : (s.originate dst kind p e).notices = s.notices := rfl
@[simp] theorem State.originate_console (dst kind : Byte) (p : List Byte) (e : ReplyEffect) (s : State) : (s.originate dst kind p e).console = s.console := rfl
@[simp] theorem State.originate_replies (dst kind : Byte) (p : List Byte) (e : ReplyEffect) (s : State) : (s.originate dst kind p e).replies = s.replies := rfl
@[simp] theorem State.originate_lost (dst kind : Byte) (p : List Byte) (e : ReplyEffect) (s : State) : (s.originate dst kind p e).lost = s.lost := rfl
@[simp] theorem State.originate_save (dst kind : Byte) (p : List Byte) (e : ReplyEffect) (s : State) : (s.originate dst kind p e).save = s.save := rfl
@[simp] theorem State.originate_mode (dst kind : Byte) (p : List Byte) (e : ReplyEffect) (s : State) : (s.originate dst kind p e).mode = s.mode := rfl
@[simp] theorem State.originate_store (dst kind : Byte) (p : List Byte) (e : ReplyEffect) (s : State) : (s.originate dst kind p e).store = s.store := rfl
@[simp] theorem State.originate_cause (dst kind : Byte) (p : List Byte) (e : ReplyEffect) (s : State) : (s.originate dst kind p e).cause = s.cause := rfl
@[simp] theorem State.originate_pending (dst kind : Byte) (p : List Byte) (e : ReplyEffect) (s : State) : (s.originate dst kind p e).pending = s.pending := rfl

end Sys2Proof.Machine
end

