-- ==== Sys2Proof/Laws/Tables.lean ====
section
/-! SUPPORT. Tables: reading a place after a write, mapping a table, and taking indices in order. -/

namespace Sys2Proof.Machine

theorem mapTable_getElem? {α β : Type} {n : Nat} (f : α → β) (v : Vector α n) (i : Nat) :
    (mapTable f v)[i]? = (v[i]?).map f := by
  simp [mapTable, Vector.getElem?_mk]

theorem entryAt_mapEntries {α β : Type} {n : Nat} (f : α → β) (v : Vector (Option α) n) (i : Nat) :
    entryAt (mapEntries f v) i = (entryAt v i).map f := by
  unfold entryAt mapEntries
  rw [mapTable_getElem?]
  cases v[i]? <;> rfl

theorem entryAt_set_same {α : Type} {n : Nat} (v : Vector (Option α) n) (i : Nat) (x : Option α) (h : i < n) :
    entryAt (v.setIfInBounds i x) i = x := by
  simp [entryAt, h]

theorem entryAt_set_other {α : Type} {n : Nat} (v : Vector (Option α) n) (i j : Nat) (x : Option α) (h : i ≠ j) :
    entryAt (v.setIfInBounds i x) j = entryAt v j := by
  simp [entryAt, h]

theorem entryAt_none_of_le {α : Type} {n : Nat} (v : Vector (Option α) n) (i : Nat) (h : n ≤ i) :
    entryAt v i = none := by
  simp [entryAt, h]

theorem lt_of_entryAt {α : Type} {n : Nat} {v : Vector (Option α) n} {i : Nat} {x : α} (h : entryAt v i = some x) :
    i < n := by
  by_contra hn
  rw [entryAt_none_of_le v i (by omega)] at h
  cases h

theorem State.station_setStation_same (i : Nat) (x : Option Station) (s : State) (h : i < 16) :
    (s.setStation i x).station i = x :=
  entryAt_set_same _ _ _ h

theorem State.station_setStation_other (i j : Nat) (x : Option Station) (s : State) (h : i ≠ j) :
    (s.setStation i x).station j = s.station j :=
  entryAt_set_other _ _ _ _ h

theorem State.lane_setLane_same (i : Nat) (x : Option Lane) (s : State) (h : i < 32) :
    (s.setLane i x).lane i = x :=
  entryAt_set_same _ _ _ h

theorem State.lane_setLane_other (i j : Nat) (x : Option Lane) (s : State) (h : i ≠ j) :
    (s.setLane i x).lane j = s.lane j :=
  entryAt_set_other _ _ _ _ h

theorem State.sector_setSector_same (i : Nat) (x : Option Sector) (s : State) (h : i < 8) :
    (s.setSector i x).sector i = x :=
  entryAt_set_same _ _ _ h

theorem State.sector_setSector_other (i j : Nat) (x : Option Sector) (s : State) (h : i ≠ j) :
    (s.setSector i x).sector j = s.sector j :=
  entryAt_set_other _ _ _ _ h

theorem State.zone_setZone_same (i : Nat) (x : Option Zone) (s : State) (h : i < 12) :
    (s.setZone i x).zone i = x :=
  entryAt_set_same _ _ _ h

theorem State.zone_setZone_other (i j : Nat) (x : Option Zone) (s : State) (h : i ≠ j) :
    (s.setZone i x).zone j = s.zone j :=
  entryAt_set_other _ _ _ _ h

/-- What every step of a pass keeps, the whole pass keeps. -/
theorem eachBelow_keeps {P : State → Prop} {n : Nat} {f : Nat → State → State} {s : State}
    (step : ∀ i, i < n → ∀ t, P t → P (f i t)) (start : P s) : P (eachBelow n f s) := by
  unfold eachBelow
  have all : ∀ l : List Nat, (∀ i ∈ l, i < n) → ∀ t, P t → P (l.foldl (fun t i => f i t) t) := by
    intro l
    induction l with
    | nil => intro _ t ht; exact ht
    | cons a as ih =>
      intro hl t ht
      exact ih (fun i hi => hl i (List.mem_cons_of_mem a hi)) _ (step a (hl a List.mem_cons_self) t ht)
  exact all _ (fun i hi => List.mem_range.mp hi) s start

/-- What every step of a fold keeps, the whole fold keeps. -/
theorem foldl_keeps {α β : Type} {P : β → Prop} {f : β → α → β} (step : ∀ b a, P b → P (f b a)) :
    ∀ (l : List α) (b : β), P b → P (l.foldl f b)
  | [], _, h => h
  | a :: as, b, h => foldl_keeps step as (f b a) (step b a h)

end Sys2Proof.Machine
end

