-- ==== Sys2Proof/Laws/Layers.lean ====
section
/-! SUPPORT. What each shared operation may touch. The blocks of the part stand in layers, each handing on to the next:
ports and stations, lanes, sectors, zones with the Dispatch Queue, notices. An operation of a layer leaves alone every
field above it and every field outside the layers. -/

namespace Sys2Proof.Machine

/-! ## The layers -/

/-- Only the notice unit may differ. -/
def OnlyNotices (s t : State) : Prop :=
  t = { s with notices := t.notices }

/-- Only zones, the Dispatch Queue and the notice unit may differ. -/
def OnlyZones (s t : State) : Prop :=
  t = { s with zones := t.zones, dispatch := t.dispatch, notices := t.notices }

/-- Only sectors and what lies below them may differ. -/
def OnlySectors (s t : State) : Prop :=
  t = { s with sectors := t.sectors, zones := t.zones, dispatch := t.dispatch, notices := t.notices }

/-- Only lanes and what lies below them may differ. -/
def OnlyLanes (s t : State) : Prop :=
  t = { s with lanes := t.lanes, sectors := t.sectors, zones := t.zones, dispatch := t.dispatch, notices := t.notices }

/-- Only stations, the Valley port and what lies below them may differ. -/
def OnlyStations (s t : State) : Prop :=
  t = { s with stations := t.stations, valley := t.valley, lanes := t.lanes, sectors := t.sectors, zones := t.zones
               dispatch := t.dispatch, notices := t.notices }

theorem OnlyNotices.refl (s : State) : OnlyNotices s s := rfl
theorem OnlyZones.refl (s : State) : OnlyZones s s := rfl
theorem OnlySectors.refl (s : State) : OnlySectors s s := rfl
theorem OnlyLanes.refl (s : State) : OnlyLanes s s := rfl
theorem OnlyStations.refl (s : State) : OnlyStations s s := rfl

theorem OnlyNotices.trans {s t u : State} (h : OnlyNotices s t) (k : OnlyNotices t u) : OnlyNotices s u := by
  unfold OnlyNotices at *; rw [k, h]

theorem OnlyZones.trans {s t u : State} (h : OnlyZones s t) (k : OnlyZones t u) : OnlyZones s u := by
  unfold OnlyZones at *; rw [k, h]

theorem OnlySectors.trans {s t u : State} (h : OnlySectors s t) (k : OnlySectors t u) : OnlySectors s u := by
  unfold OnlySectors at *; rw [k, h]

theorem OnlyLanes.trans {s t u : State} (h : OnlyLanes s t) (k : OnlyLanes t u) : OnlyLanes s u := by
  unfold OnlyLanes at *; rw [k, h]

theorem OnlyStations.trans {s t u : State} (h : OnlyStations s t) (k : OnlyStations t u) : OnlyStations s u := by
  unfold OnlyStations at *; rw [k, h]

theorem OnlyNotices.zones {s t : State} (h : OnlyNotices s t) : OnlyZones s t := by
  unfold OnlyNotices at h; unfold OnlyZones; rw [h]

theorem OnlyZones.sectors {s t : State} (h : OnlyZones s t) : OnlySectors s t := by
  unfold OnlyZones at h; unfold OnlySectors; rw [h]

theorem OnlySectors.lanes {s t : State} (h : OnlySectors s t) : OnlyLanes s t := by
  unfold OnlySectors at h; unfold OnlyLanes; rw [h]

theorem OnlyLanes.stations {s t : State} (h : OnlyLanes s t) : OnlyStations s t := by
  unfold OnlyLanes at h; unfold OnlyStations; rw [h]

/-- A pass of operations of a layer is of that layer. -/
theorem OnlyZones.pass {n : Nat} {f : Nat → State → State} (step : ∀ i t, OnlyZones t (f i t)) (s : State) :
    OnlyZones s (eachBelow n f s) :=
  eachBelow_keeps (P := fun t => OnlyZones s t) (fun i _ t h => h.trans (step i t)) (OnlyZones.refl s)

theorem OnlySectors.pass {n : Nat} {f : Nat → State → State} (step : ∀ i t, OnlySectors t (f i t)) (s : State) :
    OnlySectors s (eachBelow n f s) :=
  eachBelow_keeps (P := fun t => OnlySectors s t) (fun i _ t h => h.trans (step i t)) (OnlySectors.refl s)

/-! ## Notices -/

theorem State.raise_layer (d : Detail) (s : State) : OnlyNotices s (s.raise d) := rfl

theorem State.lostSource_layer (i : Nat) (old : Option Lane) (why : SourceReason) (s : State) :
    OnlyNotices s (s.lostSource i old why) := by
  unfold State.lostSource
  split
  · exact OnlyNotices.refl s
  · exact s.raise_layer _

theorem State.raiseSilence_layer (i : Nat) (x : Station) (l : Liveness) (s : State) :
    OnlyNotices s (s.raiseSilence i x l) := rfl

/-! ## Zones and the Dispatch Queue -/

theorem State.setZone_layer (z : Nat) (x : Option Zone) (s : State) : OnlyZones s (s.setZone z x) := rfl
theorem State.removeEntry_layer (z : Nat) (s : State) : OnlyZones s (s.removeEntry z) := rfl

theorem State.updEntry_layer (z : Nat) (f : List SirenRecord → List SirenRecord) (s : State) :
    OnlyZones s (s.updEntry z f) := rfl

theorem State.alertSent_layer (z : Nat) (a : Byte) (s : State) : OnlyZones s (s.alertSent z a) := rfl

theorem State.alertRaised_layer (z : Nat) (s : State) : OnlyZones s (s.alertRaised z) := by
  unfold State.alertRaised
  split <;> rfl

theorem State.refreshDue_layer (z : Nat) (s : State) : OnlyZones s (s.refreshDue z) := by
  unfold State.refreshDue
  split <;> rfl

theorem State.takeAck_layer (a : Byte) (p : List Byte) (s : State) : OnlyZones s (s.takeAck a p) := by
  unfold State.takeAck
  repeat' split
  all_goals rfl

theorem State.stageChanged_layer (z : Nat) (old : Stage) (b : Bool) (x : Zone) (s : State) :
    OnlyZones s (s.stageChanged z old b x) := by
  unfold State.stageChanged
  dsimp only
  split
  · exact OnlyZones.trans (t := (s.setZone z _).raise _) rfl (State.alertRaised_layer z _)
  · rfl

theorem State.evaluateZone_layer (z : Nat) (s : State) : OnlyZones s (s.evaluateZone z) := by
  unfold State.evaluateZone
  split
  · exact OnlyZones.refl s
  · dsimp only
    split
    · exact State.stageChanged_layer _ _ _ _ _
    · split <;> rfl

theorem State.holdEnds_layer (z : Nat) (s : State) : OnlyZones s (s.holdEnds z) := by
  unfold State.holdEnds
  split
  · exact OnlyZones.refl s
  · exact State.stageChanged_layer _ _ _ _ _

theorem State.setForce_layer (z : Nat) (f : Option Force) (s : State) : OnlyZones s (s.setForce z f) := by
  unfold State.setForce
  split
  · exact OnlyZones.refl s
  · exact OnlyZones.trans (s.setZone_layer z _) (State.evaluateZone_layer z _)

theorem State.refreshRunsOut_layer (z : Nat) (s : State) : OnlyZones s (s.refreshRunsOut z) := by
  unfold State.refreshRunsOut
  split
  · exact OnlyZones.refl s
  · exact OnlyZones.trans (s.setZone_layer z _) (State.refreshDue_layer z _)

theorem State.announce_layer (z : Nat) (s : State) : OnlyZones s (s.announce z) := by
  unfold State.announce
  split
  · exact OnlyZones.refl s
  · split
    · exact OnlyZones.refl s
    · exact OnlyZones.trans (s.setZone_layer z _) (State.alertRaised_layer z _)

theorem State.sectorChange_layer (i : Nat) (s : State) : OnlyZones s (s.sectorChange i) := by
  unfold State.sectorChange
  apply OnlyZones.pass
  intro z t
  split
  · split
    · exact State.evaluateZone_layer z t
    · exact OnlyZones.refl t
  · exact OnlyZones.refl t

theorem State.followZoneWrite_layer (z : Nat) (c : ZoneConfig) (s : State) : OnlyZones s (s.followZoneWrite z c) := by
  unfold State.followZoneWrite
  split
  · exact OnlyZones.refl s
  · exact foldl_keeps (P := fun t => OnlyZones s t) (fun t d h => h.trans (t.raise_layer d).zones) _ _
      (s.updEntry_layer z _)

theorem State.writeZone_layer (z : Nat) (c : ZoneConfig) (s : State) : OnlyZones s (s.writeZone z c) := by
  have h : ∀ x, OnlyZones s (((s.setZone z x).followZoneWrite z c).evaluateZone z) := fun x =>
    ((s.setZone_layer z x).trans (State.followZoneWrite_layer z c _)).trans (State.evaluateZone_layer z _)
  unfold State.writeZone
  dsimp only
  split
  · exact h _
  · exact (h _).trans (State.setZone_layer z _ _)

theorem State.clearZoneEntry_layer (z : Nat) (s : State) : OnlyZones s (s.clearZoneEntry z) := rfl

/-! ## Sectors -/

theorem OnlySectors.withZones (s : State) (v : Vector (Option Zone) 12) : OnlySectors s { s with zones := v } := rfl

theorem OnlySectors.withSectors (s : State) (v : Vector (Option Sector) 8) : OnlySectors s { s with sectors := v } := rfl

theorem State.setSector_layer (i : Nat) (x : Option Sector) (s : State) : OnlySectors s (s.setSector i x) := rfl

theorem State.putSector_layer (i : Nat) (x : Option Sector) (s : State) : OnlySectors s (s.putSector i x) := by
  unfold State.putSector
  split
  · rfl
  · exact OnlySectors.trans (s.setSector_layer i x) (State.sectorChange_layer i _).sectors

theorem State.updSector_layer (i : Nat) (f : Sector → Sector) (s : State) : OnlySectors s (s.updSector i f) := by
  unfold State.updSector
  split
  · exact OnlySectors.refl s
  · split
    · exact OnlySectors.refl s
    · exact s.putSector_layer i _

theorem State.laneUpdate_layer (i : Nat) (s : State) : OnlySectors s (s.laneUpdate i) :=
  s.updSector_layer i _

theorem State.laneUpdates_layer (l : List Nat) (s : State) : OnlySectors s (s.laneUpdates l) := by
  unfold State.laneUpdates
  apply OnlySectors.pass
  intro i t
  split
  · split
    · exact t.laneUpdate_layer i
    · exact OnlySectors.refl t
  · exact OnlySectors.refl t

theorem State.tripHandoff_layer (i : Nat) (s : State) : OnlySectors s (s.tripHandoff i) := by
  unfold State.tripHandoff
  exact OnlySectors.pass (fun j t => t.updSector_layer j _) s

theorem State.pulseReport_layer (i : Nat) (c : List (Option Nat)) (s : State) : OnlySectors s (s.pulseReport i c) := by
  unfold State.pulseReport
  exact OnlySectors.pass (fun j t => t.updSector_layer j _) s

theorem State.tripAt_layer (k : Nat) (a : Byte) (ws : List WireState) (i : Nat) (s : State) :
    OnlySectors s (s.tripAt k a ws i) := by
  unfold State.tripAt
  split
  · exact OnlySectors.refl s
  · split
    · exact OnlySectors.refl s
    · split
      · exact s.updSector_layer i _
      · exact OnlySectors.trans (s.raise_layer _).zones.sectors (State.updSector_layer i _ _)

theorem State.tripReport_layer (k : Nat) (a : Byte) (ws : List WireState) (s : State) :
    OnlySectors s (s.tripReport k a ws) := by
  unfold State.tripReport
  exact OnlySectors.pass (fun j t => t.tripAt_layer k a ws j) s

theorem State.clearLatch_layer (i : Nat) (s : State) : OnlySectors s (s.clearLatch i) := by
  unfold State.clearLatch
  split
  · exact OnlySectors.refl s
  · split
    · exact s.putSector_layer i _
    · exact OnlySectors.refl s

theorem State.writeSector_layer (i : Nat) (c : SectorConfig) (s : State) : OnlySectors s (s.writeSector i c) :=
  s.putSector_layer i _

theorem State.parkSectorEntry_layer (i : Nat) (x : Sector) (s : State) : OnlySectors s (s.parkSectorEntry i x) := by
  unfold State.parkSectorEntry
  split
  · exact OnlySectors.refl s
  · exact s.putSector_layer i _

theorem State.unparkSectorEntry_layer (i : Nat) (x : Sector) (s : State) :
    OnlySectors s (s.unparkSectorEntry i x) := by
  unfold State.unparkSectorEntry
  split
  · exact s.putSector_layer i _
  · exact OnlySectors.refl s

theorem State.sectorMinute_layer (i : Nat) (s : State) : OnlySectors s (s.sectorMinute i) :=
  s.updSector_layer i _

theorem State.minuteEvent_layer (s : State) : OnlySectors s s.minuteEvent := by
  have h : OnlySectors s (eachBelow 8 State.sectorMinute s) := OnlySectors.pass (fun i t => t.sectorMinute_layer i) s
  unfold State.minuteEvent
  exact h.trans (OnlySectors.withZones _ _)

theorem State.restartSectors_layer (s : State) : OnlySectors s s.restartSectors := by
  unfold State.restartSectors
  refine OnlySectors.trans (OnlySectors.withSectors s _) (OnlySectors.pass (fun i t => ?_) _)
  split
  · exact OnlySectors.refl t
  · exact (t.sectorChange_layer i).sectors

/-! ## Lanes -/

theorem State.setLane_layer (i : Nat) (x : Option Lane) (s : State) : OnlyLanes s (s.setLane i x) := rfl

theorem State.laneEvent_layer (k : Nat) (f : Lane → LaneStep) (s : State) : OnlyLanes s (s.laneEvent k f) := by
  unfold State.laneEvent
  dsimp only
  have h := foldl_keeps (P := fun t => OnlyLanes s t)
    (fun t (w : Nat × Lane × LaneStep) h => h.trans (t.setLane_layer w.1 (some w.2.2.lane)))
    (settledLanes s k f) s (OnlyLanes.refl s)
  exact foldl_keeps (P := fun t => OnlyLanes s t) (fun t d h => h.trans (t.raise_layer d).zones.sectors.lanes) _ _
    (h.trans (State.laneUpdates_layer _ _).lanes)

theorem State.sweepArrival_layer (k : Nat) (s : State) : OnlyLanes s (s.sweepArrival k) :=
  s.laneEvent_layer k _

theorem State.lanesSilent_layer (k : Nat) (s : State) : OnlyLanes s (s.lanesSilent k) :=
  s.laneEvent_layer k _

theorem State.lanesWithdrawn_layer (k : Nat) (s : State) : OnlyLanes s (s.lanesWithdrawn k) :=
  s.laneEvent_layer k _

theorem State.writeLane_layer (i : Nat) (c : LaneConfig) (s : State) : OnlyLanes s (s.writeLane i c) :=
  ((s.setLane_layer i _).trans (State.laneUpdates_layer _ _).lanes).trans
    (State.lostSource_layer _ _ _ _).zones.sectors.lanes

theorem State.clearLaneEntry_layer (i : Nat) (s : State) : OnlyLanes s (s.clearLaneEntry i) := by
  unfold State.clearLaneEntry
  split
  · exact OnlyLanes.refl s
  · exact ((s.setLane_layer i _).trans (State.laneUpdates_layer _ _).lanes).trans
      (State.lostSource_layer _ _ _ _).zones.sectors.lanes

/-! ## Stations -/

theorem State.setStation_layer (i : Nat) (x : Option Station) (s : State) : OnlyStations s (s.setStation i x) := rfl

theorem State.countStation_layer (i : Nat) (f : StationCounts → StationCounts) (s : State) :
    OnlyStations s (s.countStation i f) := by
  unfold State.countStation
  split <;> rfl

theorem State.appendForward_layer (f : Frame) (s : State) : OnlyStations s (s.appendForward f) := by
  unfold State.appendForward
  split
  · rfl
  · split <;> rfl

theorem State.handReport_layer (i : Nat) (a : Byte) (c : Option Contents) (s : State) :
    OnlyLanes s (s.handReport i a c) := by
  unfold State.handReport
  split
  · exact OnlyLanes.refl s
  · exact s.sweepArrival_layer i
  · exact (s.pulseReport_layer i _).lanes
  · exact (s.tripReport_layer i a _).lanes

theorem State.divideForward_layer (i : Nat) (f : Frame) (s : State) : OnlyStations s (s.divideForward i f) := by
  unfold State.divideForward
  split
  · exact OnlyStations.refl s
  · split
    · exact OnlyStations.refl s
    · split
      · exact OnlyStations.trans (s.setStation_layer i _) (State.appendForward_layer f _)
      · exact s.setStation_layer i _

theorem State.acceptFrame_layer (i : Nat) (x : Station) (m : Nat) (f : Frame) (s : State) :
    OnlyStations s (s.acceptFrame i x m f) := by
  unfold State.acceptFrame
  dsimp only
  refine OnlyStations.trans ?_ (State.divideForward_layer i f _)
  refine OnlyStations.trans ?_ (State.handReport_layer i x.cfg.addr _ _).stations
  have h : ∀ y, OnlyStations s ((if x.live = .silent then s.raiseSilence i x .live else s).setStation i y) := by
    intro y
    split
    · exact (s.raiseSilence_layer i x .live).zones.sectors.lanes.stations.trans (State.setStation_layer i y _)
    · exact s.setStation_layer i y
  split
  · exact h _
  · exact (h _).trans (State.tripHandoff_layer i _).lanes.stations

theorem State.stationFrame_layer (i : Nat) (x : Station) (f : Frame) (s : State) :
    OnlyStations s (s.stationFrame i x f) := by
  unfold State.stationFrame
  split
  · exact s.countStation_layer _ _
  · exact s.countStation_layer _ _
  · exact s.acceptFrame_layer _ _ _ _

theorem State.handWithdrawn_layer (i : Nat) (s : State) : OnlyLanes s (s.handWithdrawn i) :=
  (s.lanesWithdrawn_layer i).trans (State.tripHandoff_layer _ _).lanes

theorem State.stationSilent_layer (i : Nat) (x : Station) (s : State) : OnlyStations s (s.stationSilent i x) :=
  (((s.raiseSilence_layer i x .silent).zones.sectors.lanes.stations.trans (State.setStation_layer i _ _)).trans
    (State.lanesSilent_layer i _).stations).trans (State.tripHandoff_layer i _).lanes.stations

theorem State.writeStation_layer (i : Nat) (c : StationConfig) (s : State) : OnlyStations s (s.writeStation i c) :=
  (s.setStation_layer i _).trans (State.handWithdrawn_layer _ _).stations

theorem State.clearStationEntry_layer (i : Nat) (s : State) : OnlyStations s (s.clearStationEntry i) := by
  unfold State.clearStationEntry
  split
  · exact OnlyStations.refl s
  · exact (s.setStation_layer i _).trans (State.handWithdrawn_layer _ _).stations

theorem State.parkStationEntry_layer (i : Nat) (s : State) : OnlyStations s (s.parkStationEntry i) := by
  unfold State.parkStationEntry
  split
  · exact OnlyStations.refl s
  · split
    · exact OnlyStations.refl s
    · exact (s.setStation_layer i _).trans (State.handWithdrawn_layer _ _).stations

theorem State.unparkStationEntry_layer (i : Nat) (s : State) : OnlyStations s (s.unparkStationEntry i) := by
  unfold State.unparkStationEntry
  split
  · exact OnlyStations.refl s
  · split
    · exact (s.setStation_layer i _).trans (State.tripHandoff_layer _ _).lanes.stations
    · exact OnlyStations.refl s

end Sys2Proof.Machine
end

