-- ==== Sys2Proof/Laws/Settling.lean ====
section
/-! SUPPORT. Settling: what every running out keeps, settling keeps; where nothing has run out, it does nothing. -/

namespace Sys2Proof.Machine

/-! ## What settling keeps -/

/-- What one running out that has come keeps, settling keeps. -/
theorem State.settle_keeps {P : State → Prop}
    (one : ∀ (t : State) (r : RunningOut), t.due r = true → P t → P (State.finish t (t.runOut r)))
    {s : State} (start : P s) : P s.settle := by
  unfold State.settle
  refine foldl_keeps (fun t r h => ?_) _ s start
  unfold State.settleOne
  split
  · exact one t r ‹_› h
  · exact h

/-! ## The rows of the runnings out -/

/-- The row of a running out. -/
def RunningOut.row : RunningOut → Instr
  | .onTime k => .cadenceOnTimeReached k
  | .cycle k => .cycleBoundary k
  | .silence i => .silenceCountdownExpiry i
  | .blind i => .blindCountdownExpiry i
  | .bin i => .binAdvance i
  | .again z a => .repeatCountdownExpiry z a
  | .status => .statusCountdownExpiry
  | .force z => .forceExpiry z
  | .hold z => .endOfHold z
  | .refresh z => .refreshExpiry z

theorem RunningOut.row_runsOut (r : RunningOut) : r.row.runsOut = true := by
  cases r <;> rfl

/-- The row of a running out takes it, and ends as every event ends. -/
theorem exec_row (r : RunningOut) (s : State) : exec r.row s = .next (State.finish s (s.runOut r)) := by
  cases r <;> rfl

/-- One step of settling is the row of the running out, if it has come. -/
theorem exec_row_of_due {r : RunningOut} {s : State} (h : s.due r = true) : exec r.row s = .next (s.settleOne r) := by
  unfold State.settleOne
  rw [if_pos h, exec_row]

/-! ## Where nothing has run out -/

theorem State.settle_of_none_due {s : State} (h : ∀ r, s.due r = false) : s.settle = s := by
  unfold State.settle
  refine foldl_keeps (P := fun t => t = s) (fun t r e => ?_) _ s rfl
  rw [e]
  unfold State.settleOne
  rw [h r]
  rfl

theorem Output.not_onTimeDue {o : Output}
    (h : ∀ c ∈ o.cadence, ∀ p ∈ o.phase, p < c.cycle ∧ (o.closed = true → p < c.onTime)) : o.onTimeDue = false := by
  unfold Output.onTimeDue
  split
  · rename_i c p hc hp
    have k := (h c (by simp [hc]) p (by simp [hp])).2
    cases ho : o.closed
    · rfl
    · have := k ho
      simp only [Bool.true_and, decide_eq_false_iff_not]
      omega
  · rfl

theorem Output.not_cycleDue {o : Output}
    (h : ∀ c ∈ o.cadence, ∀ p ∈ o.phase, p < c.cycle ∧ (o.closed = true → p < c.onTime)) : o.cycleDue = false := by
  unfold Output.cycleDue
  split
  · rename_i c p hc hp
    have := (h c (by simp [hc]) p (by simp [hp])).1
    simp only [decide_eq_false_iff_not]
    omega
  · rfl

theorem State.output_range {s : State} {k : Nat} {o : Output} (h : s.output k = some o) : 1 ≤ k ∧ k ≤ 6 := by
  unfold State.output at h
  split at h
  · cases h
  · have := Vector.getElem?_eq_some_iff.mp h
    obtain ⟨hk, _⟩ := this
    omega

theorem Settled.none_due {s : State} (h : Settled s) (r : RunningOut) : s.due r = false := by
  obtain ⟨outs, stations, sectors, records, status, zones⟩ := h
  unfold State.due
  cases r with
  | onTime k =>
    cases ho : s.output k with
    | none => simp [ho]
    | some o =>
      have hk := State.output_range ho
      simpa [ho] using Output.not_onTimeDue (outs k hk.1 hk.2 o (by simp [ho]))
  | cycle k =>
    cases ho : s.output k with
    | none => simp [ho]
    | some o =>
      have hk := State.output_range ho
      simpa [ho] using Output.not_cycleDue (outs k hk.1 hk.2 o (by simp [ho]))
  | silence i =>
    cases hx : s.station i with
    | none => simp [hx]
    | some x => simpa [hx] using stations i (lt_of_entryAt hx) x (by simp [hx])
  | blind i =>
    cases hx : s.sector i with
    | none => simp [hx]
    | some x => simpa [hx] using fun hp => (sectors i (lt_of_entryAt hx) x (by simp [hx]) hp).1
  | bin i =>
    cases hx : s.sector i with
    | none => simp [hx]
    | some x => simpa [hx] using fun hp => (sectors i (lt_of_entryAt hx) x (by simp [hx]) hp).2
  | again z a =>
    unfold State.ranOut
    simp only [Option.isSome_eq_false_iff, Option.isNone_iff_eq_none, Option.bind_eq_none_iff]
    intro e he r hr
    have me : e ∈ s.dispatch.queue := by unfold entryOf at he; exact List.mem_of_find?_eq_some he
    rw [if_neg (records e me r (List.mem_of_find?_eq_some hr))]
  | status => simpa using status
  | force z =>
    cases hx : s.zone z with
    | none => simp [hx]
    | some x =>
      have k := (zones z (lt_of_entryAt hx) x (by simp [hx])).1
      cases hf : x.force with
      | none => simp [hx, Zone.forceOut, hf]
      | some f => simpa [hx, Zone.forceOut, hf] using k f (by simp [hf])
  | hold z =>
    cases hx : s.zone z with
    | none => simp [hx]
    | some x => simp [hx, (zones z (lt_of_entryAt hx) x (by simp [hx])).2.1]
  | refresh z =>
    cases hx : s.zone z with
    | none => simp [hx]
    | some x => simp [hx, (zones z (lt_of_entryAt hx) x (by simp [hx])).2.2]

/-- Where nothing has run out, settling does nothing. -/
theorem State.settle_settled {s : State} (h : Settled s) : s.settle = s :=
  State.settle_of_none_due h.none_due

/-- Where nothing has run out, an event's step is its effect, ended as every event ends. -/
theorem eventStep_settled {s : State} (h : Settled s) (f : State → State) : eventStep f s = .next (State.finish s (f s)) := by
  unfold eventStep
  rw [State.settle_settled h]

end Sys2Proof.Machine
end

