-- ==== Sys2Proof/Laws/EventEnd.lean ====
section
/-! SUPPORT. The end of an event: what the ordering of alerts, the outputs and the transmitters may touch, and when
there is nothing for them to do. -/

namespace Sys2Proof.Machine

/-! ## The transmitters -/

/-- Only what a taking may touch differs: ports, queues, the Dispatch Queue's records, the outgoing list. -/
def OnlyTakings (s t : State) : Prop :=
  t = { s with crestA := t.crestA, crestB := t.crestB, valley := t.valley, dispatch := t.dispatch
               notices := t.notices, replies := t.replies }

theorem OnlyTakings.refl (s : State) : OnlyTakings s s := rfl

theorem OnlyTakings.trans {s t u : State} (h : OnlyTakings s t) (k : OnlyTakings t u) : OnlyTakings s u := by
  unfold OnlyTakings at *; rw [k, h]

theorem State.takeValley_takings (s : State) : OnlyTakings s s.takeValley := by
  unfold State.takeValley
  repeat' split
  · rfl
  · rfl
  · unfold State.takeNotice
    dsimp only
    split <;> rfl
  · rfl
  · rfl

theorem State.kickValley_takings (s : State) : OnlyTakings s s.kickValley := by
  unfold State.kickValley
  split
  · exact OnlyTakings.refl s
  · exact s.takeValley_takings

theorem State.kickCrest_takings (d : Side) (s : State) : OnlyTakings s (s.kickCrest d) := by
  cases d <;> rfl

theorem State.kick_takings (s : State) : OnlyTakings s s.kick :=
  ((s.kickCrest_takings .a).trans (State.kickCrest_takings .b _)).trans (State.kickValley_takings _)

/-! ## Outputs and the order of alerts -/

theorem orderFresh_self (q : List Entry) : orderFresh q q = q := by
  have stood : ∀ e ∈ q, stoodBefore q e = true := by
    intro e he
    unfold stoodBefore
    rw [List.any_eq_true]
    exact ⟨e, he, by simp⟩
  have kept : q.filter (stoodBefore q) = q := List.filter_eq_self.mpr stood
  have fresh : q.filter (fun e => !stoodBefore q e) = [] := by
    rw [List.filter_eq_nil_iff]
    intro e he
    simp [stood e he]
  unfold orderFresh
  rw [kept, fresh]
  rfl

theorem mapTable_self {α : Type} {n : Nat} (f : α → α) (v : Vector α n) (h : ∀ x, f x = x) : mapTable f v = v := by
  apply Vector.toList_inj.mp
  simp [mapTable, funext h]

theorem State.orderAlerts_same {s t : State} (h : t.dispatch.queue = s.dispatch.queue) : t.orderAlerts s = t := by
  unfold State.orderAlerts
  rw [← h, orderFresh_self]

theorem State.reevaluate_same {s t : State} (h : ∀ c, watched s c = watched t c) : t.reevaluate s = t := by
  have same : ∀ o : Output, (if watched s o.cfg = watched t o.cfg then o else o.evaluate t) = o :=
    fun o => if_pos (h o.cfg)
  unfold State.reevaluate
  rw [mapTable_self _ _ same]

/-- What a re-evaluation reads: zones, sectors, two notice flags and the mode. -/
theorem watched_congr {s t : State} (hz : t.zones = s.zones) (hx : t.sectors = s.sectors)
    (hd : t.notices.delivery.flag = s.notices.delivery.flag) (hf : t.notices.fault.flag = s.notices.fault.flag)
    (hm : t.mode = s.mode) (c : OutputConfig) : watched s c = watched t c := by
  have e1 : ∀ i, s.zone i = t.zone i := fun i => by unfold State.zone; rw [hz]
  have e2 : ∀ i, s.sector i = t.sector i := fun i => by unfold State.sector; rw [hx]
  have src : sourceStage s c = sourceStage t c := by unfold sourceStage; rw [e1, e2]
  have any : ∀ p, s.anySector p = t.anySector p := fun p => by
    unfold State.anySector
    congr 1
    funext i
    rw [e2]
  unfold watched conditionOf
  rw [src, any, any, hd, hf, hm]

/-- An event that touches neither the Dispatch Queue nor anything an output reads ends with the takings alone. -/
theorem State.finish_eq_kick {s t : State} (hq : t.dispatch.queue = s.dispatch.queue) (hz : t.zones = s.zones)
    (hx : t.sectors = s.sectors) (hd : t.notices.delivery.flag = s.notices.delivery.flag)
    (hf : t.notices.fault.flag = s.notices.fault.flag) (hm : t.mode = s.mode) : State.finish s t = t.kick := by
  unfold State.finish
  rw [State.orderAlerts_same hq, State.reevaluate_same (watched_congr hz hx hd hf hm)]

theorem State.finish_self (s : State) : State.finish s s = s.kick :=
  State.finish_eq_kick rfl rfl rfl rfl rfl rfl

/-- The end of an event touches only outputs and what a taking may touch. -/
theorem State.finish_fields (old s : State) :
    State.finish old s = { s with
      crestA := (State.finish old s).crestA, crestB := (State.finish old s).crestB
      valley := (State.finish old s).valley, dispatch := (State.finish old s).dispatch
      notices := (State.finish old s).notices, replies := (State.finish old s).replies
      outputs := (State.finish old s).outputs } := by
  have h := State.kick_takings ((s.orderAlerts old).reevaluate old)
  unfold OnlyTakings at h
  unfold State.finish
  rw [h]
  rfl

/-! ## Settling -/

/-- Only what a running out may touch differs: not the straps and what they gave, the time base, the console list, the
mode, the Table Store, the reset cause record, the count of lost commands or the waiting queue. -/
def OnlyRunningsOut (s t : State) : Prop :=
  t = { s with crestA := t.crestA, crestB := t.crestB, valley := t.valley, stations := t.stations, lanes := t.lanes
               sectors := t.sectors, zones := t.zones, dispatch := t.dispatch, outputs := t.outputs
               notices := t.notices, replies := t.replies }

theorem OnlyRunningsOut.refl (s : State) : OnlyRunningsOut s s := rfl

theorem OnlyRunningsOut.trans {s t u : State} (h : OnlyRunningsOut s t) (k : OnlyRunningsOut t u) :
    OnlyRunningsOut s u := by
  unfold OnlyRunningsOut at *; rw [k, h]

theorem OnlyStations.runningsOut {s t : State} (h : OnlyStations s t) : OnlyRunningsOut s t := by
  unfold OnlyStations at h; unfold OnlyRunningsOut; rw [h]

theorem State.finish_runningsOut (old s : State) : OnlyRunningsOut s (State.finish old s) := by
  have h := State.finish_fields old s
  unfold OnlyRunningsOut
  rw [h]

theorem State.updOutput_runningsOut (k : Nat) (f : Output → Output) (s : State) :
    OnlyRunningsOut s (s.updOutput k f) := by
  unfold State.updOutput
  split <;> rfl

theorem State.takeRepeat_layer (z : Nat) (a : Byte) (s : State) : OnlyZones s (s.takeRepeat z a) := by
  unfold State.takeRepeat
  split
  · exact OnlyZones.refl s
  · dsimp only
    split <;> rfl

/-- What one running out may touch. -/
theorem State.runOut_runningsOut (r : RunningOut) (s : State) : OnlyRunningsOut s (s.runOut r) := by
  unfold State.runOut
  split
  · exact s.updOutput_runningsOut _ _
  · exact s.updOutput_runningsOut _ _
  · unfold State.takeSilence
    repeat' split
    · exact OnlyRunningsOut.refl s
    · exact (s.stationSilent_layer _ _).runningsOut
    · exact OnlyRunningsOut.refl s
  · exact (s.updSector_layer _ _).lanes.stations.runningsOut
  · exact (s.updSector_layer _ _).lanes.stations.runningsOut
  · exact (s.takeRepeat_layer _ _).sectors.lanes.stations.runningsOut
  · unfold State.takeStatus
    split <;> rfl
  · unfold State.takeForce
    repeat' split
    · exact OnlyRunningsOut.refl s
    · exact (s.setForce_layer _ _).sectors.lanes.stations.runningsOut
    · exact OnlyRunningsOut.refl s
  · unfold State.takeHold
    repeat' split
    · exact OnlyRunningsOut.refl s
    · exact (s.holdEnds_layer _).sectors.lanes.stations.runningsOut
    · exact OnlyRunningsOut.refl s
  · unfold State.takeRefresh
    repeat' split
    · exact OnlyRunningsOut.refl s
    · exact (s.refreshRunsOut_layer _).sectors.lanes.stations.runningsOut
    · exact OnlyRunningsOut.refl s

/-- What settling may touch. -/
theorem State.settle_runningsOut (s : State) : OnlyRunningsOut s s.settle :=
  State.settle_keeps (P := fun t => OnlyRunningsOut s t)
    (fun t r _ h => (h.trans (t.runOut_runningsOut r)).trans (State.finish_runningsOut t _)) (OnlyRunningsOut.refl s)

@[simp] theorem State.settle_straps (s : State) : s.settle.straps = s.straps := by rw [s.settle_runningsOut]
@[simp] theorem State.settle_rate (s : State) : s.settle.rate = s.rate := by rw [s.settle_runningsOut]
@[simp] theorem State.settle_node (s : State) : s.settle.node = s.node := by rw [s.settle_runningsOut]
@[simp] theorem State.settle_time (s : State) : s.settle.time = s.time := by rw [s.settle_runningsOut]
@[simp] theorem State.settle_console (s : State) : s.settle.console = s.console := by rw [s.settle_runningsOut]
@[simp] theorem State.settle_lost (s : State) : s.settle.lost = s.lost := by rw [s.settle_runningsOut]
@[simp] theorem State.settle_save (s : State) : s.settle.save = s.save := by rw [s.settle_runningsOut]
@[simp] theorem State.settle_mode (s : State) : s.settle.mode = s.mode := by rw [s.settle_runningsOut]
@[simp] theorem State.settle_store (s : State) : s.settle.store = s.store := by rw [s.settle_runningsOut]
@[simp] theorem State.settle_cause (s : State) : s.settle.cause = s.cause := by rw [s.settle_runningsOut]
@[simp] theorem State.settle_pending (s : State) : s.settle.pending = s.pending := by rw [s.settle_runningsOut]

/-! ## Commands -/

/-- A command that is admitted is answered by its body (R140, R141). -/
theorem State.takeCommand_admitted {c : Command} {body : State → Verdict} {src tag : Byte} {args : List Byte} {s : State}
    (h : Admitted c src args s) : s.takeCommand c body src tag args = s.answer src c.code tag (body s) := by
  obtain ⟨place, length, permission, idle, mode⟩ := h
  have none : earlyRefusal c src args s = none := by
    unfold earlyRefusal lengthOk
    have p : (!isReading c && !s.console.isEmpty && decide (src ∉ s.console)) = false := by
      rcases permission with h | h | h <;> simp [h]
    have b : (!isReading c && s.save.isSome) = false := by
      rcases idle with h | h <;> simp [h]
    rw [p, b, mode]
    simp [length]
  unfold State.takeCommand
  rw [if_neg (by omega), none]

/-- The step of a command that is admitted once what has run out is taken. -/
theorem commandStep_admitted {c : Command} {body : State → Verdict} {src tag : Byte} {args : List Byte} {s : State}
    (h : Admitted c src args s.settle) :
    commandStep c body src tag args s =
      .next (State.finish s.settle (s.settle.answer src c.code tag (body s.settle))) := by
  unfold commandStep eventStep
  rw [State.takeCommand_admitted h]

end Sys2Proof.Machine
end

