-- ==== Sys2Proof/WellFormed.lean ====
section
/-! DEFINITION. What a command must satisfy to be one the spec describes: indices in range, a frame that fits
its LEN byte, an argument block that fits a COMMAND frame, a sender that passes R7. -/

namespace Sys2Proof

/-- The fields of a frame that the framing itself bounds: a payload of 0 to 56 bytes (R203). -/
def Frame.wf (f : Frame) : Bool :=
  decide (f.payload.length ≤ 56)

/-- A command as it can reach the command unit: SRC from 1 to 254 (R7), and code, tag and arguments in
the 56 bytes of a payload (R207). -/
def commandWf (src : Byte) (args : List Byte) : Bool :=
  decide (src ≠ 0) && decide (src ≠ 255) && decide (args.length ≤ 54)

/-- The operands of a step are ones the spec gives it. -/
def Instr.wf : Instr → Bool
  | .powerOn => true
  | .lineReset => true
  | .idleGap _ => true
  | .brokenCharacter _ => true
  | .oversizeError _ len => decide (len.toNat < 4 ∨ 60 < len.toNat)
  | .frameReceived _ f => f.wf
  | .transmitCompletion _ => true
  | .tenthTick => true
  | .cadenceOnTimeReached k => decide (1 ≤ k ∧ k ≤ 6)
  | .cycleBoundary k => decide (1 ≤ k ∧ k ≤ 6)
  | .silenceCountdownExpiry i => decide (i < 16)
  | .blindCountdownExpiry i => decide (i < 8)
  | .binAdvance i => decide (i < 8)
  | .repeatCountdownExpiry z a => decide (z < 12) && decide (a ≠ 0) && decide (a ≠ 255)
  | .statusCountdownExpiry => true
  | .forceExpiry z => decide (z < 12)
  | .endOfHold z => decide (z < 12)
  | .refreshExpiry z => decide (z < 12)
  | .saveCompletion => true
  | .readIdent src _ args => commandWf src args
  | .readClock src _ args => commandWf src args
  | .setClock src _ args => commandWf src args
  | .loadConsole src _ args => commandWf src args
  | .loadStation src _ args => commandWf src args
  | .clearStation src _ args => commandWf src args
  | .readStation src _ args => commandWf src args
  | .parkStation src _ args => commandWf src args
  | .unparkStation src _ args => commandWf src args
  | .loadLane src _ args => commandWf src args
  | .clearLane src _ args => commandWf src args
  | .readLane src _ args => commandWf src args
  | .loadSector src _ args => commandWf src args
  | .clearSector src _ args => commandWf src args
  | .readSector src _ args => commandWf src args
  | .parkSector src _ args => commandWf src args
  | .unparkSector src _ args => commandWf src args
  | .clearTrip src _ args => commandWf src args
  | .loadZone src _ args => commandWf src args
  | .clearZone src _ args => commandWf src args
  | .readZone src _ args => commandWf src args
  | .forceStage src _ args => commandWf src args
  | .releaseForce src _ args => commandWf src args
  | .readDispatch src _ args => commandWf src args
  | .loadOutput src _ args => commandWf src args
  | .readOutput src _ args => commandWf src args
  | .setNotices src _ args => commandWf src args
  | .readNotices src _ args => commandWf src args
  | .clearNotices src _ args => commandWf src args
  | .readCounters src _ args => commandWf src args
  | .clearCounters src _ args => commandWf src args
  | .goWatch src _ args => commandWf src args
  | .goCommission src _ args => commandWf src args
  | .saveTables src _ args => commandWf src args
  | .eraseTables src _ args => commandWf src args
  | .restart src _ args => commandWf src args
  | .reset src _ args => commandWf src args
  | .readResetCause src _ args => commandWf src args
  | .clearResetCause src _ args => commandWf src args
  | .characterReceived _ _ => true
  | .lineReturnsToMark _ => true

end Sys2Proof
end

