-- ==== Sys2Proof/Tests/Slice0.lean ====
section
/-! SUPPORT. The model's own tests: ill-formed terms that WellFormed refuses, a few one-step checks of the spec's own
numbers, and for every obligation with hypotheses the concrete states and operands that meet them. -/

namespace Sys2Proof.Tests

open Sys2Proof.Machine

/-! ## Small states -/

/-- A SWEEP station on port A, LIVE, with a last sweep of 520 cm and no echo. -/
def gauge : Station :=
  { cfg := { addr := 10, port := .a, cls := .sweep 2, limit := 10, divisor := 2, parked := false }
    live := .live, lastSeq := some 5, silence := some 5, lastHeard := some TimeBase.powerOn.now
    contents := some (.sweep [520, 65535]), phase := 1, counts := StationCounts.zero }

/-- A PULSE station on port A, ABSENT. -/
def counter : Station :=
  Station.afresh { addr := 11, port := .a, cls := .pulse 2, limit := 10, divisor := 0, parked := false } StationCounts.zero

/-- A TRIP station on port B, LIVE, both wires as given. -/
def monitor (w : WireState) : Station :=
  { cfg := { addr := 12, port := .b, cls := .trip 2, limit := 10, divisor := 0, parked := false }
    live := .live, lastSeq := some 0, silence := some 5, lastHeard := some TimeBase.powerOn.now
    contents := some (.trip [.intact, w]), phase := 0, counts := StationCounts.zero }

/-- A parked SWEEP station. -/
def parkedGauge : Station :=
  Station.afresh { addr := 13, port := .a, cls := .sweep 1, limit := 10, divisor := 0, parked := true } StationCounts.zero

/-- A lane with two candidates at station 0, TRACKING the second. -/
def trackedLane : Lane :=
  { cfg := { datum := 800, lossLimit := 2, restoreCount := 2, cands := [⟨0, 1⟩, ⟨0, 0⟩] }
    tracked := some 1, clearance := some 520, fill := some 280, valueTime := none, loss := 1, credits := [0, 0] }

/-- The configuration of a sector over lanes 0 and 1, with a pulse link and a trip link. -/
def sectorCfg : SectorConfig :=
  { first := 0, count := 2, quorum := 1, rise := ⟨200, 400, 600⟩, fall := ⟨150, 320, 520⟩, blindDelay := 10
    rapidSpan := 1, rapidLimit := 5, pulse := some ⟨1, 0⟩, binLength := 5, surgeSpan := 3, surgeLimit := 40
    surgeRelease := 15, trips := [⟨2, 1⟩], parked := false }

/-- A trip record of the sector's link. -/
def latch : TripRecord :=
  { link := 0, station := 2, addr := 12, wire := 1, time := TimeBase.powerOn.now }

/-- A zone over sector 0 with two sirens. -/
def zoneCfg : ZoneConfig :=
  { sectors := [0], sirens := [20, 21], holdDown := 1, repeatInterval := 5, tries := 1, refresh := 1 }

/-- An entry of zone 0 with its records as given. -/
def entry (records : List SirenRecord) : Entry :=
  { zone := 0, serial := 1, stage := .watch, causes := Causes.none, refresh := false, peakSector := none, peak := none
    index := 0, created := TimeBase.powerOn.now, records := records }

/-- A record whose repeat countdown has run out, and one that is due. -/
def ranOut (a : Byte) (tries : Nat) : SirenRecord := { addr := a, state := .pending, tries := tries, cd := some 0 }
def due (a : Byte) : SirenRecord := SirenRecord.fresh a

/-- Three stations, a parked one and a lane, in COMMISSIONING with one console. -/
def small : State :=
  ((((({ State.reset with mode := .commissioning, console := [100] }.setStation 0 (some gauge)).setStation 1
    (some counter)).setStation 2 (some (monitor .cut))).setStation 3 (some parkedGauge)).setLane 0 (some trackedLane)).setLane 1
      (some { trackedLane with tracked := none, loss := 0, cfg := { trackedLane.cfg with cands := [⟨0, 0⟩] }, credits := [0] })

/-- The same with a sector and a zone, the zone standing at a stage with a force and countdowns as given. -/
def site (x : Sector) (stage : Stage) (force : Option Force) (hold refresh : Option Nat) : State :=
  (small.setSector 0 (some x)).setZone 0 (some
    { Zone.fresh zoneCfg with stage := stage, force := force, hold := hold, refreshCd := refresh })

/-- The sector of `sectorCfg`, its lanes evaluated. -/
def levelSector : Sector := Sector.afresh small sectorCfg none

/-- A parked sector. -/
def parkedSector : Sector := Sector.parkedFrom sectorCfg

/-- The part in WATCHING, with a sector and a zone at QUIET. -/
def watching : State := { site levelSector .quiet none none none with mode := .watching }

/-- The part with its gauge's silence countdown run out. -/
def unheardPart : State := small.setStation 0 (some { gauge with silence := some 0 })

/-- A frame with its own check code. -/
def frame (dst src kind seq : Byte) (payload : List Byte) : Frame := composeFrame dst src kind seq payload

/-- The answer of a step is this next state. -/
def leaves (o : Host.Outcome State Fault Refusal) (t : State) : Bool :=
  match o with
  | .next u => decide (u = t)
  | _ => false

/-- The state after one step. -/
def after (i : Instr) (s : State) : State :=
  match exec i s with
  | .next t => t
  | _ => s

/-! ## Ill-formed terms -/

theorem test_wf_payload_too_long : (Instr.frameReceived .valley ⟨1, 2, 3, 4, List.replicate 57 0, 0⟩).wf = false := by
  decide

theorem test_wf_len_in_range : (Instr.oversizeError .valley 4).wf = false ∧ (Instr.oversizeError .valley 60).wf = false ∧
    (Instr.oversizeError .valley 3).wf = true ∧ (Instr.oversizeError .valley 61).wf = true := by
  decide

theorem test_wf_output_number : (Instr.cadenceOnTimeReached 0).wf = false ∧ (Instr.cycleBoundary 7).wf = false := by
  decide

theorem test_wf_table_index : (Instr.silenceCountdownExpiry 16).wf = false ∧ (Instr.blindCountdownExpiry 8).wf = false ∧
    (Instr.binAdvance 8).wf = false ∧ (Instr.forceExpiry 12).wf = false ∧ (Instr.endOfHold 12).wf = false ∧
    (Instr.refreshExpiry 12).wf = false := by
  decide

theorem test_wf_siren : (Instr.repeatCountdownExpiry 12 20).wf = false ∧ (Instr.repeatCountdownExpiry 0 0).wf = false ∧
    (Instr.repeatCountdownExpiry 0 255).wf = false := by
  decide

theorem test_wf_command_sender : (Instr.readIdent 0 1 []).wf = false ∧ (Instr.goWatch 255 1 []).wf = false ∧
    (Instr.loadZone 9 1 (List.replicate 55 0)).wf = false ∧ (Instr.loadZone 9 1 (List.replicate 54 0)).wf = true := by
  decide

/-! ## The spec's own numbers -/

/-- The check code of the nine characters "123456789" (R2: the polynomial and the initial value). -/
theorem test_check_code : crc16 [0x31, 0x32, 0x33, 0x34, 0x35, 0x36, 0x37, 0x38, 0x39] = 0x29B1 := by
  decide +kernel

/-- A composed frame carries its own check code, and LEN counts DST to the last payload byte (R203). -/
theorem test_composed_frame : (frame 1 2 0x20 3 [1, 7]).crc = frameCrc (frame 1 2 0x20 3 [1, 7]) ∧
    frameLen (frame 1 2 0x20 3 [1, 7]) = 6 ∧ (frameWire (frame 1 2 0x20 3 [1, 7])).take 8 = [0xD7, 6, 1, 2, 0x20, 3, 1, 7] := by
  decide +kernel

/-- Every code of R207 names its command, and an unlisted code names none. -/
theorem test_command_codes : (∀ c ∈ Command.all, Command.ofCode c.code = some c) ∧ Command.ofCode 0x04 = none ∧
    Command.all.length = 39 := by
  decide

/-- The window of R34 at its edges, and the rolls of R21 at midnight. -/
theorem test_windows_and_rolls : seqWindow 0 = .duplicate ∧ seqWindow 1 = .passes 0 ∧ seqWindow 128 = .passes 127 ∧
    seqWindow 129 = .stale ∧
    TimeStamp.advance { day := 65535, hour := 23, minute := 59, second := 59, tenth := 9, unset := true } =
      { day := 0, hour := 0, minute := 0, second := 0, tenth := 0, unset := true } := by
  decide

/-- READ IDENT of the part right after reset, byte for byte (R146, R207). -/
theorem test_ident_reply : identData State.reset = [0x41, 0x20, 1, 0, 0, 0, 0] := by
  decide +kernel

/-- An ALERT has 16 bytes, a NOTICE 16 and a STATUS 38 (R205, R206). -/
theorem test_payload_lengths : (alertPayload (entry [])).length = 16 ∧
    (noticePayload .fault State.reset.notices).length = 16 ∧ (statusPayload State.reset).length = 38 := by
  decide +kernel

/-- The longest reply data fits its frame but for a minute ring of 15 or 16 entries (log 6). -/
theorem test_ring_lengths : (sectorPart1 { levelSector with ring := List.replicate 14 none }).length = 53 ∧
    (sectorPart1 { levelSector with ring := List.replicate 15 none }).length = 55 := by
  decide +kernel

/-- Power-on right after reset leaves the same state, and so does a step on an empty queue (log 1, log 3). -/
theorem test_power_on_at_reset : leaves (exec .powerOn State.reset) State.reset = true ∧
    leaves (step State.reset) State.reset = true := by
  decide +kernel

/-! ## Every hypothesis is met: steps and receiving -/

/-- The Valley port with its receiver in a state, its line at mark. -/
def receiving (r : Receiver) : State := State.reset.updPort .valley (fun q => { q with rx := r })

/-- The Valley port with its line at a level. -/
def lineAt (l : LineLevel) : State := State.reset.updPort .valley (fun q => { q with line := l })

theorem witness_StepTakesTheFrontOfTheQueue : State.reset.pending = [] := rfl

theorem witness_ReceiversTakeCharacters :
    ((receiving .hunt).port .valley).line = .mark ∧ ((receiving .hunt).port .valley).rx = .hunt ∧ (0 : Byte) ≠ 0xD7 ∧
    ((receiving .length).port .valley).rx = .length ∧ (4 ≤ (4 : Byte).toNat ∧ (60 : Byte).toNat ≤ 60) ∧
    ((3 : Byte).toNat < 4 ∧ 60 < (61 : Byte).toNat) ∧
    ((receiving (.body 4 [] 2)).port .valley).rx = .body 4 [] 2 ∧
    ((receiving (.body 4 [1, 2, 3] 1)).port .valley).rx = .body 4 [1, 2, 3] 1 ∧
    ((receiving (.check 4 [1, 2, 3, 4] none)).port .valley).rx = .check 4 [1, 2, 3, 4] none ∧
    ((receiving (.check 4 [1, 2, 3, 4] (some 0))).port .valley).rx = .check 4 [1, 2, 3, 4] (some 0) ∧
    crc16 [4, 1, 2, 3, 4] ≠ (0 : Byte) ++ (0 : Byte) ∧
    crc16 [4, 1, 2, 3, 4] = (crc16 [4, 1, 2, 3, 4]).extractLsb' 8 8 ++ (crc16 [4, 1, 2, 3, 4]).extractLsb' 0 8 := by
  decide +kernel

theorem witness_WholeFrameIsJudgedByItsCheckCode :
    GoodArrival .valley (frame 1 2 0x20 3 (List.replicate 56 0)) State.reset ∧
    Arrives .crestA { frame 1 2 0x20 3 [] with crc := 0 } State.reset ∧
    ({ frame 1 2 0x20 3 [] with crc := 0 } : Frame).crc ≠ frameCrc { frame 1 2 0x20 3 [] with crc := 0 } ∧
    ((lineAt .spent).port .valley).line ≠ .mark := by
  unfold GoodArrival Arrives
  and_intros <;> decide +kernel

theorem witness_GapsAndBrokenCharactersEndFrames :
    (State.reset.port .valley).rx = .hunt ∧ ((receiving .length).port .valley).rx ≠ .hunt ∧
    ((receiving .length).port .valley).line = .mark ∧ ((lineAt .space).port .valley).line ≠ .mark := by
  decide +kernel

/-- Nothing has run out in the states of the witnesses below, so what they show of a state they show of it settled. -/
theorem witness_settled :
    (∀ s ∈ [State.reset, small, watching, lineAt .space, lineAt .spent, receiving .length, receiving (.body 4 [] 2),
      receiving (.body 4 [1, 2, 3] 1), receiving (.check 4 [1, 2, 3, 4] none), receiving (.check 4 [1, 2, 3, 4] (some 0))],
      s.settle = s) ∧
    (∀ s ∈ [site levelSector .quiet none none none, site levelSector .watch none none none,
      site parkedSector .quiet none none none, site levelSector .watch (some ⟨.watch, 1⟩) none none], s.settle = s) := by
  and_intros <;> decide +kernel

/-! ## Forwarding and sending -/

theorem witness_BadAddressFramesAreDiscarded :
    (GoodArrival .valley (frame 0 2 0x20 3 []) State.reset ∧ (frame 0 2 0x20 3 []).dst = 0) ∧
    (GoodArrival .crestA (frame 1 0 0x20 3 []) State.reset ∧ (frame 1 0 0x20 3 []).src = 0) ∧
    (GoodArrival .crestB (frame 1 255 0x20 3 []) State.reset ∧ (frame 1 255 0x20 3 []).src = 255) ∧
    (GoodArrival .valley (frame 2 1 0x20 3 []) State.reset ∧ (frame 2 1 0x20 3 []).src = State.reset.node) := by
  unfold GoodArrival Arrives
  and_intros <;> decide +kernel

theorem witness_CrestFramesAreDecided_unknown :
    (GoodArrival .crestA (frame 1 40 0x20 3 []) small ∧ AddressesOk small.node (frame 1 40 0x20 3 [])) ∧
    (GoodArrival .crestB (frame 200 40 0x13 3 []) small ∧ AddressesOk small.node (frame 200 40 0x13 3 []) ∧
      NoStation 40 small) ∧
    (GoodArrival .crestB (frame 1 40 0x31 3 []) small ∧ AddressesOk small.node (frame 1 40 0x31 3 [])) ∧
    (GoodArrival .crestA (frame 255 40 0x20 3 []) small ∧ AddressesOk small.node (frame 255 40 0x20 3 []) ∧
      (255 : Byte) ≠ small.node) := by
  unfold GoodArrival Arrives AddressesOk NoStation
  and_intros <;> decide +kernel

theorem witness_CrestFramesAreDecided_loaded :
    (GoodArrival .crestA (frame 200 13 0x11 3 []) small ∧ AddressesOk small.node (frame 200 13 0x11 3 []) ∧
      small.station 3 = some parkedGauge ∧ OnlyStation 3 13 small ∧ parkedGauge.cfg.parked = true) ∧
    (GoodArrival .crestB (frame 200 10 0x11 3 []) small ∧ AddressesOk small.node (frame 200 10 0x11 3 []) ∧
      small.station 0 = some gauge ∧ OnlyStation 0 10 small ∧ gauge.cfg.parked = false ∧ gauge.cfg.port ≠ .b) ∧
    (GoodArrival .crestA (frame 1 10 0x12 3 []) small ∧ AddressesOk small.node (frame 1 10 0x12 3 []) ∧
      gauge.cfg.port = .a ∧ (0x12 : Byte) ≠ gauge.cfg.cls.kind) ∧
    (GoodArrival .crestA (frame 255 10 0x11 3 [1, 0, 9]) small ∧ AddressesOk small.node (frame 255 10 0x11 3 [1, 0, 9]) ∧
      (0x11 : Byte) = gauge.cfg.cls.kind) := by
  unfold GoodArrival Arrives AddressesOk OnlyStation
  and_intros <;> decide +kernel

theorem witness_ValleyFramesGoToTheirTaker :
    (GoodArrival .valley (frame 1 100 0x20 3 [1, 7]) small ∧ AddressesOk small.node (frame 1 100 0x20 3 [1, 7])) ∧
    (GoodArrival .valley (frame 1 20 0x31 3 [0, 1, 1]) small ∧ AddressesOk small.node (frame 1 20 0x31 3 [0, 1, 1])) ∧
    (GoodArrival .valley (frame 1 20 0x21 3 []) small ∧ AddressesOk small.node (frame 1 20 0x21 3 [])) ∧
    (GoodArrival .valley (frame 255 100 0x20 3 [1, 7]) small ∧ AddressesOk small.node (frame 255 100 0x20 3 [1, 7]) ∧
      (255 : Byte) ≠ small.node ∧ ([1, 7] : List Byte).head? = some 0x01) ∧
    (GoodArrival .valley (frame 255 100 0x20 3 []) small ∧ AddressesOk small.node (frame 255 100 0x20 3 []) ∧
      ([] : List Byte).head? ≠ some 0x01) ∧
    (GoodArrival .valley (frame 12 100 0x20 3 []) small ∧ AddressesOk small.node (frame 12 100 0x20 3 []) ∧
      small.station 2 = some (monitor .cut) ∧ OnlyStation 2 12 small) ∧
    (GoodArrival .valley (frame 40 100 0x20 3 []) small ∧ AddressesOk small.node (frame 40 100 0x20 3 []) ∧
      NoStation 40 small) := by
  unfold GoodArrival Arrives AddressesOk OnlyStation NoStation
  and_intros <;> decide +kernel

/-- A part whose valley forward queue holds these frames. -/
def forwarding (q : List Frame) : State := { State.reset with valley := { State.reset.valley with forward := q } }

/-- A part whose crest-ward queue A holds these frames. -/
def crestward (q : List Frame) : State := { State.reset with crestA := { State.reset.crestA with queue := q } }

theorem witness_QueuesTakeOrShedFrames :
    ((crestward (List.replicate 7 (frame 2 3 4 5 []))).crest .a).queue.length < 8 ∧
    8 ≤ ((crestward (List.replicate 8 (frame 2 3 4 5 []))).crest .a).queue.length ∧
    (forwarding (List.replicate 31 (frame 2 3 4 5 []))).valley.forward.length < 32 ∧
    (32 ≤ (forwarding (List.replicate 31 (frame 2 3 4 5 []) ++ frame 2 3 0x11 5 [] :: [])).valley.forward.length ∧
      (∀ g ∈ List.replicate 31 (frame 2 3 4 5 []), g.kind ≠ 0x11) ∧ (frame 2 3 0x11 5 []).kind = 0x11) ∧
    (32 ≤ (forwarding (List.replicate 32 (frame 2 3 4 5 []))).valley.forward.length ∧
      ∀ g ∈ (forwarding (List.replicate 32 (frame 2 3 4 5 []))).valley.forward, g.kind ≠ 0x11) := by
  decide +kernel

/-- A state whose Valley transmitter is SENDING a frame with an effect. -/
def sending (e : ReplyEffect) (s : State) : State :=
  s.updPort .valley (fun q => { q with tx := some { frame := frame 100 1 0x21 1 [], effect := e } })

theorem witness_TransmitCompletionFreesThePort :
    (State.reset.port .crestB).tx = none ∧
    ((sending .nothing small).port .valley).tx = some { frame := frame 100 1 0x21 1 [], effect := .nothing } := by
  decide +kernel

/-- A part whose Dispatch Queue holds one entry with these records. -/
def dispatching (records : List SirenRecord) : State :=
  { site levelSector .watch none none none with dispatch := { queue := [entry records], stale := 0, mismatched := 0 } }

/-- A reply, a NOTICE and a STATUS waiting. -/
def aReply : Reply := { dst := 100, payload := [2, 7, 0], effect := .nothing }
def noticing (it : OutItem) : State := { small with notices := { small.notices with out := [it] } }

theorem witness_TransmittersTakeInOrder :
    ((sending .nothing small).valley.port.tx ≠ none ∧ small.valley.port.tx = none) ∧
    ((dispatching [ranOut 20 1, due 21]).dispatch.queue = [] ++ entry [ranOut 20 1, due 21] :: [] ∧
      (∀ q ∈ [ranOut 20 1], q.state ≠ .pending ∨ q.cd ≠ none) ∧ (due 21).state = .pending ∧ (due 21).cd = none ∧
      ((dispatching [ranOut 20 1, due 21]).dispatch.queue.map Entry.zone).Nodup ∧
      ((entry [ranOut 20 1, due 21]).records.map SirenRecord.addr).Nodup) ∧
    (∀ y ∈ (dispatching [ranOut 20 1]).dispatch.queue, ∀ q ∈ y.records, q.state ≠ .pending ∨ q.cd ≠ none) ∧
    ({ dispatching [ranOut 20 1] with replies := [aReply] }).replies = aReply :: [] ∧
    ((noticing (.notice .fault 100)).replies = [] ∧ (noticing (.notice .fault 100)).notices.out = [.notice .fault 100]) ∧
    (noticing (.status 100)).notices.out = [.status 100] ∧
    ((forwarding [frame 2 3 4 5 []]).notices.out = [] ∧ (forwarding [frame 2 3 4 5 []]).valley.forward = [frame 2 3 4 5 []]) ∧
    (State.reset.valley.forward = [] ∧ (State.reset.crest .a).queue = []) ∧
    ((crestward [frame 2 3 4 5 []]).crest .a).port.tx = none := by
  decide +kernel

/-- Two contents set within an event stand behind the one of their stage that stood, in ascending zone order. -/
theorem witness_EndOfEventTouchesOutputsAndSendingAlone :
    let q := [{ entry [due 20] with zone := 5 }, { entry [due 20] with zone := 2 }, entry [due 20], entry []]
    q.Pairwise (fun a b => b.stage.num ≤ a.stage.num) ∧
      ([{ entry [due 20] with zone := 5 }, { entry [due 20] with zone := 2 }, entry [due 20]].map Entry.zone).Nodup ∧
      (orderFresh [entry [due 20]] [{ entry [] with zone := 5 }, { entry [] with zone := 2 }, entry []]).map Entry.zone =
        [0, 2, 5] ∧
      watched small { OutputConfig.unset with code := 8 } ≠ watched watching { OutputConfig.unset with code := 8 } := by
  decide +kernel

/-! ## Time base -/

/-- A part at a moment of the day. -/
def at_ (minute second tenth : Nat) (s : State) : State :=
  { s with time := { now := { day := 65535, hour := 23, minute := minute, second := second, tenth := tenth, unset := false }
                     phase := 4 } }

theorem witness_TenthTickAdvancesTheTimeBase : TimeLegal (at_ 59 59 9 small) ∧
    (after .tenthTick (at_ 59 59 9 small)).time =
      { now := { day := 0, hour := 0, minute := 0, second := 0, tenth := 0, unset := false }, phase := 0 } := by
  unfold TimeLegal
  and_intros <;> decide +kernel

theorem witness_TenthTickReachesItsTimers :
    (at_ 59 59 8 small).time.now.tenth < 9 ∧
    (9 ≤ (at_ 59 58 9 small).time.now.tenth ∧ (at_ 59 58 9 small).time.now.second < 59) ∧
    (9 ≤ (at_ 0 59 9 small).time.now.tenth ∧ 59 ≤ (at_ 0 59 9 small).time.now.second) ∧
    ((Output.idle OutputConfig.unset).start 1).condition = true ∧
    ((Output.idle OutputConfig.unset).start 1).inUse = some 1 ∧ ((Output.idle OutputConfig.unset).start 1).phase = some 0 ∧
    (Output.idle OutputConfig.unset).condition = false := by
  decide +kernel

/-- A part in WATCHING with an entry in flight and a silence, a blind, a bin, a repeat, a status, a force and a cadence
run out. -/
def overdue : State :=
  { (site { levelSector with blindCd := some 0, binCd := some 0 } .watch (some ⟨.watch, 0⟩) none none).setStation 0
      (some { gauge with silence := some 0 }) with
    mode := .watching
    dispatch := { queue := [entry [ranOut 20 1, due 21]], stale := 0, mismatched := 0 }
    notices := { small.notices with period := 10, statusCd := some 0 } }

theorem overdue_save : overdue.save = none := by
  decide +kernel

/-- What the kept statements need to say that settling leaves nothing run out, met where much has run out. -/
theorem witness_EveryStepKeepsTheTimeLegal_settled : PeriodsRun overdue ∧ overdue.due (.silence 0) = true ∧
    overdue.due (.blind 0) = true ∧ overdue.due (.bin 0) = true ∧ overdue.due (.again 0 20) = true ∧
    overdue.due .status = true ∧ overdue.due (.force 0) = true ∧ (∀ r ∈ overdue.settle.runningsOut, overdue.settle.due r = false) := by
  refine ⟨?_, by decide +kernel, by decide +kernel, by decide +kernel, by decide +kernel, by decide +kernel,
    by decide +kernel, by decide +kernel⟩
  unfold PeriodsRun Cadences.run
  refine ⟨by decide +kernel, by decide +kernel, by decide +kernel, by decide +kernel, trivial, ?_⟩
  rw [overdue_save]
  exact fun j h => nomatch h

/-- What has run out runs out before a tick, or a parking of the station, does anything (R23, log 4). -/
theorem test_settling_comes_first :
    (((after .tenthTick unheardPart).station 0).map Station.live = some .silent) ∧
    ((after (.parkStation 100 1 [0]) unheardPart).notices.silence.detail.isSome = true) := by
  decide +kernel

/-- The sector with a minute ring. -/
def ringed (ring : List (Option Nat)) : Sector := { levelSector with blindCd := none, index := 30, ring := ring }

theorem witness_MinuteEventPushesAndMeasures :
    (site (ringed [some 20]) .quiet none none none).sector 0 = some (ringed [some 20]) ∧
    parkedSector.cfg.parked = true ∧ (ringed [some 20]).cfg.parked = false ∧
    ((ringed [some 20]).minute.ring[0]? = some (some 30) ∧
      (ringed [some 20]).minute.ring[(ringed [some 20]).cfg.rapidSpan]? = some (some 20) ∧
      ∀ g ∈ (ringed [some 20]).minute.ring.take ((ringed [some 20]).cfg.rapidSpan + 1), g ≠ none) ∧
    (ringed []).minute.ring.length ≤ (ringed []).cfg.rapidSpan ∧
    none ∈ (ringed [none]).minute.ring.take ((ringed [none]).cfg.rapidSpan + 1) := by
  decide +kernel

/-! ## Stations and lanes -/

theorem witness_SequenceFilterJudgesFrames :
    (small.station 1 = some counter ∧ counter.live = .absent) ∧
    (small.station 0 = some gauge ∧ gauge.live ≠ .absent ∧ gauge.live ≠ .silent ∧ gauge.lastSeq = some 5) ∧
    ((frame 200 10 0x11 5 []).seq - (5 : Byte)).toNat = 0 ∧
    (1 ≤ ((frame 200 10 0x11 6 []).seq - (5 : Byte)).toNat ∧ ((frame 200 10 0x11 133 []).seq - (5 : Byte)).toNat ≤ 128) ∧
    129 ≤ ((frame 200 10 0x11 134 []).seq - (5 : Byte)).toNat := by
  decide +kernel

theorem witness_AcceptedFrameUpdatesItsStation :
    small.station 0 = some gauge ∧ (gauge.cfg.divisor ≠ 0 ∧ gauge.phase + 1 = gauge.cfg.divisor) ∧
    small.valley.forward.length < 32 ∧
    ¬ ({ gauge with phase := 0 }.cfg.divisor ≠ 0 ∧ { gauge with phase := 0 }.phase + 1 = gauge.cfg.divisor) ∧
    readPayload gauge.cfg.cls [] = none ∧ gauge.live = .live ∧
    readPayload gauge.cfg.cls [1, 0, 9] = some (.sweep [9]) ∧
    readPayload counter.cfg.cls [0, 5, 1, 0, 3] = some (.pulse 5 [some 3, none]) ∧ counter.live = .absent ∧
    readPayload (monitor .cut).cfg.cls [2, 0, 1] = some (.trip [.intact, .cut]) := by
  decide +kernel

/-- A full valley forward queue, and a station that stands after its sweep has been handed on. -/
theorem witness_AcceptedFrameUpdatesItsStation_full :
    let crowded : State :=
      { small with valley := { small.valley with forward := List.replicate 32 (frame 200 10 0x11 6 []) } }
    crowded.station 0 = some gauge ∧ 32 ≤ crowded.valley.forward.length ∧ (crowded.sweepArrival 0).station 0 = some gauge := by
  decide +kernel

theorem witness_SilenceExpiryMakesTheStationSilent :
    (unheardPart.station 0 = some { gauge with silence := some 0 }) ∧ (∀ x ∈ small.station 1, x.silence ≠ some 0) := by
  decide +kernel

theorem witness_LaneEventSettlesTheLanesConcerned :
    ((site levelSector .quiet none none none).sector 0 = some levelSector ∧ levelSector.cfg.range = [0, 1] ∧
      (site levelSector .quiet none none none).lane 0 = some trackedLane ∧
      trackedLane.cfg.cands.any (fun c => decide (c.station = 0)) = true ∧
      (Lane.settleGone small 0 .silent trackedLane).changed = true ∧
      ∀ i ∈ levelSector.cfg.range, ∀ l ∈ small.lane i, l.cfg.cands.any (fun c => decide (c.station = 7)) = false) ∧
    (trackedLane.tracked = some 1 ∧ trackedLane.cfg.cands[1]? = some ⟨0, 0⟩) ∧
    (trackedLane.tracked ≠ (Lane.settleGone State.reset 0 .silent trackedLane).lane.tracked) := by
  decide +kernel

theorem witness_ReselectionTakesTheFirstUsable :
    trackedLane.cfg.cands = [⟨0, 1⟩] ++ ⟨0, 0⟩ :: [] ∧ (∀ k ∈ ([⟨0, 1⟩] : List Candidate), usableValue small k = none) ∧
    usableValue small ⟨0, 0⟩ = some 520 ∧
    (∀ k ∈ trackedLane.cfg.cands, usableValue State.reset k = none) := by
  decide +kernel

/-- The tracked lane with its candidates in the other order. -/
def bestTracked : Lane := { trackedLane with cfg := { trackedLane.cfg with cands := [⟨0, 0⟩, ⟨0, 1⟩] }, credits := [2, 0] }

theorem witness_SweepArrivalSettlesALane :
    (trackedLane.tracked = some 1 ∧ trackedLane.cfg.cands[1]? = some ⟨0, 0⟩ ∧ usableValue small ⟨0, 0⟩ = some 520) ∧
    (bestTracked.tracked = some 1 ∧ bestTracked.cfg.cands[1]? = some ⟨0, 1⟩ ∧ usableValue small ⟨0, 1⟩ = none ∧
      bestTracked.cfg.lossLimit ≤ bestTracked.loss + 1 ∧
      { bestTracked with loss := 0 }.loss + 1 < bestTracked.cfg.lossLimit) ∧
    ({ trackedLane with tracked := none }.tracked = none ∧
      ∃ r c, trackedLane.tracked = some r ∧ trackedLane.cfg.cands[r]? = some c ∧ c.station ≠ 7) ∧
    (bestTracked.cfg.cands = [] ++ ⟨0, 0⟩ :: [⟨0, 1⟩] ∧ ([] : List Candidate).length < 1 ∧
      bestTracked.credits[0]? = some bestTracked.cfg.restoreCount) ∧
    (bestTracked.credits[0]? ≠ some 1 ∧ (∀ c ∈ trackedLane.cfg.cands, c.station = 0 → usableValue State.reset c = none)) :=
  ⟨by decide +kernel, by decide +kernel, ⟨by decide, 1, ⟨0, 0⟩, by decide, by decide, by decide⟩, by decide +kernel,
    by decide +kernel⟩

/-! ## Sectors -/

theorem witness_LaneUpdateReadsTheWholeRange :
    (validFills State.reset sectorCfg.range = [] ∧ (validFills State.reset sectorCfg.range).length < sectorCfg.quorum) ∧
    (validFills small sectorCfg.range = [(0, 280)] ∧ sectorCfg.quorum ≤ (validFills small sectorCfg.range).length) ∧
    ({ levelSector with blind := true }).blind = true := by
  decide +kernel

theorem witness_LevelIsTheHigherOfUpAndHold :
    levelSector.cfg.quorum ≤ (levelSector.laneUpdate small).valid ∧ levelSector.level = .watch := by
  decide +kernel

/-- The sector with its countdowns at 0. -/
def expiring : Sector := { levelSector with blindCd := some 0, binCd := some 0, bins := [60000] }

theorem witness_BlindAndSurgeRunTheirCourse :
    ((site expiring .quiet none none none).sector 0 = some expiring ∧ expiring.cfg.parked = false ∧
      expiring.blindCd = some 0 ∧ expiring.binCd = some 0 ∧ expiring.bins = 60000 :: [] ∧ 60000 ≤ 65535) ∧
    (∀ x ∈ (site levelSector .quiet none none none).sector 0, x.cfg.parked = true ∨ x.blindCd ≠ some 0) ∧
    (∀ x ∈ (site levelSector .quiet none none none).sector 0, x.cfg.parked = true ∨ x.binCd ≠ some 0) ∧
    levelSector.cfg.surgeRelease < levelSector.cfg.surgeLimit ∧
    levelSector.cfg.surgeLimit < ({ levelSector with bins := [41] }).evalSurge.window ∧
    (({ levelSector with bins := [40] }).evalSurge.window ≤ levelSector.cfg.surgeLimit ∧
      levelSector.cfg.surgeRelease < ({ levelSector with bins := [16] }).evalSurge.window) ∧
    ({ levelSector with bins := [15] }).evalSurge.window ≤ levelSector.cfg.surgeRelease := by
  decide +kernel

theorem witness_SectorChangeReachesItsZones :
    sectorView (some levelSector) ≠ sectorView (small.sector 0) ∧ sectorView (some parkedSector) = sectorView (small.sector 0) ∧
    (∀ y ∈ (site levelSector .quiet none none none).zone 0, 0 ∈ y.cfg.sectors ∧ 1 ∉ y.cfg.sectors) ∧
    (Sector.restage parkedSector).stage = .quiet ∧ (Sector.restage levelSector).stage ≠ .quiet := by
  decide +kernel

/-- The monitor in a state. -/
def monitorIn (l : Liveness) (c : Option Contents) : State :=
  small.setStation 2 (some { monitor .cut with live := l, contents := c })

theorem witness_TripLinksSetFaultAndLatch_readings :
    (small.station 9 = none ∧ small.station 0 = some gauge ∧ small.station 2 = some (monitor .cut)) ∧
    (monitor .cut).cfg.cls = .trip 2 ∧ (monitorIn .parked none).station 2 ≠ none ∧
    readLink (monitorIn .parked none) ⟨2, 1⟩ = .parked ∧ readLink (monitorIn .silent none) ⟨2, 1⟩ = .silent ∧
    readLink (monitorIn .absent none) ⟨2, 1⟩ = .awaiting ∧ readLink (monitorIn .live none) ⟨2, 1⟩ = .awaiting ∧
    readLink small ⟨2, 1⟩ = .cut ∧ readLink small ⟨2, 2⟩ = .fault ∧ readLink small ⟨0, 0⟩ = .unusable ∧
    (∀ r ∈ sectorCfg.trips.map (readLink small), r = .intact ∨ r = .cut) ∧
    .silent ∈ sectorCfg.trips.map (readLink (monitorIn .silent none)) ∧
    .awaiting ∈ sectorCfg.trips.map (readLink (monitorIn .absent none)) := by
  decide +kernel

theorem witness_TripLinksSetFaultAndLatch_latch :
    ((site levelSector .quiet none none none).sector 0 = some levelSector ∧ levelSector.cfg.parked = false ∧
      levelSector.trip = none ∧ levelSector.cfg.trips = [] ++ ⟨2, 1⟩ :: [] ∧
      ([.intact, .cut] : List WireState)[1]? = some .cut) ∧
    ({ levelSector with trip := some latch }).trip = some latch ∧ (∀ k ∈ levelSector.cfg.trips, k.station ≠ 5) ∧
    (∃ k ∈ levelSector.cfg.trips, k.station = 2) ∧ ({ levelSector with trip := some latch }).trip ≠ none ∧
    (∀ k ∈ levelSector.cfg.trips, k.station = 2 → ([.cut, .intact] : List WireState)[k.wire]? ≠ some .cut) ∧
    (∀ x ∈ small.sector 0, x.cfg.parked = true) := by
  decide +kernel

/-! ## Zones and the Dispatch Queue -/

/-- The sector at a stage. -/
def sectorAt (st : Stage) : Sector := { levelSector with stage := st }

theorem witness_EvaluationTakesTheCaseItFinds :
    ((site (sectorAt .evacuate) .quiet none none none).zone 0 =
        some { Zone.fresh zoneCfg with stage := .quiet, force := none, hold := none, refreshCd := none } ∧
      contributing (site (sectorAt .evacuate) .quiet none none none) [0] ≠ [] ∧
      Stage.quiet.num < ((computedStage (contributing (site (sectorAt .evacuate) .quiet none none none) [0])).max .quiet).num) ∧
    (contributing (site parkedSector .watch none none none) [0] = [] ∧
      ((computedStage (contributing (site parkedSector .watch none none none) [0])).max .quiet).num < Stage.watch.num) ∧
    ((computedStage (contributing (site (sectorAt .watch) .watch none none none) [0])).max .quiet).num = Stage.watch.num ∧
    watching.mode = .watching ∧ (site levelSector .quiet none none none).mode ≠ .watching := by
  decide +kernel

theorem witness_ZoneCountdownsRunOut :
    (∃ x f, (site levelSector .watch (some ⟨.watch, 0⟩) (some 0) none).zone 0 = some x ∧ x.force = some f ∧ f.left = 0) ∧
    (∃ x, (site levelSector .evacuate none (some 0) none).zone 0 = some x ∧ x.hold = some 0 ∧ ∀ f ∈ x.force, f.left ≠ 0) ∧
    (∃ x, (site levelSector .watch (some ⟨.watch, 1⟩) none (some 0)).zone 0 = some x ∧ x.refreshCd = some 0 ∧
      x.hold ≠ some 0 ∧ ∀ f ∈ x.force, f.left ≠ 0) ∧
    (∀ x ∈ (site levelSector .watch none (some 1) (some 1)).zone 0, (∀ f ∈ x.force, f.left ≠ 0) ∧ x.hold ≠ some 0 ∧
      x.refreshCd ≠ some 0) :=
  ⟨⟨_, _, rfl, rfl, rfl⟩, ⟨_, rfl, rfl, by decide +kernel⟩, ⟨_, rfl, rfl, by decide +kernel, by decide +kernel⟩,
    by decide +kernel⟩

theorem witness_AlertsAndRefreshesSetContent :
    (∃ x, (dispatching [due 20]).zone 0 = some x) ∧ (∃ e ∈ (dispatching [due 20]).dispatch.queue, e.zone = 0) ∧
    (∀ e ∈ (site levelSector .watch none none none).dispatch.queue, e.zone ≠ 0) :=
  ⟨⟨_, rfl⟩, ⟨_, List.mem_cons_self, rfl⟩, by decide +kernel⟩

/-- A record already delivered. -/
def delivered (a : Byte) : SirenRecord := { addr := a, state := .delivered, tries := 1, cd := none }

theorem witness_AcksAndRepeatsMoveRecords_acks :
    ([0, 1] : List Byte).length ≠ 3 ∧ (∀ e ∈ (dispatching [due 20]).dispatch.queue, e.zone ≠ (5 : Byte).toNat) ∧
    ((dispatching [due 20, due 21]).dispatch.queue = [] ++ entry [due 20, due 21] :: [] ∧
      (entry [due 20, due 21]).zone = (0 : Byte).toNat ∧
      ((dispatching [due 20, due 21]).dispatch.queue.map Entry.zone).Nodup) ∧
    ((entry []).serial ≠ (2 : Byte) ∧ (entry []).serial = (1 : Byte)) ∧
    (∀ r ∈ (entry [due 20, due 21]).records, r.addr ≠ 30) ∧ ((2 : Byte).toNat ≠ (entry []).stage.num) ∧
    ((1 : Byte).toNat = (entry []).stage.num ∧ ((entry [due 20, due 21]).records.map SirenRecord.addr).Nodup) ∧
    ((delivered 20).state = .delivered ∧ (due 20).state ≠ .delivered) ∧
    ((due 21).state = .pending ∧ ∀ q ∈ [delivered 21], q.state ≠ .pending) := by
  decide +kernel

theorem witness_AcksAndRepeatsMoveRecords_repeats :
    ((dispatching [ranOut 20 0, due 21]).dispatch.queue = [] ++ entry [ranOut 20 0, due 21] :: [] ∧
      (entry [ranOut 20 0, due 21]).records = [] ++ ranOut 20 0 :: [due 21] ∧ (ranOut 20 0).cd = some 0 ∧
      (ranOut 20 0).tries < zoneCfg.tries) ∧
    (zoneCfg.tries ≤ (ranOut 20 1).tries ∧ (due 21).state = .pending ∧ (delivered 21).state ≠ .pending) ∧
    (∀ e ∈ (dispatching [due 20]).dispatch.queue, e.zone = 0 → ∀ r ∈ e.records, r.addr = 20 → r.cd ≠ some 0) := by
  decide +kernel

/-! ## Outputs, notices, the store -/

/-- A part whose output K1 is always on, at a phase of its cycle of 10 with an on-time of 5. -/
def cadenced (phase : Nat) : State :=
  State.reset.setOutput 1
    { cfg := { OutputConfig.unset with code := 1 }, working := ⟨⟨10, 5⟩, ⟨10, 5⟩, ⟨10, 5⟩⟩, condition := true
      inUse := some 1, phase := some phase, closed := true }

theorem witness_OutputsFollowConditionsAndCadences :
    (conditionOf State.reset { OutputConfig.unset with code := 1 } = true ∧ (Output.idle OutputConfig.unset).condition = false) ∧
    (conditionOf State.reset OutputConfig.unset = false ∧ ((Output.idle OutputConfig.unset).start 1).condition = true) ∧
    (∃ o, (cadenced 5).output 1 = some o ∧ o.inUse = some 1 ∧ o.phase = some 5 ∧ (o.working.get 1).onTime ≤ 5 ∧
      5 < (o.working.get 1).cycle ∧ 4 < (o.working.get 1).onTime ∧ (o.working.get 1).cycle ≤ 10) ∧
    (∃ o, State.reset.output 6 = some o ∧ o.inUse = none) :=
  ⟨by decide +kernel, by decide +kernel, ⟨_, rfl, rfl, rfl, by decide, by decide, by decide, by decide⟩, ⟨_, rfl, rfl⟩⟩

/-- An output on zone 0 whose condition is true with a cadence in use. -/
def running (n : Nat) : Output :=
  { Output.idle { OutputConfig.unset with code := 2 } with condition := true, inUse := some n, phase := some 0, closed := true }

theorem witness_OutputsFollowConditionsAndCadences_running :
    conditionOf (site levelSector .watch none none none) (running 1).cfg = true ∧ (running 1).condition = true ∧
    (running 1).inUse = some (cadenceFor (site levelSector .watch none none none) (running 1).cfg) ∧
    (running 3).inUse ≠ some (cadenceFor (site levelSector .watch none none none) (running 3).cfg) ∧
    (running 3).cfg.code = 2 ∧
    (conditionOf small OutputConfig.unset = false ∧ (Output.idle OutputConfig.unset).condition = false) := by
  decide +kernel

/-- A part whose status countdown has run out. -/
def statusOut : State := { small with notices := { small.notices with period := 10, statusCd := some 0 } }

/-- A part with a save in progress. -/
def saving (c : Store) : State := { small with save := some { content := c, dst := 100, tag := 7 } }

theorem witness_NoticesStatusAndSavesComplete :
    (State.reset.notices.get (Detail.cls .clockUnset)).detail ≠ none ∧
    ((State.reset.notices.get (Detail.cls (.delivery 0 1 .watch 20 1))).detail = none ∧
      (State.reset.notices.get (Detail.cls (.delivery 0 1 .watch 20 1))).enable = true) ∧
    ({ State.reset.notices with delivery := ClassState.clear false }.get .delivery).enable = false ∧
    (OutItem.status 1 ∈ [OutItem.status 1] ∧ OutItem.status 1 ∉ State.reset.notices.out ∧
      (List.replicate 27 (OutItem.status 2)).length < 28 ∧ 28 ≤ (List.replicate 28 (OutItem.status 2)).length ∧
      OutItem.status 1 ∉ List.replicate 28 (OutItem.status 2)) ∧
    (statusOut.notices.statusCd = some 0 ∧ small.notices.statusCd ≠ some 0) ∧
    ((saving .empty).save = some { content := .empty, dst := 100, tag := 7 } ∧ small.save = none) := by
  decide +kernel

/-- The image of the small part. -/
def anImage : Image :=
  { stations := mapEntries Station.cfg small.stations, lanes := mapEntries Lane.cfg small.lanes
    sectors := Vector.replicate 8 none, zones := Vector.replicate 12 none
    outputs := Vector.replicate 6 OutputConfig.unset, enables := Enables.on, period := 10, console := [100]
    watching := false }

theorem witness_StartUpWithoutAnImage :
    (saving .empty).save ≠ none ∧ State.reset.store = .void ∧ ({ small with store := .empty }).store = .empty ∧
    nodeOf { rate := 0, addr := 9 } ∈ anImage.addresses ∧ State.reset.valley.port.line ≠ .spent ∧
    (lineAt .spent).valley.port.line = .spent ∧
    (sending .reset State.reset).valley.port.tx = some { frame := frame 100 1 0x21 1 [], effect := .reset } := by
  decide +kernel

/-- A part whose store holds the image. -/
def stored : State := { small with store := .image anImage }

theorem witness_StartUpFromAnImage :
    (stored.save = none ∧ stored.store = .image anImage ∧ nodeOf stored.straps ∉ anImage.addresses) ∧
    stored.valley.port.line ≠ .spent ∧
    (sending .reset stored).valley.port.tx = some { frame := frame 100 1 0x21 1 [], effect := .reset } := by
  decide +kernel

theorem witness_RestartTakesEffectAtItsReply :
    (sending .restart watching).valley.port.tx = some { frame := frame 100 1 0x21 1 [], effect := .restart } ∧
    (∀ x ∈ ((sending .restart watching).setSector 0 (some parkedSector)).sector 0, x.cfg.parked = true) ∧
    (∀ x ∈ (sending .restart watching).sector 0, x.cfg.parked = false) := by
  decide +kernel

/-- A zone over a sector at WATCH by its level sees it change at a RESTART, and a zone over no loaded sector does not. -/
theorem witness_RestartTakesEffectAtItsReply_zones :
    sectorView ((sending .restart watching).sector 0) ≠ sectorView ((after (.transmitCompletion .valley)
      (sending .restart watching)).sector 0) ∧
    sectorView ((sending .restart watching).sector 1) = sectorView ((after (.transmitCompletion .valley)
      (sending .restart watching)).sector 1) ∧
    ∀ z, z < 12 → ((after (.transmitCompletion .valley) (sending .restart watching)).zone z).map Zone.stage =
      ((sending .restart watching).zone z).map Zone.stage := by
  decide +kernel

/-! ## Commands -/

/-- A part with all four reply places held. -/
def full : State := { small with replies := List.replicate 4 aReply }

theorem witness_CommandsAreCheckedInOrder :
    4 ≤ full.heldPlaces ∧ ({ small with replies := List.replicate 3 aReply }).heldPlaces < 4 ∧
    ([1] : List Byte).length ≠ requiredLength .readClock [1] ∧ ([] : List Byte).length = requiredLength .clearCounters [] ∧
    isReading .clearCounters = false ∧ small.console ≠ [] ∧ (101 : Byte) ∉ small.console ∧ (100 : Byte) ∈ small.console ∧
    (saving .empty).save ≠ none ∧ (saving .empty).heldPlaces < 4 ∧
    (modeOk .goCommission [] small.mode = false ∧ small.save = none) ∧ (List.replicate 53 (0 : Byte)).length ≤ 53 := by
  decide +kernel

theorem witness_CommandFramesCarryCommands :
    (GoodArrival .valley (frame 1 100 0x20 3 [0x01, 7]) small ∧ AddressesOk small.node (frame 1 100 0x20 3 [0x01, 7]) ∧
      (frame 1 100 0x20 3 [0x01, 7]).payload = Command.readIdent.code :: 7 :: [] ∧ small.heldPlaces < 4) ∧
    (GoodArrival .valley (frame 1 100 0x20 3 []) small ∧ GoodArrival .valley (frame 1 100 0x20 3 [0x99]) small ∧
      GoodArrival .valley (frame 1 100 0x20 3 [0x99, 7]) full ∧ 4 ≤ full.heldPlaces) ∧
    (∀ c ∈ Command.all, c.code ≠ 0x99) := by
  unfold GoodArrival Arrives AddressesOk
  and_intros <;> decide +kernel

/-- The sender passes checks 1 to 6 with a command of one argument byte. -/
theorem witness_ReadingCommandsReportTheirData :
    Admitted .readIdent 50 [] small ∧ Admitted .readStation 50 [15] small ∧ Admitted .readStation 50 [16] small ∧
    Admitted .readLane 50 [31] small ∧ Admitted .readLane 50 [32] small ∧ Admitted .readSector 50 [7, 2] small ∧
    Admitted .readSector 50 [8, 3] small ∧ Admitted .readZone 50 [11] small ∧ Admitted .readZone 50 [12] small ∧
    Admitted .readDispatch 50 [11] small ∧ Admitted .readDispatch 50 [12] small ∧ Admitted .readOutput 50 [1] small ∧
    Admitted .readOutput 50 [6] small ∧ Admitted .readOutput 50 [0] small ∧ Admitted .readOutput 50 [7] small ∧
    Admitted .readNotices 50 [5] small ∧ Admitted .readNotices 50 [6] small ∧ Admitted .readCounters 50 [3] small ∧
    Admitted .readCounters 50 [16] small ∧ Admitted .readCounters 50 [31] small ∧ Admitted .readCounters 50 [4] small ∧
    Admitted .readCounters 50 [32] small ∧ small.station 15 = none ∧ small.lane 31 = none ∧ small.sector 7 = none ∧
    small.zone 11 = none := by
  unfold Admitted
  and_intros <;> decide +kernel

theorem witness_ClockIsReadAndSet :
    Admitted .readClock 50 [] small ∧
    Admitted .setClock 100 (be16 65535 ++ [byteOf 23, byteOf 59, byteOf 59, byteOf 9]) small ∧
    Admitted .setClock 100 (be16 0 ++ [byteOf 24, byteOf 60, byteOf 60, byteOf 10]) small := by
  unfold Admitted
  and_intros <;> decide +kernel

/-- The configuration of a station, in range. -/
def stationCfg : StationConfig := { addr := 254, port := .b, cls := .trip 8, limit := 3600, divisor := 255, parked := false }

theorem witness_StationCommandsWriteTheirEntry :
    (stationCfg.Legal ∧ Admitted .loadStation 100 (stationBlock 15 stationCfg) small ∧ stationCfg.addr ≠ small.node ∧
      OnlyStation 15 254 small ∧ (∀ x ∈ small.station 15, x.cfg.parked = false) ∧
      StaysConsistent small (small.setStation 15 (some gauge))) ∧
    (small.station 0 = some gauge ∧ Admitted .clearStation 100 [byteOf 0] small ∧ gauge.cfg.parked = false ∧
      StaysConsistent small (small.setStation 0 none)) ∧
    (small.station 14 = none ∧ Admitted .clearStation 100 [byteOf 14] small ∧ StaysConsistent small small) ∧
    (Admitted .parkStation 100 [byteOf 0] small ∧ Admitted .parkStation 100 [byteOf 3] small ∧
      small.station 3 = some parkedGauge ∧ parkedGauge.cfg.parked = true) ∧
    (Admitted .unparkStation 100 [byteOf 0] small ∧ Admitted .unparkStation 100 [byteOf 3] small) := by
  unfold StationConfig.Legal Admitted OnlyStation StaysConsistent
  and_intros <;> decide +kernel

theorem witness_StationCommandsWriteTheirEntry_refused :
    Admitted .loadStation 100 [16, 40, 0, 0, 1, 0, 10, 0] small ∧ Admitted .loadStation 100 [0, 40, 2, 0, 1, 0, 9, 0] small ∧
    (Admitted .loadStation 100 (stationBlock 0 { stationCfg with addr := 12 }) small ∧ ¬ OnlyStation 0 12 small ∧
      Admitted .loadStation 100 (stationBlock 0 { stationCfg with addr := small.node }) small) ∧
    (OnlyStation 3 254 small ∧ (∀ x ∈ small.station 3, x.cfg.parked = true)) ∧
    ((watching.setStation 0 (some counter)).firstFailure = some [5, 0, 0] ∧
      Admitted .loadStation 100 (stationBlock 0 counter.cfg) watching ∧ counter.cfg.Legal) ∧
    (Admitted .clearStation 100 [16] small ∧ Admitted .clearStation 100 [byteOf 3] small ∧
      Admitted .clearStation 100 [byteOf 0] watching) ∧
    (Admitted .parkStation 100 [255] small ∧ Admitted .unparkStation 100 [15] small ∧ small.station 255 = none) := by
  unfold StationConfig.Legal Admitted OnlyStation
  and_intros <;> decide +kernel

/-- In WATCHING a write that leaves the tables consistent stands, and one that would not is refused. -/
theorem witness_StaysConsistent_in_WATCHING : watching.mode = .watching ∧ watching.firstFailure = none ∧
    StaysConsistent watching (watching.setStation 3 none) ∧
    (watching.setStation 0 none).firstFailure = some [5, 0, 0] := by
  unfold StaysConsistent
  and_intros <;> decide +kernel

theorem witness_LaneCommandsWriteTheirLane :
    trackedLane.cfg.Legal ∧ Admitted .loadLane 100 (laneBlock 0 trackedLane.cfg) small ∧
    Admitted .loadLane 100 (laneBlock 31 trackedLane.cfg) small ∧
    StaysConsistent small (small.setLane 0 (some trackedLane)) ∧ (∀ l ∈ small.lane 1, l.tracked = none) ∧
    (small.lane 0 = some trackedLane ∧ trackedLane.tracked = some 1) ∧ small.lane 31 = none ∧
    Admitted .clearLane 100 [byteOf 31] small ∧ Admitted .clearLane 100 [byteOf 0] small ∧
    StaysConsistent small (small.setLane 0 none) := by
  unfold LaneConfig.Legal Admitted StaysConsistent
  and_intros <;> decide +kernel

theorem witness_LaneCommandsWriteTheirLane_refused :
    Admitted .loadLane 100 [32, 0, 1, 1, 1, 1, 0, 0] small ∧ Admitted .loadLane 100 [0, 0, 0, 0, 0, 0] small ∧
    (Admitted .loadLane 100 (laneBlock 0 { trackedLane.cfg with cands := [⟨1, 0⟩] }) watching ∧
      (watching.setLane 0 (some { trackedLane with cfg := { trackedLane.cfg with cands := [⟨1, 0⟩] } })).firstFailure =
        some [5, 0, 0]) ∧
    (Admitted .clearLane 100 [32] small ∧ Admitted .clearLane 100 [byteOf 1] watching ∧
      (watching.setLane 1 none).firstFailure = some [4, 0, 1]) := by
  unfold Admitted
  and_intros <;> decide +kernel

/-- The sector of the site latched. -/
def latchedSite : State := site { levelSector with trip := some latch } .quiet none none none

theorem witness_SectorCommandsWriteTheirSector :
    (sectorCfg.Legal ∧ Admitted .loadSector 100 (sectorBlock 0 sectorCfg 0) small ∧
      (∀ j, j < 8 → ∀ y ∈ small.sector j, ∀ l ∈ sectorCfg.range, l ∉ y.cfg.range) ∧
      (∀ x ∈ small.sector 0, x.cfg.parked = false ∧ x.trip = none) ∧
      StaysConsistent small (small.setSector 0 (some levelSector))) ∧
    (Admitted .clearSector 100 [byteOf 0] (site levelSector .quiet none none none) ∧
      StaysConsistent small (small.setSector 0 none)) ∧
    ((site levelSector .quiet none none none).sector 0 = some levelSector ∧ levelSector.cfg.parked = false ∧
      levelSector.trip = none ∧ Admitted .parkSector 100 [byteOf 0] (site levelSector .quiet none none none)) ∧
    (parkedSector.cfg.parked = true ∧ parkedSector.trip = none ∧
      Admitted .parkSector 100 [byteOf 0] (site parkedSector .quiet none none none) ∧
      Admitted .unparkSector 100 [byteOf 0] (site parkedSector .quiet none none none) ∧
      Admitted .unparkSector 100 [byteOf 0] (site levelSector .quiet none none none)) ∧
    (Admitted .clearTrip 100 [byteOf 0] latchedSite ∧ (∃ x, latchedSite.sector 0 = some x ∧ x.trip ≠ none) ∧
      Admitted .clearTrip 100 [byteOf 0] (site levelSector .quiet none none none)) := by
  unfold SectorConfig.Legal Admitted StaysConsistent
  refine ⟨by decide +kernel, by decide +kernel, by decide +kernel, by decide +kernel, by decide +kernel, ⟨_, rfl, ?_⟩,
    by decide +kernel⟩
  decide

theorem witness_SectorCommandsWriteTheirSector_refused :
    Admitted .loadSector 100 (sectorBlock 8 sectorCfg 0) small ∧
    Admitted .loadSector 100 (sectorBlock 0 { sectorCfg with quorum := 0 } 9) small ∧
    (Admitted .loadSector 100 (sectorBlock 1 sectorCfg 0) (site levelSector .quiet none none none) ∧
      (∃ y ∈ (site levelSector .quiet none none none).sector 0, ∃ l ∈ sectorCfg.range, l ∈ y.cfg.range)) ∧
    (Admitted .loadSector 100 (sectorBlock 0 sectorCfg 0) (site parkedSector .quiet none none none) ∧
      Admitted .loadSector 100 (sectorBlock 0 { sectorCfg with pulse := none } 9) latchedSite ∧
      (∀ x ∈ latchedSite.sector 0, x.cfg.parked = false ∧ x.trip ≠ none)) ∧
    (Admitted .loadSector 100 (sectorBlock 0 { sectorCfg with pulse := some ⟨0, 0⟩ } 0) watching ∧
      (watching.setSector 0 (some { levelSector with cfg := { sectorCfg with pulse := some ⟨0, 0⟩ } })).firstFailure =
        some [6, 0, 0]) ∧
    (Admitted .clearSector 100 [8] small ∧ Admitted .clearSector 100 [byteOf 0] (site parkedSector .quiet none none none) ∧
      Admitted .clearSector 100 [byteOf 0] latchedSite ∧ Admitted .parkSector 100 [byteOf 0] latchedSite ∧
      Admitted .clearSector 100 [byteOf 0] watching ∧ (watching.setSector 0 none).firstFailure = some [3, 0, 0]) ∧
    (Admitted .parkSector 100 [7] small ∧ Admitted .unparkSector 100 [255] small ∧ Admitted .clearTrip 100 [8] small ∧
      small.sector 8 = none) := by
  unfold Admitted
  refine ⟨by decide +kernel, by decide +kernel, ⟨by decide +kernel, ⟨levelSector, rfl, 0, by decide, by decide⟩⟩,
    by decide +kernel, by decide +kernel, by decide +kernel, by decide +kernel⟩

/-- The records of an entry under a written zone: one kept at the limit becomes UNREACHED, one below it PENDING again, one
is new, and an entry left with none PENDING retires. -/
theorem witness_ZoneCommandsWriteTheirZone_records :
    ((dispatching [{ due 20 with tries := 3 }, { due 21 with tries := 1, state := .unreached }]).dispatch.queue =
        [] ++ entry [{ due 20 with tries := 3 }, { due 21 with tries := 1, state := .unreached }] :: [] ∧
      ((dispatching [due 20]).dispatch.queue.map Entry.zone).Nodup ∧ (∀ e ∈ small.dispatch.queue, e.zone ≠ 0)) ∧
    ((dispatching [{ due 20 with tries := 3 }, { due 21 with tries := 1, state := .unreached }]).followZoneWrite 0
        { zoneCfg with sirens := [21, 20, 22], tries := 2 }).dispatch.queue =
      [entry [{ due 21 with tries := 1 }, { due 20 with tries := 2, state := .unreached }, due 22]] ∧
    ((dispatching [{ due 20 with tries := 3 }]).followZoneWrite 0
        { zoneCfg with sirens := [20], tries := 2 }).notices.delivery.detail = some (.delivery 0 1 .watch 20 2) ∧
    ((dispatching [{ due 20 with tries := 3 }]).followZoneWrite 0
        { zoneCfg with sirens := [20], tries := 2 }).dispatch.queue = [] := by
  decide +kernel

theorem witness_ZoneCommandsWriteTheirZone_refused :
    Admitted .loadZone 100 (zoneBlock 12 zoneCfg) small ∧ Admitted .loadZone 100 (zoneBlock 0 { zoneCfg with tries := 0 }) small ∧
    (Admitted .loadZone 100 (zoneBlock 0 { zoneCfg with sectors := [5] }) watching ∧
      (watching.setZone 0 (some (Zone.fresh { zoneCfg with sectors := [5] }))).firstFailure = some [3, 0, 0]) ∧
    (Admitted .clearZone 100 [12] small ∧ Admitted .clearZone 100 [byteOf 0] watching ∧
      (watching.setZone 0 none).firstFailure = some [2, 0, 0]) ∧
    (Admitted .forceStage 100 [11, 1, 0, 1] small ∧ Admitted .forceStage 100 [0, 4, 0, 1] watching ∧
      Admitted .forceStage 100 [0, 1, 5, 161] watching) ∧
    (Admitted .releaseForce 100 [255] small ∧ small.zone 255 = none) := by
  unfold Admitted
  and_intros <;> decide +kernel

theorem witness_ZoneCommandsWriteTheirZone :
    (zoneCfg.Legal small.node ∧ Admitted .loadZone 100 (zoneBlock 11 zoneCfg) small ∧
      StaysConsistent small (small.setZone 11 none) ∧ small.zone 11 = none ∧
      (∀ e ∈ small.dispatch.queue, e.zone ≠ 11)) ∧
    (Admitted .loadZone 100 (zoneBlock 0 zoneCfg) (dispatching [due 20]) ∧ (dispatching [due 20]).zone 0 ≠ none) ∧
    Admitted .clearZone 100 [byteOf 0] (dispatching [due 20]) ∧
    (Admitted .forceStage 100 ([byteOf 0, Stage.evacuate.byte] ++ be16 1440) (dispatching [due 20]) ∧
      Stage.evacuate ≠ .quiet) ∧
    (Admitted .releaseForce 100 [byteOf 0] (site levelSector .watch (some ⟨.watch, 1⟩) none none) ∧
      (∀ x ∈ (site levelSector .watch (some ⟨.watch, 1⟩) none none).zone 0, x.force ≠ none) ∧
      Admitted .releaseForce 100 [byteOf 0] (site levelSector .watch none none none) ∧
      ∀ x ∈ (site levelSector .watch none none none).zone 0, x.force = none) := by
  unfold ZoneConfig.Legal Admitted StaysConsistent
  and_intros <;> decide +kernel

theorem witness_ConsoleOutputAndNoticeCommandsWrite :
    (OutputConfig.unset.Legal ∧ Admitted .loadOutput 100 (outputBlock 6 OutputConfig.unset) small ∧
      small.output 6 = some (Output.idle OutputConfig.unset) ∧
      Admitted .loadOutput 100 (outputBlock 1 { OutputConfig.unset with code := 1 }) small ∧
      (Output.idle OutputConfig.unset).cfg.code ≠ 1 ∧ conditionOf small { OutputConfig.unset with code := 1 } = true ∧
      conditionOf small { OutputConfig.unset with code := 8 } = false) ∧
    (Admitted .setNotices 100 (0x3F :: be16 0) small ∧ Admitted .setNotices 100 (0 :: be16 10) small ∧
      Admitted .setNotices 100 (0 :: be16 3600) small) ∧
    Admitted .clearNotices 100 [0x3F] small ∧
    (Admitted .loadConsole 100 (byteOf 2 :: [100, 101]) small ∧ ([100, 101] : List Byte).Nodup ∧
      Admitted .loadConsole 100 (byteOf 0 :: []) small ∧ Admitted .loadConsole 100 (byteOf 3 :: [1, 2, 3]) small ∧
      Admitted .loadConsole 100 (byteOf 1 :: [255]) small ∧ ¬ ([100, 100] : List Byte).Nodup) := by
  unfold OutputConfig.Legal Cadence.Legal Admitted
  and_intros <;> decide +kernel

theorem witness_ConsoleOutputAndNoticeCommandsWrite_refused :
    Admitted .loadOutput 100 (outputBlock 0 OutputConfig.unset) small ∧
    Admitted .loadOutput 100 (outputBlock 7 OutputConfig.unset) small ∧
    Admitted .loadOutput 100 (outputBlock 1 { OutputConfig.unset with code := 9 }) small ∧
    Admitted .setNotices 100 (0x3F :: be16 9) small ∧ Admitted .setNotices 100 (0x3F :: be16 3601) small := by
  unfold Admitted
  and_intros <;> decide +kernel

theorem witness_ResetCauseAndCountersAreCleared :
    Admitted .readResetCause 50 [] small ∧ Admitted .clearResetCause 100 [] small ∧ Admitted .clearCounters 100 [] small := by
  unfold Admitted
  and_intros <;> decide +kernel

theorem witness_ModeAndStoreCommandsTakeEffect :
    (Admitted .goWatch 100 [] small ∧ small.firstFailure = some [2, 0, 0]) ∧
    (Admitted .goWatch 100 [] (site levelSector .watch none none none) ∧
      (site levelSector .watch none none none).firstFailure = none ∧
      (∀ x ∈ (site levelSector .watch none none none).zone 0, x.stage ≠ .quiet) ∧
      (site levelSector .watch none none none).zone 11 = none) ∧
    Admitted .goCommission 100 [] watching ∧
    (Admitted .eraseTables 100 [] small ∧ (∀ i, i < 8 → ∀ x ∈ small.sector i, x.trip = none) ∧
      Admitted .eraseTables 100 [] latchedSite) ∧
    Admitted .saveTables 100 [] small ∧ Admitted .restart 100 [] watching ∧ Admitted .reset 100 [] watching := by
  unfold Admitted
  and_intros <;> decide +kernel

/-- Each item of the consistency check fails somewhere, and nothing fails where the part may go to WATCHING (R145). -/
theorem witness_ModeAndStoreCommandsTakeEffect_items :
    ItemFails State.reset 1 0 0 ∧ (∀ m i j, ItemFails State.reset m i j → 1 < m ∨ (1 = m ∧ (0 < i ∨ (0 = i ∧ 0 ≤ j)))) ∧
    ItemFails (watching.setZone 0 (some (Zone.fresh { zoneCfg with sectors := [5] }))) 3 0 0 ∧
    ItemFails (watching.setLane 1 none) 4 0 1 ∧ State.reset.firstFailure = some [1, 0, 0] ∧
    watching.firstFailure = none := by
  refine ⟨⟨rfl, rfl, rfl⟩, ?_, ⟨Zone.fresh { zoneCfg with sectors := [5] }, rfl, by decide +kernel, rfl⟩,
    ⟨levelSector, rfl, by decide, by decide, by decide +kernel⟩, by decide +kernel, by decide +kernel⟩
  intro m i j h
  match m, h with
  | 0, h => exact h.elim
  | 1, h => exact .inr ⟨rfl, by obtain ⟨_, hi, _⟩ := h; omega⟩
  | m + 2, _ => omega

/-! ## The kept properties hold of a part at work -/

/-- A part in WATCHING whose zone has just risen to its sector's stage, with an alert to send. -/
def atWork : State := watching.evaluateZone 0

/-- Nor has anything run out in these. -/
theorem witness_settled_at_work :
    (∀ s ∈ [full, saving .empty, stored, atWork, latchedSite, sending .nothing small, sending .restart watching], s.settle = s) ∧
    (∀ s ∈ [dispatching [due 20], at_ 59 59 8 small, at_ 59 58 9 small, at_ 0 59 9 small], s.settle = s) := by
  and_intros <;> decide +kernel

/-- What some held value satisfies, as a test. -/
theorem held_iff {α : Type} (o : Option α) (p : α → Prop) [DecidablePred p] :
    (∃ x ∈ o, p x) ↔ o.any (fun x => decide (p x)) = true := by
  cases o <;> simp

theorem atWork_save : atWork.save = none := by
  decide +kernel

/-- The properties that every step keeps hold of a part at work, and a tick waiting there answers a next state: the
hypotheses of the statements about every step are met beyond reset. -/
theorem witness_EveryStepKeeps_step : atWork.mode = .watching ∧ atWork.dispatch.queue.length = 1 ∧
    leaves (step { atWork with pending := [.tenthTick] }) (after .tenthTick atWork) = true := by
  decide +kernel

theorem witness_EveryStepKeepsTheTimeLegal : TimeLegal atWork := by
  unfold TimeLegal
  decide +kernel

theorem witness_EveryStepKeepsQueuesAndCountersBounded : QueuesBounded atWork ∧ CountersBounded atWork := by
  unfold QueuesBounded CountersBounded
  and_intros <;> decide +kernel

theorem witness_EveryStepKeepsQueuesAndCountersBounded_bins :
    BinsBounded atWork ∧ (atWork.sector 0).map Sector.bins = some (List.replicate 12 0) := by
  unfold BinsBounded
  and_intros <;> decide +kernel

theorem witness_EveryStepKeepsBlankEmpty : State.reset.mode = .blank ∧ BlankIsEmpty State.reset ∧ BlankIsEmpty atWork := by
  unfold BlankIsEmpty
  and_intros <;> decide +kernel

theorem witness_EveryStepKeepsWatchingConsistent : WatchingIsConsistent atWork :=
  ⟨by decide +kernel, trivial, by rw [atWork_save]; exact fun j h => nomatch h⟩

theorem witness_EveryStepKeepsZonesCovered : SectorsStaged atWork ∧ ZonesCovered atWork := by
  unfold SectorsStaged ZonesCovered
  and_intros <;> decide +kernel

theorem witness_EveryStepKeepsTheDispatchQueueOrdered : SirensListed atWork ∧ DispatchOrdered atWork := by
  unfold SirensListed DispatchOrdered
  simp only [held_iff]
  exact ⟨⟨by decide +kernel, trivial, by rw [atWork_save]; exact fun j h => nomatch h⟩, by decide +kernel,
    by decide +kernel, by decide +kernel⟩

set_option synthInstance.maxSize 2000 in
set_option synthInstance.maxHeartbeats 200000 in
theorem witness_EveryStepKeepsStationsLegal : StationsLegal atWork := by
  unfold StationsLegal
  decide +kernel

theorem witness_EveryStepKeepsLanesLegal : LanesLegal atWork := by
  unfold LanesLegal
  simp only [held_iff]
  decide +kernel

theorem witness_EveryStepKeepsOutputsFollowing : OutputsFollow atWork ∧ OutputsFollow (cadenced 0) := by
  unfold OutputsFollow
  and_intros <;> decide +kernel

theorem witness_EveryStepKeepsNoticesLegal : NoticesLegal atWork := by
  unfold NoticesLegal
  and_intros <;> decide +kernel

end Sys2Proof.Tests
end

section
/-! Proofs of the statements on the line ports (chapter 1): what a port update touches, what one character does at a
receiver, what the characters of a whole frame come to, and what becomes of a frame with a bad address. -/

namespace Sys2Proof.Machine

/-! ## Changing one port -/

@[simp] theorem State.port_updPort (p : PortId) (f : Port → Port) (s : State) :
    (s.updPort p f).port p = f (s.port p) := by
  cases p <;> rfl

@[simp] theorem State.updPort_node (p : PortId) (f : Port → Port) (s : State) : (s.updPort p f).node = s.node := by
  cases p <;> rfl

theorem State.updPort_updPort (p : PortId) (f g : Port → Port) (s : State) :
    (s.updPort p f).updPort p g = s.updPort p (fun q => g (f q)) := by
  cases p <;> rfl

theorem State.updPort_const (p : PortId) (f : Port → Port) (s : State) :
    s.updPort p f = s.updPort p (fun _ => f (s.port p)) := by
  cases p <;> rfl

/-- Only the port as it stands matters to a change of it. -/
theorem State.updPort_congr {p : PortId} {f g : Port → Port} {s : State} (h : f (s.port p) = g (s.port p)) :
    s.updPort p f = s.updPort p g := by
  rw [State.updPort_const p f, h, ← State.updPort_const]

theorem State.updPort_id (p : PortId) (s : State) : s.updPort p (fun q => q) = s := by
  cases p <;> rfl

/-! ## The receiver of a port -/

/-- Put the receiver of a port in a state. -/
def State.setRx (p : PortId) (r : Receiver) (s : State) : State :=
  s.updPort p (fun q => { q with rx := r })

@[simp] theorem State.setRx_rx (p : PortId) (r : Receiver) (s : State) : ((s.setRx p r).port p).rx = r := by
  simp [State.setRx]

@[simp] theorem State.setRx_line (p : PortId) (r : Receiver) (s : State) :
    ((s.setRx p r).port p).line = (s.port p).line := by
  simp [State.setRx]

@[simp] theorem State.setRx_setRx (p : PortId) (r r' : Receiver) (s : State) :
    (s.setRx p r).setRx p r' = s.setRx p r' :=
  State.updPort_updPort ..

theorem State.setRx_self {p : PortId} {r : Receiver} {s : State} (h : (s.port p).rx = r) : s.setRx p r = s := by
  have same : { s.port p with rx := r } = s.port p := by rw [← h]
  exact (State.updPort_congr same).trans (s.updPort_id p)

/-! ## One character at a receiver (R3, R4) -/

theorem inRange_iff {lo hi n : Nat} : inRange lo hi n = true ↔ lo ≤ n ∧ n ≤ hi := by
  simp [inRange]

theorem inRange_eq_false_iff {lo hi n : Nat} : inRange lo hi n = false ↔ n < lo ∨ hi < n := by
  rw [← Bool.not_eq_true, inRange_iff]
  omega

theorem rxStep_hunt_sync : rxStep .hunt syncByte = (.length, .nothing) := rfl

theorem rxStep_hunt_other {b : Byte} (h : b ≠ syncByte) : rxStep .hunt b = (.hunt, .nothing) := if_neg h

theorem rxStep_length_kept {b : Byte} (h : inRange 4 60 b.toNat = true) :
    rxStep .length b = (.body b [] b.toNat, .nothing) := if_pos h

theorem rxStep_length_refused {b : Byte} (h : inRange 4 60 b.toNat = false) :
    rxStep .length b = (.hunt, .oversize) := if_neg (by simp [h])

theorem rxStep_body_more {len b : Byte} {got : List Byte} {left : Nat} (h : 1 < left) :
    rxStep (.body len got left) b = (.body len (got ++ [b]) (left - 1), .nothing) := if_neg (by omega)

theorem rxStep_body_last {len b : Byte} {got : List Byte} {left : Nat} (h : left ≤ 1) :
    rxStep (.body len got left) b = (.check len (got ++ [b]) none, .nothing) := if_pos h

theorem rxStep_check_first {len b : Byte} {got : List Byte} :
    rxStep (.check len got none) b = (.check len got (some b), .nothing) := rfl

theorem rxStep_check_second {len h b : Byte} {got : List Byte} :
    rxStep (.check len got (some h)) b = (.hunt, judgeFrame len got (h ++ b)) := rfl

theorem judgeFrame_differs {len : Byte} {got : List Byte} {crc : Word} (h : crc16 (len :: got) ≠ crc) :
    judgeFrame len got crc = .crcError := if_neg h

theorem judgeFrame_agrees {len : Byte} {got : List Byte} {crc : Word} {f : Frame} (h : crc16 (len :: got) = crc)
    (hf : frameOf got crc = some f) : judgeFrame len got crc = .good f := by
  unfold judgeFrame
  rw [if_pos h, hf]

/-- At mark, a character moves the receiver and brings about what the receiver answers. -/
theorem State.receive_of_rxStep {p : PortId} {b : Byte} {s : State} {r r' : Receiver} {e : RxEvent}
    (line : (s.port p).line = .mark) (rx : (s.port p).rx = r) (move : rxStep r b = (r', e)) :
    s.receive p b = (s.setRx p r').rxEvent p e := by
  unfold State.receive
  rw [if_pos line, rx, move]
  rfl

/-- The same, for a character that brings nothing about but the receiver's move. -/
theorem State.receive_setRx {p : PortId} {b : Byte} {s : State} {r r' : Receiver} (line : (s.port p).line = .mark)
    (move : rxStep r b = (r', .nothing)) : (s.setRx p r).receive p b = s.setRx p r' := by
  rw [State.receive_of_rxStep ((s.setRx_line p r).trans line) (s.setRx_rx p r) move, State.setRx_setRx]
  rfl

/-- A LEN out of range is counted, and the receiver returns to HUNT (R3). -/
theorem State.receive_oversize {p : PortId} {b : Byte} {s : State} (line : (s.port p).line = .mark)
    (rx : (s.port p).rx = .length) (out : inRange 4 60 b.toNat = false) :
    s.receive p b = s.updPort p (fun q => { q with rx := .hunt, oversize := satInc q.oversize }) :=
  (State.receive_of_rxStep line rx (rxStep_length_refused out)).trans (State.updPort_updPort ..)

/-- A check code that differs is counted, and the receiver returns to HUNT (R4). -/
theorem State.receive_crcError {p : PortId} {b h len : Byte} {got : List Byte} {s : State}
    (line : (s.port p).line = .mark) (rx : (s.port p).rx = .check len got (some h)) (differs : crc16 (len :: got) ≠ h ++ b) :
    s.receive p b = s.updPort p (fun q => { q with rx := .hunt, crcError := satInc q.crcError }) := by
  have move : rxStep (.check len got (some h)) b = (.hunt, .crcError) := by
    rw [rxStep_check_second, judgeFrame_differs differs]
  exact (State.receive_of_rxStep line rx move).trans (State.updPort_updPort ..)

/-- A check code that agrees is counted received, and the frame goes to its port's decision (R4). -/
theorem State.receive_good {p : PortId} {b h len : Byte} {got : List Byte} {f : Frame} {s : State}
    (line : (s.port p).line = .mark) (rx : (s.port p).rx = .check len got (some h)) (agrees : crc16 (len :: got) = h ++ b)
    (frame : frameOf got (h ++ b) = some f) :
    s.receive p b =
      (s.updPort p (fun q => { q with rx := .hunt, received := satInc q.received })).decideFrame p f := by
  have move : rxStep (.check len got (some h)) b = (.hunt, .good f) := by
    rw [rxStep_check_second, judgeFrame_agrees agrees frame]
  exact (State.receive_of_rxStep line rx move).trans (congrArg (State.decideFrame p f) (State.updPort_updPort ..))

/-! ## The steps of a receive line -/

theorem exec_characterReceived {p : PortId} {b : Byte} {s t : State} (h : s.settle.receive p b = t) :
    exec (.characterReceived p b) s = .next (State.finish s.settle t) := by
  subst h
  rfl

/-- A character that only moves the receiver. -/
theorem exec_characterReceived_of_move {p : PortId} {b : Byte} {s : State} {r r' : Receiver}
    (line : (s.settle.port p).line = .mark) (rx : (s.settle.port p).rx = r) (move : rxStep r b = (r', .nothing)) :
    exec (.characterReceived p b) s = .next (State.finish s.settle (s.settle.setRx p r')) :=
  exec_characterReceived (State.receive_of_rxStep line rx move)

/-- The row of a LEN out of range is the character that is that LEN (R3). -/
theorem exec_oversizeError {p : PortId} {b : Byte} {s : State} (rx : (s.settle.port p).rx = .length)
    (out : inRange 4 60 b.toNat = false) : exec (.oversizeError p b) s = exec (.characterReceived p b) s :=
  congrArg (fun t => Host.Outcome.next (State.finish s.settle t)) (if_pos ⟨rx, out⟩)

theorem exec_brokenCharacter {p : PortId} {s t : State} (h : s.settle.updPort p Port.breakChar = t) :
    exec (.brokenCharacter p) s = .next (State.finish s.settle t) := by
  subst h
  rfl

/-- In HUNT a broken character ends no frame: it only takes the line to space (R5). -/
theorem Port.breakChar_hunt {q : Port} (line : q.line = .mark) (rx : q.rx = .hunt) :
    q.breakChar = { q with line := .space } := by
  simp [Port.breakChar, Port.endFrame, Receiver.busy, line, rx]

/-- Settles O5: one rule of the receiver for each state it is in. -/
theorem receiversTakeCharacters : Obligations.ReceiversTakeCharacters := by
  unfold Obligations.ReceiversTakeCharacters
  constructor <;> intro p b s₀ s line
  · refine ⟨?huntOther, ?huntSync, ?huntBroken, ?lengthKept, ?lengthRefused⟩
    case huntOther =>
      intro rx other
      have step := exec_characterReceived_of_move line rx (rxStep_hunt_other other)
      rwa [State.setRx_self rx] at step
    case huntSync =>
      intro rx sync
      subst sync
      exact exec_characterReceived_of_move line rx rxStep_hunt_sync
    case huntBroken =>
      intro rx
      exact exec_brokenCharacter (State.updPort_congr (Port.breakChar_hunt line rx))
    case lengthKept =>
      intro rx lo hi
      exact exec_characterReceived_of_move line rx (rxStep_length_kept (inRange_iff.mpr ⟨lo, hi⟩))
    case lengthRefused =>
      intro rx out
      have refused : inRange 4 60 b.toNat = false := inRange_eq_false_iff.mpr out
      have step := exec_characterReceived (State.receive_oversize line rx refused)
      exact ⟨step, (exec_oversizeError rx refused).trans step⟩
  · refine ⟨?bodyMore, ?bodyLast, ?checkFirst, ?checkDiffers, ?checkAgrees⟩
    case bodyMore =>
      intro len got left rx more
      exact exec_characterReceived_of_move line rx (rxStep_body_more more)
    case bodyLast =>
      intro len got left rx last
      exact exec_characterReceived_of_move line rx (rxStep_body_last last)
    case checkFirst =>
      intro len got rx
      exact exec_characterReceived_of_move line rx rxStep_check_first
    case checkDiffers =>
      intro len got h rx differs
      exact exec_characterReceived (State.receive_crcError line rx differs)
    case checkAgrees =>
      intro len dst src kind seq payload h rx agrees
      exact exec_characterReceived (State.receive_good line rx agrees rfl)

/-! ## The characters of a whole frame (R4) -/

/-- The bytes of a word, the most significant first, make it up again (R203). -/
theorem byteOf_append_byteOf (w : Word) : byteOf (w.toNat / 256) ++ byteOf w.toNat = w := by
  have small := w.isLt
  apply BitVec.eq_of_toNat_eq
  rw [BitVec.toNat_append, ← Nat.shiftLeft_add_eq_or_of_lt (byteOf w.toNat).isLt, Nat.shiftLeft_eq]
  simp only [byteOf, BitVec.toNat_ofNat]
  omega

theorem frameLen_toNat {f : Frame} (h : f.payload.length ≤ 56) : (frameLen f).toNat = (frameBody f).length := by
  simp only [frameLen, frameBody, byteOf, BitVec.toNat_ofNat, List.length_cons]
  omega

/-- In BODY the bytes still missing are stored one after another, and the last moves the receiver to CHECK (R3). -/
theorem State.foldl_receive_body {p : PortId} {len : Byte} {s : State} (line : (s.port p).line = .mark)
    (b : Byte) (rest got : List Byte) :
    (b :: rest).foldl (fun t c => t.receive p c) (s.setRx p (.body len got (rest.length + 1))) =
      s.setRx p (.check len (got ++ b :: rest) none) := by
  induction rest generalizing b got with
  | nil => exact State.receive_setRx line (rxStep_body_last (by simp))
  | cons c rest ih =>
    rw [List.foldl_cons, State.receive_setRx line (rxStep_body_more (by simp))]
    simpa using ih c (got ++ [b])

/-- A whole frame that arrives comes to its judgement, the receiver being in HUNT again. -/
theorem State.feed_arrives {p : PortId} {f : Frame} {s : State} (h : Arrives p f s) :
    s.feed p f = s.rxEvent p (judgeFrame (frameLen f) (frameBody f) f.crc) := by
  obtain ⟨short, line, hunt⟩ := h
  have lenBytes := frameLen_toNat short
  have size : (frameBody f).length = f.payload.length + 4 := rfl
  have kept : inRange 4 60 (frameLen f).toNat = true := inRange_iff.mpr (by omega)
  have sync : s.receive p syncByte = s.setRx p .length :=
    State.receive_of_rxStep line hunt rxStep_hunt_sync
  have length : (s.setRx p .length).receive p (frameLen f) = s.setRx p (.body (frameLen f) [] (frameBody f).length) := by
    rw [State.receive_setRx line (rxStep_length_kept kept), lenBytes]
  have body : (frameBody f).foldl (fun t c => t.receive p c) (s.setRx p (.body (frameLen f) [] (frameBody f).length)) =
      s.setRx p (.check (frameLen f) (frameBody f) none) :=
    State.foldl_receive_body line f.dst (f.src :: f.kind :: f.seq :: f.payload) []
  have check : ∀ high low : Byte,
      ((s.setRx p (.check (frameLen f) (frameBody f) none)).receive p high).receive p low =
        s.rxEvent p (judgeFrame (frameLen f) (frameBody f) (high ++ low)) := by
    intro high low
    rw [State.receive_setRx line rxStep_check_first,
      State.receive_of_rxStep ((s.setRx_line p _).trans line) (s.setRx_rx p _) rxStep_check_second,
      State.setRx_setRx, State.setRx_self hunt]
  unfold State.feed frameWire be16
  rw [List.foldl_cons, List.foldl_cons, List.foldl_append, sync, length, body, List.foldl_cons, List.foldl_cons,
    List.foldl_nil, check, byteOf_append_byteOf]

/-- A good frame is counted received and goes to its port's decision (R4). -/
theorem State.feed_goodArrival {p : PortId} {f : Frame} {s : State} (h : GoodArrival p f s) :
    s.feed p f = (s.arrived p).decideFrame p f := by
  obtain ⟨arrives, crc⟩ := h
  have good : judgeFrame (frameLen f) (frameBody f) f.crc = .good f := judgeFrame_agrees crc.symm rfl
  rw [State.feed_arrives arrives, good]
  rfl

theorem exec_frameReceived (p : PortId) (f : Frame) (s : State) :
    exec (.frameReceived p f) s = .next (State.finish s.settle (s.settle.feed p f)) := rfl

/-! ## Frames with a bad address (R7) -/

@[simp] theorem State.arrived_node (p : PortId) (s : State) : (s.arrived p).node = s.node :=
  s.updPort_node p _

theorem badAddress_iff {node : Byte} {f : Frame} :
    badAddress node f = true ↔ f.dst = 0 ∨ f.src = 0 ∨ f.src = 255 ∨ f.src = node := by
  simp [badAddress, or_assoc]

/-- On every port the addresses are tested before anything else. -/
theorem State.decideFrame_of_badAddress {p : PortId} {f : Frame} {s : State} (h : badAddress s.node f = true) :
    s.decideFrame p f = s.updPort p Port.countBadAddress := by
  cases p <;> exact if_pos h

/-- Settles O8: a good arrival is one decision, and that decision tests the addresses first. -/
theorem badAddressFramesAreDiscarded : Obligations.BadAddressFramesAreDiscarded := by
  unfold Obligations.BadAddressFramesAreDiscarded
  intro p f s₀ s good bad
  have tested : badAddress (s.arrived p).node f = true := by
    rw [State.arrived_node]
    exact badAddress_iff.mpr bad
  rw [exec_frameReceived, State.feed_goodArrival good, State.decideFrame_of_badAddress tested]
  rfl

end Sys2Proof.Machine
end

section
/-! Proofs of the statements on the Lane Map (chapter 4): when a candidate gives a value, which rank a search in rank
order finds, and what reselection makes of it. -/

namespace Sys2Proof.Machine

/-! ## The value of a candidate (R36, R50) -/

/-- A station that stores a sweep gives the value at an index below its expected lanes. -/
theorem Station.sweepValue_of_sweep {x : Station} {n i v : Nat} {vs : List Nat} (cls : x.cfg.cls = .sweep n)
    (contents : x.contents = some (.sweep vs)) :
    x.sweepValue i = some v ↔ i < n ∧ vs[i]? = some v ∧ v ≠ noEcho := by
  unfold Station.sweepValue
  rw [cls, contents]
  simp [Option.bind_eq_some_iff]

theorem Station.sweepValue_eq_some_iff {x : Station} {i v : Nat} : x.sweepValue i = some v ↔
    ∃ n vs, x.cfg.cls = .sweep n ∧ x.contents = some (.sweep vs) ∧ i < n ∧ vs[i]? = some v ∧ v ≠ noEcho := by
  constructor
  · intro given
    have sweeps : ∃ n vs, x.cfg.cls = .sweep n ∧ x.contents = some (.sweep vs) := by
      unfold Station.sweepValue at given
      split at given
      case h_1 n vs cls contents => exact ⟨n, vs, cls, contents⟩
      case h_2 => exact nomatch given
    obtain ⟨n, vs, cls, contents⟩ := sweeps
    exact ⟨n, vs, cls, contents, (Station.sweepValue_of_sweep cls contents).mp given⟩
  · rintro ⟨n, vs, cls, contents, stored⟩
    exact (Station.sweepValue_of_sweep cls contents).mpr stored

theorem usableValue_eq_some_iff {s : State} {c : Candidate} {v : Nat} : usableValue s c = some v ↔
    ∃ x, s.station c.station = some x ∧ x.live = .live ∧ x.cfg.parked = false ∧ x.sweepValue c.sweepLane = some v := by
  unfold usableValue
  cases s.station c.station with
  | none => simp
  | some x => simp [and_assoc]

/-! ## The first rank of a lane that passes a test -/

theorem find?_zipIdx_eq_none {α : Type} {cs : List α} {p : Nat → α → Bool}
    (fails : ∀ (r : Nat) (c : α), cs[r]? = some c → p r c = false) : cs.zipIdx.find? (fun q => p q.2 q.1) = none := by
  rw [List.find?_eq_none]
  intro q ranked
  rw [fails q.2 q.1 (List.mem_zipIdx_iff_getElem?.mp ranked)]
  exact Bool.false_ne_true

theorem Lane.firstRank_eq_none {l : Lane} {p : Nat → Candidate → Bool}
    (fails : ∀ (r : Nat) (c : Candidate), l.cfg.cands[r]? = some c → p r c = false) : l.firstRank p = none :=
  Option.map_eq_none_iff.mpr (find?_zipIdx_eq_none fails)

theorem Lane.firstRank_eq_some {l : Lane} {p : Nat → Candidate → Bool} {before after : List Candidate} {c : Candidate}
    (cands : l.cfg.cands = before ++ c :: after)
    (fails : ∀ (r : Nat) (k : Candidate), before[r]? = some k → p r k = false) (passes : p before.length c = true) :
    l.firstRank p = some (before.length, c) := by
  unfold Lane.firstRank
  rw [cands, List.zipIdx_append, List.find?_append, find?_zipIdx_eq_none fails, Option.none_or, List.zipIdx_cons,
    Nat.zero_add]
  simp only [List.find?_cons, passes, Option.map_some]

/-! ## Reselection (R57) -/

theorem Lane.reselect_of_firstRank {s : State} {l : Lane} {r v : Nat} {c : Candidate}
    (first : l.firstRank (fun _ k => (usableValue s k).isSome) = some (r, c)) (value : usableValue s c = some v) :
    l.reselect s = l.take r v (heardAt s c) := by
  unfold Lane.reselect
  rw [first]
  simp only [value, Option.getD_some]

theorem Lane.reselect_of_no_rank {s : State} {l : Lane}
    (unusable : l.firstRank (fun _ k => (usableValue s k).isSome) = none) :
    l.reselect s = { l with tracked := none, loss := 0 } := by
  unfold Lane.reselect
  rw [unusable]

/-- Settles O23: reselection takes what a search for a usable candidate in rank order finds. -/
theorem reselectionTakesTheFirstUsable : Obligations.ReselectionTakesTheFirstUsable := by
  unfold Obligations.ReselectionTakesTheFirstUsable
  refine ⟨?usable, ?first, ?seeking⟩
  case usable =>
    intro s c v
    simp only [usableValue_eq_some_iff, Station.sweepValue_eq_some_iff, noEcho, exists_and_left]
  case first =>
    intro s l before after c v cands unusable value
    have fails : ∀ (r : Nat) (k : Candidate), before[r]? = some k → (usableValue s k).isSome = false := by
      intro r k ranked
      rw [unusable k (List.mem_of_getElem? ranked), Option.isSome_none]
    have passes : (usableValue s c).isSome = true := Option.isSome_of_eq_some value
    exact Lane.reselect_of_firstRank (Lane.firstRank_eq_some cands fails passes) value
  case seeking =>
    intro s l unusable
    refine Lane.reselect_of_no_rank (Lane.firstRank_eq_none fun r k ranked => ?_)
    rw [unusable k (List.mem_of_getElem? ranked), Option.isSome_none]

end Sys2Proof.Machine
end

section
/-! Proofs of the statements on sector assessment (chapter 5): the highest stage that quorum lanes hold, and the level a
lane update makes of it. -/

namespace Sys2Proof.Machine

/-! ## The highest stage that quorum lanes hold (R70) -/

/-- A stage's mask holds quorum lanes. QUIET has no mask and is always held. -/
def QuorumHeld (q : Nat) (m : Masks) : Stage → Prop
  | .quiet => True
  | .watch => q ≤ m.watch.length
  | .prepare => q ≤ m.prepare.length
  | .evacuate => q ≤ m.evacuate.length

theorem quorumHeld_iff {q : Nat} {m : Masks} {st : Stage} : QuorumHeld q m st ↔
    st = .quiet ∨ (st = .watch ∧ q ≤ m.watch.length) ∨ (st = .prepare ∧ q ≤ m.prepare.length) ∨
      (st = .evacuate ∧ q ≤ m.evacuate.length) := by
  cases st <;> simp [QuorumHeld]

/-- What the search finds is no higher than its top, and held. -/
theorem quorumStage_within_held (q : Nat) (m : Masks) (top : Stage) :
    (quorumStage q m top).num ≤ top.num ∧ QuorumHeld q m (quorumStage q m top) := by
  unfold quorumStage
  split_ifs with evacuate prepare watch
  · exact evacuate
  · exact prepare
  · exact watch
  · exact ⟨Nat.zero_le _, trivial⟩

/-- No held stage up to the top stands above what the search finds. -/
theorem num_le_quorumStage {q : Nat} {m : Masks} {top st : Stage} (held : QuorumHeld q m st)
    (within : st.num ≤ top.num) : st.num ≤ (quorumStage q m top).num := by
  have found : st.num ≤ top.num ∧ QuorumHeld q m st := ⟨within, held⟩
  unfold quorumStage
  cases st with
  | quiet => exact Nat.zero_le _
  | watch =>
    split_ifs with _ _ watch
    case neg => exact absurd found watch
    all_goals decide
  | prepare =>
    rw [if_pos (c := 2 ≤ top.num ∧ q ≤ m.prepare.length) found]
    split_ifs <;> decide
  | evacuate => rw [if_pos (c := 3 ≤ top.num ∧ q ≤ m.evacuate.length) found]

/-! ## The level after a lane update -/

theorem num_stageMax (a b : Stage) : (a.max b).num = max a.num b.num := by
  unfold Stage.max
  split_ifs <;> omega

theorem Sector.laneUpdate_level {s : State} {x : Sector} (quorate : x.cfg.quorum ≤ (x.laneUpdate s).valid) :
    (x.laneUpdate s).level = levelFrom x.cfg.quorum (x.laneUpdate s).rise (x.laneUpdate s).hold x.level :=
  if_pos (decide_eq_true quorate)

/-- Settles O26: up is the search of the rise masks from EVACUATE, hold that of the hold masks from the current level. -/
theorem levelIsTheHigherOfUpAndHold : Obligations.LevelIsTheHigherOfUpAndHold := by
  unfold Obligations.LevelIsTheHigherOfUpAndHold
  intro s x quorate y
  obtain ⟨-, upHeld⟩ := quorumStage_within_held x.cfg.quorum y.rise .evacuate
  obtain ⟨holdWithin, holdHeld⟩ := quorumStage_within_held x.cfg.quorum y.hold x.level
  have upHighest (st : Stage) (held : QuorumHeld x.cfg.quorum y.rise st) :=
    num_le_quorumStage (top := .evacuate) held (by cases st <;> decide)
  have holdHighest (st : Stage) (held : QuorumHeld x.cfg.quorum y.hold st) (within : st.num ≤ x.level.num) :=
    num_le_quorumStage held within
  refine ⟨quorumStage x.cfg.quorum y.rise .evacuate, quorumStage x.cfg.quorum y.hold x.level, ?level,
    quorumHeld_iff.mp upHeld, upHighest .watch, upHighest .prepare, upHighest .evacuate,
    holdWithin, quorumHeld_iff.mp holdHeld, holdHighest .watch, holdHighest .prepare, holdHighest .evacuate⟩
  rw [Sector.laneUpdate_level quorate, levelFrom, num_stageMax]

end Sys2Proof.Machine
end

section
/-! Proofs of the statement on the clock commands (chapter 9): what SET CLOCK's argument block reads back as, when it is
admitted, and what READ CLOCK's reply carries. -/

namespace Sys2Proof.Machine

/-! ## The argument block of SET CLOCK (R148) -/

theorem byteOf_toNat {n : Nat} (h : n ≤ 255) : (byteOf n).toNat = n := by
  simp only [byteOf, BitVec.toNat_ofNat]
  omega

/-- The two bytes of a field that fits them read back as its value (R203). -/
theorem word16_be16 {n : Nat} (h : n ≤ 65535) : word16 (byteOf (n / 256)) (byteOf n) = n := by
  simp only [word16, byteOf, BitVec.toNat_ofNat]
  omega

/-- The five counters as SET CLOCK carries them. -/
def clockBlock (t : TimeStamp) : List Byte :=
  be16 t.day ++ [byteOf t.hour, byteOf t.minute, byteOf t.second, byteOf t.tenth]

/-- Every counter fits the bytes that carry it. -/
def TimeStamp.Fits (t : TimeStamp) : Prop :=
  t.day ≤ 65535 ∧ t.hour ≤ 255 ∧ t.minute ≤ 255 ∧ t.second ≤ 255 ∧ t.tenth ≤ 255

/-- The counters below the day are in range (R148). The day has no range of its own: its two bytes bound it. -/
def TimeStamp.InRange (t : TimeStamp) : Prop :=
  t.hour ≤ 23 ∧ t.minute ≤ 59 ∧ t.second ≤ 59 ∧ t.tenth ≤ 9

theorem arg_clockBlock {t : TimeStamp} (h : t.Fits) :
    arg16 (clockBlock t) 0 = t.day ∧ arg (clockBlock t) 2 = t.hour ∧ arg (clockBlock t) 3 = t.minute ∧
      arg (clockBlock t) 4 = t.second ∧ arg (clockBlock t) 5 = t.tenth := by
  obtain ⟨day, hour, minute, second, tenth⟩ := h
  exact ⟨word16_be16 day, byteOf_toNat hour, byteOf_toNat minute, byteOf_toNat second, byteOf_toNat tenth⟩

theorem clockArgs_of_inRange {t : TimeStamp} (fits : t.Fits) (inside : t.InRange) :
    clockArgs (clockBlock t) = some { t with unset := false } := by
  obtain ⟨day, hour, minute, second, tenth⟩ := arg_clockBlock fits
  obtain ⟨hourIn, minuteIn, secondIn, tenthIn⟩ := inside
  simp [clockArgs, day, hour, minute, second, tenth, hourIn, minuteIn, secondIn, tenthIn]

theorem TimeStamp.not_inRange_iff {t : TimeStamp} :
    ¬ t.InRange ↔ 23 < t.hour ∨ 59 < t.minute ∨ 59 < t.second ∨ 9 < t.tenth := by
  unfold TimeStamp.InRange
  omega

theorem clockArgs_of_not_inRange {t : TimeStamp} (fits : t.Fits) (outside : ¬ t.InRange) :
    clockArgs (clockBlock t) = none := by
  obtain ⟨-, hour, minute, second, tenth⟩ := arg_clockBlock fits
  unfold clockArgs
  rw [hour, minute, second, tenth]
  exact if_neg (by simpa [TimeStamp.InRange, and_assoc] using outside)

/-! ## SET CLOCK -/

/-- SET CLOCK is a writing command of six argument bytes that every mode allows (R142, R195). -/
theorem admitted_setClock_iff {src : Byte} {args : List Byte} {s : State} (length : args.length = 6) :
    Admitted .setClock src args s ↔ s.heldPlaces < 4 ∧ (s.console = [] ∨ src ∈ s.console) ∧ s.save = none := by
  simp [Admitted, requiredLength, isReading, modeOk, length]

/-- A block that reads back as a time is written, and the prescaler starts afresh (R25). -/
theorem exec_setClock_of_some {src tag : Byte} {args : List Byte} {s : State} {t : TimeStamp}
    (admitted : Admitted .setClock src args s.settle) (read : clockArgs args = some t) :
    exec (.setClock src tag args) s = .next (State.finish s.settle
      (({ s.settle with time := { now := t, phase := 0 } }).reply src 0x03 tag .done [] .nothing)) := by
  have taken : bodySetClock args s.settle = written { s.settle with time := { now := t, phase := 0 } } := by
    rw [bodySetClock, read]
  have step := commandStep_admitted (body := bodySetClock args) (tag := tag) admitted
  rwa [taken] at step

theorem exec_setClock_of_none {src tag : Byte} {args : List Byte} {s : State}
    (admitted : Admitted .setClock src args s.settle) (outside : clockArgs args = none) :
    exec (.setClock src tag args) s =
      .next (State.finish s.settle (s.settle.reply src 0x03 tag .range [] .nothing)) := by
  have refused : bodySetClock args s.settle = .refuse .range [] := by
    rw [bodySetClock, outside]
  have step := commandStep_admitted (body := bodySetClock args) (tag := tag) admitted
  rwa [refused] at step

/-! ## READ CLOCK -/

theorem exec_readClock_admitted {src tag : Byte} {args : List Byte} {s : State}
    (h : Admitted .readClock src args s.settle) :
    exec (.readClock src tag args) s =
      .next (State.finish s.settle (s.settle.reply src 0x02 tag .done (clockData s.settle) .nothing)) :=
  commandStep_admitted h

/-- Data that fits a frame is carried whole (R144). -/
theorem replyPayload_of_short {data : List Byte} (code tag : Byte) (o : Outcome) (short : data.length ≤ 53) :
    replyPayload code tag o data = code :: tag :: o.code :: data := by
  rw [replyPayload, if_pos short]

theorem clockData_length (s : State) : (clockData s).length = 7 := rfl

/-- Settles O42: READ CLOCK's seven data bytes fit its reply, and SET CLOCK's block reads back as the counters written
into it. -/
theorem clockIsReadAndSet : Obligations.ClockIsReadAndSet := by
  unfold Obligations.ClockIsReadAndSet
  constructor
  · intro src tag s₀ s admitted
    have short : (clockData s).length ≤ 53 := by simp [clockData_length]
    rw [exec_readClock_admitted admitted, State.reply, replyPayload_of_short _ _ _ short]
    rfl
  · intro src tag day hour minute second tenth s₀ s dayFits hourFits minuteFits secondFits tenthFits args clock
    have fits : clock.now.Fits := ⟨dayFits, hourFits, minuteFits, secondFits, tenthFits⟩
    refine ⟨admitted_setClock_iff rfl, ?inside, ?outside⟩
    case inside =>
      intro admitted hourIn minuteIn secondIn tenthIn
      have read := clockArgs_of_inRange fits ⟨hourIn, minuteIn, secondIn, tenthIn⟩
      exact ⟨exec_setClock_of_some admitted read, rfl⟩
    case outside =>
      intro admitted out
      have unread := clockArgs_of_not_inRange fits (TimeStamp.not_inRange_iff.mpr out)
      exact exec_setClock_of_none admitted unread

end Sys2Proof.Machine
end

section
/-! What an event is made of. Every event of the part is a run of small acts, each of one block: `Act` lists them, with
what is known where each is taken, and `exec_acts` says that every row is such a run, its end included, or a start-up with such a run behind it. A
property that start-up and the acts keep is then kept by every step (`step_keeps`). -/

namespace Sys2Proof.Machine

/-! ## Ports, replies and counts -/

/-- No count of a port passes 65535 (R18). -/
def Bounded (ns : List Nat) : Prop :=
  ∀ n ∈ ns, n ≤ 65535

/-- An act on the ports, the queues behind them and the replies. -/
inductive PortAct (s : State) : State → Prop
  | port (p : PortId) (g : Port → Port) (counts : ∀ q, Bounded q.counts → Bounded (g q).counts) :
      PortAct s (s.updPort p g)
  | crest (d : Side) (g : CrestPort → CrestPort) (counts : ∀ c, Bounded c.counts → Bounded (g c).counts)
      (places : ∀ c, c.queue.length ≤ 8 → (g c).queue.length ≤ 8) : PortAct s (s.updCrest d g)
  | valley (v : ValleyPort) (counts : Bounded s.valley.counts → Bounded v.counts)
      (places : s.valley.forward.length ≤ 32 → v.forward.length ≤ 32) : PortAct s { s with valley := v }
  | reply (dst code tag : Byte) (o : Outcome) (data : List Byte) (e : ReplyEffect) (place : s.heldPlaces < 4) :
      PortAct s (s.reply dst code tag o data e)
  | replyTaken (r : Reply) (rest : List Reply) (head : s.replies = r :: rest) : PortAct s { s with replies := rest }
  | lost (n : Nat) (counts : s.lost ≤ 65535 → n ≤ 65535) : PortAct s { s with lost := n }

/-! ## The notice unit -/

/-- What the notice unit keeps (R185 to R188): the words of `NoticesLegal`. -/
def NoticeUnit.Legal (u : NoticeUnit) : Prop :=
  (∀ c ∈ NoticeClass.all, ((u.get c).detail = none → (u.get c).count = 0) ∧ ∀ d ∈ (u.get c).detail, d.cls = c) ∧
    u.out.Nodup ∧
    ∀ c ∈ NoticeClass.all, ∀ it ∈ u.out, it.isNotice c = true → (u.get c).enable = true ∧ (u.get c).flag = true

/-- A change of the notice unit that keeps it legal, its counts bounded and its list within 28 places. -/
structure NoticeMove (u v : NoticeUnit) : Prop where
  legal : u.Legal → v.Legal
  counts : (∀ c ∈ NoticeClass.all, (u.get c).count ≤ 65535) → ∀ c ∈ NoticeClass.all, (v.get c).count ≤ 65535
  places : u.out.length ≤ 28 → v.out.length ≤ 28

inductive NoticeAct (s : State) : State → Prop
  | mk (u : NoticeUnit) (move : NoticeMove s.notices u) : NoticeAct s { s with notices := u }

/-! ## Zones and the Dispatch Queue -/

/-- A change of every zone that moves countdowns and counts alone. -/
structure ZoneMove (x y : Zone) : Prop where
  cfg : y.cfg = x.cfg
  stage : y.stage = x.stage
  target : y.target = x.target
  force : y.forceStage = x.forceStage
  hold : y.hold.isSome = x.hold.isSome
  refresh : y.refreshCd ≠ none → x.refreshCd ≠ none
  undispatched : y.undispatched ≤ x.undispatched

/-- An act on zones and the Dispatch Queue. -/
inductive ZoneAct (s : State) : State → Prop
  | evaluate (z : Nat) : ZoneAct s (s.evaluateZone z)
  | holdEnds (z : Nat) : ZoneAct s (s.holdEnds z)
  | force (z : Nat) (f : Option Force) : ZoneAct s (s.setForce z f)
  | refresh (z : Nat) (running : ∀ x ∈ s.zone z, x.refreshCd ≠ none) : ZoneAct s (s.refreshRunsOut z)
  | announce (z : Nat) : ZoneAct s (s.announce z)
  | records (z : Nat) (f : List SirenRecord → List SirenRecord)
      (addrs : ∀ rs, (f rs).map SirenRecord.addr = rs.map SirenRecord.addr) : ZoneAct s (s.updEntry z f)
  | sent (z : Nat) (a : Byte) : ZoneAct s (s.alertSent z a)
  | acks (stale mismatched : Nat) (counts : s.dispatch.stale ≤ 65535 → stale ≤ 65535)
      (counts' : s.dispatch.mismatched ≤ 65535 → mismatched ≤ 65535) :
      ZoneAct s { s with dispatch := { s.dispatch with stale := stale, mismatched := mismatched } }
  | second : ZoneAct s { s with dispatch := { s.dispatch with queue := s.dispatch.queue.map Entry.second } }
  | moved (f : Zone → Zone) (move : ∀ x, ZoneMove x (f x)) : ZoneAct s { s with zones := mapEntries f s.zones }
  | written (z : Nat) (c : ZoneConfig) (place : z < 12) (mode : s.mode ≠ .blank) (sirens : c.sirens ≠ [] ∧ c.sirens.Nodup)
      (periods : 1 ≤ c.holdDown ∧ 1 ≤ c.repeatInterval)
      (consistent : s.mode = .watching → (s.setZone z (some (Zone.fresh c))).firstFailure = none) :
      ZoneAct s (s.writeZone z c)
  | cleared (z : Nat) (consistent : s.mode = .watching → (s.setZone z none).firstFailure = none) :
      ZoneAct s (s.clearZoneEntry z)
  | ordered (old : State) : ZoneAct s (s.orderAlerts old)

/-! ## Sectors -/

/-- A sector stands at the stage and causes its conditions give, a parked one at the values of R86. -/
def Sector.Staged (x : Sector) : Prop :=
  x.stage = x.computeStage ∧ x.causes = x.causesAt x.stage ∧ (x.cfg.parked = true → x = Sector.parkedFrom x.cfg)

/-- What an event may write into a sector's place. -/
inductive SectorWrite (s : State) (i : Nat) : Option Sector → Prop
  | changed (x y : Sector) (found : s.sector i = some x) (cfg : y.cfg = x.cfg) (staged : x.Staged → y.Staged)
      (bins : Bounded x.bins → Bounded y.bins) : SectorWrite s i (some y)
  | parked (x : Sector) (found : s.sector i = some x) : SectorWrite s i (some (Sector.parkedFrom x.cfg))
  | unparked (x : Sector) (u : State) (found : s.sector i = some x) :
      SectorWrite s i (some (Sector.afresh u { x.cfg with parked := false } none))
  | loaded (c : SectorConfig) (u : State) (unparked : c.parked = false) (periods : 1 ≤ c.blindDelay ∧ 1 ≤ c.binLength)
      (mode : s.mode ≠ .blank)
      (consistent : s.mode = .watching → (s.setSector i (some (Sector.afresh u c none))).firstFailure = none) :
      SectorWrite s i (some (Sector.afresh u c none))
  | cleared (consistent : s.mode = .watching → (s.setSector i none).firstFailure = none) : SectorWrite s i none

/-- An act on the sectors, which hands sector changes on. -/
inductive SectorAct (s : State) : State → Prop
  | put (i : Nat) (x : Option Sector) (write : SectorWrite s i x) : SectorAct s (s.putSector i x)
  | second : SectorAct s { s with sectors := mapEntries Sector.second s.sectors }
  | restart : SectorAct s s.restartSectors

/-! ## Lanes -/

/-- A lane's dynamic state agrees with its configuration: the words of `LanesLegal`. -/
def Lane.Legal (l : Lane) : Prop :=
  l.credits.length = l.cfg.cands.length ∧ (∀ n ∈ l.credits, n ≤ l.cfg.restoreCount) ∧ (l.tracked = none → l.loss = 0) ∧
    ∀ r ∈ l.tracked, r < l.cfg.cands.length ∧ l.credits[r]? = some 0 ∧ ∃ v ∈ l.clearance, l.fill = some (l.cfg.datum - v)

/-- A lane's place as an event at the Lane Map leaves it. -/
def LaneSettles (old new : Option Lane) : Prop :=
  new = old ∨ ∃ l m, old = some l ∧ new = some m ∧ m.cfg = l.cfg ∧ (l.Legal → m.Legal)

/-- An act on the lanes. -/
inductive LaneAct (s : State) : State → Prop
  | settled (v : Vector (Option Lane) 32) (each : ∀ i, LaneSettles (s.lane i) (entryAt v i)) : LaneAct s { s with lanes := v }
  | loaded (i : Nat) (c : LaneConfig) (mode : s.mode ≠ .blank)
      (consistent : s.mode = .watching → (s.setLane i (some (Lane.fresh c))).firstFailure = none) :
      LaneAct s (s.setLane i (some (Lane.fresh c)))
  | cleared (i : Nat) (consistent : s.mode = .watching → (s.setLane i none).firstFailure = none) :
      LaneAct s (s.setLane i none)

/-! ## Stations -/

/-- What an event may write into a station's place. -/
inductive StationWrite (s : State) (i : Nat) : Option Station → Prop
  | counted (x : Station) (c : StationCounts) (found : s.station i = some x) (unparked : x.cfg.parked = false)
      (counts : Bounded x.counts.list → Bounded c.list) : StationWrite s i (some { x with counts := c })
  | forwarded (x : Station) (n : Nat) (found : s.station i = some x) : StationWrite s i (some { x with phase := n })
  | accepted (x : Station) (seq : Byte) (missed : Nat) (now : TimeStamp) (got : Option Contents)
      (found : s.station i = some x) (unparked : x.cfg.parked = false) :
      StationWrite s i (some (x.accept seq missed now got))
  | silent (x : Station) (found : s.station i = some x) (ranOut : x.silence = some 0) :
      StationWrite s i (some { x with live := .silent, silence := none })
  | reparked (x : Station) (b : Bool) (found : s.station i = some x) :
      StationWrite s i (some (Station.afresh { x.cfg with parked := b } StationCounts.zero))
  | loaded (c : StationConfig) (periods : 1 ≤ c.limit) (mode : s.mode ≠ .blank)
      (consistent : s.mode = .watching →
        (s.setStation i (some (Station.afresh c StationCounts.zero))).firstFailure = none) :
      StationWrite s i (some (Station.afresh c StationCounts.zero))
  | cleared (consistent : s.mode = .watching → (s.setStation i none).firstFailure = none) : StationWrite s i none

/-- An act on the stations. -/
inductive StationAct (s : State) : State → Prop
  | put (i : Nat) (x : Option Station) (write : StationWrite s i x) : StationAct s (s.setStation i x)
  | second : StationAct s { s with stations := mapEntries Station.second s.stations }
  | restart : StationAct s { s with stations := mapEntries (fun y => Station.afresh y.cfg y.counts) s.stations }
  | zeroCounts : StationAct s { s with stations := mapEntries Station.zeroCounts s.stations }

/-! ## Outputs, and what stands over the tables -/

/-- A change of an output under its configuration: the working cadences stand, or become the written ones (R135). -/
def OutputMove (o p : Output) : Prop :=
  p.cfg = o.cfg ∧ (p.working = o.working ∨ p.working = o.cfg.written)

/-- An act on the outputs. -/
inductive OutputAct (s : State) : State → Prop
  | written (k : Nat) (c : OutputConfig) (periods : c.written.run) : OutputAct s (s.writeOutput k c)
  | each (f : Output → Output) (move : ∀ o, OutputMove o (f o)) : OutputAct s { s with outputs := mapTable f s.outputs }
  | one (k : Nat) (f : Output → Output) (move : ∀ o, OutputMove o (f o)) : OutputAct s (s.updOutput k f)

/-- An act on the time base, the console list, the mode, the store or the reset cause record. -/
inductive ControlAct (s : State) : State → Prop
  | time (b : TimeBase) (legal : TimeLegal s → TimeLegal { s with time := b }) : ControlAct s { s with time := b }
  | console (l : List Byte) (loaded : s.mode = .watching → l ≠ []) : ControlAct s { s with console := l }
  | cause (c : ResetCause) : ControlAct s { s with cause := c }
  | leaveBlank : ControlAct s s.leaveBlank
  | watch (consistent : s.firstFailure = none) : ControlAct s { s with mode := .watching }
  | commission : ControlAct s { s with mode := .commissioning }
  | erase (mode : s.mode ≠ .watching) : ControlAct s s.eraseAll
  | startSave (src tag : Byte) (place : s.heldPlaces < 4) (idle : s.save = none) : ControlAct s (s.startSave src tag)
  | completeSave : ControlAct s s.completeSave

/-! ## Runs of acts -/

/-- One act of an event. -/
inductive Act (s t : State) : Prop
  | port (h : PortAct s t)
  | notice (h : NoticeAct s t)
  | zone (h : ZoneAct s t)
  | sector (h : SectorAct s t)
  | lane (h : LaneAct s t)
  | station (h : StationAct s t)
  | output (h : OutputAct s t)
  | control (h : ControlAct s t)

/-- A run of acts. -/
def Acts : State → State → Prop :=
  Relation.ReflTransGen Act

theorem Acts.refl (s : State) : Acts s s := Relation.ReflTransGen.refl

theorem Acts.trans {s t u : State} (h : Acts s t) (k : Acts t u) : Acts s u :=
  Relation.ReflTransGen.trans h k

theorem Act.run {s t : State} (h : Act s t) : Acts s t := Relation.ReflTransGen.single h

theorem PortAct.run {s t : State} (h : PortAct s t) : Acts s t := (Act.port h).run
theorem NoticeAct.run {s t : State} (h : NoticeAct s t) : Acts s t := (Act.notice h).run
theorem ZoneAct.run {s t : State} (h : ZoneAct s t) : Acts s t := (Act.zone h).run
theorem SectorAct.run {s t : State} (h : SectorAct s t) : Acts s t := (Act.sector h).run
theorem LaneAct.run {s t : State} (h : LaneAct s t) : Acts s t := (Act.lane h).run
theorem StationAct.run {s t : State} (h : StationAct s t) : Acts s t := (Act.station h).run
theorem OutputAct.run {s t : State} (h : OutputAct s t) : Acts s t := (Act.output h).run
theorem ControlAct.run {s t : State} (h : ControlAct s t) : Acts s t := (Act.control h).run

/-- What every act of an event keeps, the event's run keeps. -/
theorem Acts.keeps {s t : State} {P : State → Prop} (acts : Acts s t)
    (one : ∀ u v, Act u v → P u → P v) (start : P s) : P t := by
  induction acts with
  | refl => exact start
  | tail _ act ih => exact one _ _ act ih

theorem Acts.pass {n : Nat} {f : Nat → State → State} (step : ∀ i t, Acts t (f i t)) (s : State) :
    Acts s (eachBelow n f s) :=
  eachBelow_keeps (P := fun t => Acts s t) (fun i _ t h => h.trans (step i t)) (Acts.refl s)

theorem Acts.fold {α : Type} {f : State → α → State} (step : ∀ t a, Acts t (f t a)) (l : List α)
    (s : State) : Acts s (l.foldl f s) :=
  foldl_keeps (P := fun t => Acts s t) (fun t a h => h.trans (step t a)) l s (Acts.refl s)

end Sys2Proof.Machine
end

section
/-! The notice unit as a whole (R185 to R188): what its operations leave in each class and in the outgoing list, and that
each of them keeps it legal, its counts bounded and its list within 28 places. -/

namespace Sys2Proof.Machine

/-! ## Classes -/

theorem NoticeClass.mem_all (c : NoticeClass) : c ∈ NoticeClass.all := by
  cases c <;> decide

@[simp] theorem NoticeUnit.get_set_same (c : NoticeClass) (x : ClassState) (u : NoticeUnit) : (u.set c x).get c = x := by
  cases c <;> rfl

theorem NoticeUnit.get_set_other {c d : NoticeClass} (x : ClassState) (u : NoticeUnit) (h : c ≠ d) :
    (u.set c x).get d = u.get d := by
  cases c <;> cases d <;> first | rfl | exact absurd rfl h

@[simp] theorem NoticeUnit.set_out (c : NoticeClass) (x : ClassState) (u : NoticeUnit) : (u.set c x).out = u.out := by
  cases c <;> rfl

@[simp] theorem NoticeUnit.set_period (c : NoticeClass) (x : ClassState) (u : NoticeUnit) :
    (u.set c x).period = u.period := by
  cases c <;> rfl

@[simp] theorem NoticeUnit.set_statusCd (c : NoticeClass) (x : ClassState) (u : NoticeUnit) :
    (u.set c x).statusCd = u.statusCd := by
  cases c <;> rfl

/-! ## The outgoing list -/

/-- Two units with the same classes, period and countdown: only the outgoing list may differ. -/
def OnlyOut (u v : NoticeUnit) : Prop :=
  v = { u with out := v.out }

theorem OnlyOut.refl (u : NoticeUnit) : OnlyOut u u := rfl

theorem OnlyOut.trans {u v w : NoticeUnit} (h : OnlyOut u v) (k : OnlyOut v w) : OnlyOut u w := by
  unfold OnlyOut at *; rw [k, h]

theorem OnlyOut.get {u v : NoticeUnit} (h : OnlyOut u v) (c : NoticeClass) : v.get c = u.get c := by
  rw [h]; cases c <;> rfl

theorem NoticeUnit.enqueue_only (it : OutItem) (u : NoticeUnit) : OnlyOut u (u.enqueue it) := by
  unfold NoticeUnit.enqueue
  split <;> rfl

theorem NoticeUnit.enqueueNotices_only (c : NoticeClass) (l : List Byte) (u : NoticeUnit) :
    OnlyOut u (u.enqueueNotices c l) :=
  foldl_keeps (P := fun v => OnlyOut u v) (fun v _ h => h.trans (v.enqueue_only _)) l u (OnlyOut.refl u)

theorem NoticeUnit.enqueueStatuses_only (l : List Byte) (u : NoticeUnit) : OnlyOut u (u.enqueueStatuses l) :=
  foldl_keeps (P := fun v => OnlyOut u v) (fun v _ h => h.trans (v.enqueue_only _)) l u (OnlyOut.refl u)

theorem NoticeUnit.withdraw_only (c : NoticeClass) (u : NoticeUnit) : OnlyOut u (u.withdraw c) := rfl

@[simp] theorem NoticeUnit.enqueue_get (it : OutItem) (c : NoticeClass) (u : NoticeUnit) :
    (u.enqueue it).get c = u.get c :=
  (u.enqueue_only it).get c

@[simp] theorem NoticeUnit.withdraw_get (d c : NoticeClass) (u : NoticeUnit) : (u.withdraw d).get c = u.get c :=
  (u.withdraw_only d).get c

/-- Two classes that are the same but for what stands in the outgoing list. -/
theorem NoticeUnit.enqueue_legal {it : OutItem} {u : NoticeUnit} (h : u.Legal)
    (ready : ∀ c, it.isNotice c = true → (u.get c).enable = true ∧ (u.get c).flag = true) : (u.enqueue it).Legal := by
  obtain ⟨classes, nodup, waiting⟩ := h
  refine ⟨by simpa using classes, ?nodup, ?waiting⟩
  case nodup =>
    unfold NoticeUnit.enqueue
    split
    · exact nodup
    · rename_i new
      rw [not_or] at new
      refine List.nodup_append.mpr ⟨nodup, by simp, ?_⟩
      rintro a ha b hb rfl
      exact new.1 (List.mem_singleton.mp hb ▸ ha)
  case waiting =>
    intro c hc a ha notice
    rw [NoticeUnit.enqueue_get]
    unfold NoticeUnit.enqueue at ha
    split at ha
    · exact waiting c hc a ha notice
    · rcases List.mem_append.mp ha with ha | ha
      · exact waiting c hc a ha notice
      · exact ready c (List.mem_singleton.mp ha ▸ notice)

theorem NoticeUnit.enqueue_places {it : OutItem} {u : NoticeUnit} (h : u.out.length ≤ 28) :
    (u.enqueue it).out.length ≤ 28 := by
  unfold NoticeUnit.enqueue
  split
  · exact h
  · simp only [List.length_append, List.length_singleton]
    omega

/-! ## Moves of the notice unit -/

theorem NoticeMove.refl (u : NoticeUnit) : NoticeMove u u := ⟨id, id, id⟩

theorem NoticeMove.trans {u v w : NoticeUnit} (h : NoticeMove u v) (k : NoticeMove v w) : NoticeMove u w :=
  ⟨k.legal ∘ h.legal, k.counts ∘ h.counts, k.places ∘ h.places⟩

/-- A fold of items of which each may be queued whenever the classes stand as they did. -/
theorem NoticeMove.enqueues (f : Byte → OutItem) (l : List Byte) {u : NoticeUnit}
    (ready : u.Legal → ∀ a c, (f a).isNotice c = true → (u.get c).enable = true ∧ (u.get c).flag = true) :
    NoticeMove u (l.foldl (fun v a => v.enqueue (f a)) u) := by
  have kept : OnlyOut u (l.foldl (fun v a => v.enqueue (f a)) u) :=
    foldl_keeps (P := fun v => OnlyOut u v) (fun v _ h => h.trans (v.enqueue_only _)) l u (OnlyOut.refl u)
  refine ⟨fun h => ?legal, fun h c hc => by rw [kept.get]; exact h c hc, fun h => ?places⟩
  case legal =>
    have both := foldl_keeps (P := fun v : NoticeUnit => OnlyOut u v ∧ v.Legal)
      (fun v a k => ⟨k.1.trans (v.enqueue_only _), NoticeUnit.enqueue_legal k.2
        (fun c hc => by rw [k.1.get]; exact ready h a c hc)⟩) l u ⟨OnlyOut.refl u, h⟩
    exact both.2
  case places =>
    exact foldl_keeps (P := fun v : NoticeUnit => v.out.length ≤ 28) (fun _ _ k => NoticeUnit.enqueue_places k) l u h

theorem OutItem.isNotice_notice {c d : NoticeClass} {a : Byte} : (OutItem.notice c a).isNotice d = true ↔ c = d := by
  simp [OutItem.isNotice]

theorem NoticeMove.enqueueNotices {c : NoticeClass} (l : List Byte) {u : NoticeUnit} (enable : (u.get c).enable = true)
    (flag : (u.get c).flag = true) : NoticeMove u (u.enqueueNotices c l) :=
  NoticeMove.enqueues (OutItem.notice c) l fun _ _ _ h => OutItem.isNotice_notice.mp h ▸ ⟨enable, flag⟩

theorem NoticeMove.enqueueStatuses (l : List Byte) (u : NoticeUnit) : NoticeMove u (u.enqueueStatuses l) :=
  NoticeMove.enqueues OutItem.status l fun _ _ _ h => nomatch h

/-- One class written so that its flag and enable cover the items that wait for it. -/
theorem NoticeMove.set {c : NoticeClass} {x : ClassState} {u : NoticeUnit}
    (detail : u.Legal → (x.detail = none → x.count = 0) ∧ ∀ d ∈ x.detail, d.cls = c)
    (waits : u.Legal → ∀ it ∈ u.out, it.isNotice c = true → x.enable = true ∧ x.flag = true)
    (count : (u.get c).count ≤ 65535 → x.count ≤ 65535) : NoticeMove u (u.set c x) := by
  refine ⟨?legal, ?counts, by simp⟩
  case legal =>
    intro h
    obtain ⟨classes, nodup, waiting⟩ := h
    refine ⟨fun d hd => ?_, by simpa using nodup, fun d hd it hit notice => ?_⟩
    · by_cases same : c = d
      · subst same; simpa using detail ⟨classes, nodup, waiting⟩
      · rw [NoticeUnit.get_set_other x u same]; exact classes d hd
    · rw [NoticeUnit.set_out] at hit
      by_cases same : c = d
      · subst same; simpa using waits ⟨classes, nodup, waiting⟩ it hit notice
      · rw [NoticeUnit.get_set_other x u same]; exact waiting d hd it hit notice
  case counts =>
    intro h d hd
    by_cases same : c = d
    · subst same; simpa using count (h c hd)
    · rw [NoticeUnit.get_set_other x u same]; exact h d hd

/-- A raising (R186). -/
theorem NoticeMove.raise (d : Detail) (l : List Byte) (u : NoticeUnit) : NoticeMove u (u.raise d l) := by
  unfold NoticeUnit.raise
  dsimp only
  split
  case h_1 held detail =>
    refine NoticeMove.set (fun h => ?_) (fun h it hit notice => ?_) (fun _ => Nat.min_le_right _ _)
    · exact ⟨fun none => by simp [detail] at none, (h.1 _ d.cls.mem_all).2⟩
    · exact h.2.2 _ d.cls.mem_all it hit notice
  case h_2 detail =>
    have recorded : NoticeMove u (u.set d.cls { u.get d.cls with detail := some d }) := by
      refine NoticeMove.set (fun _ => ⟨by simp, by simp⟩) (fun h it hit notice => ?_) id
      exact ⟨(h.2.2 _ d.cls.mem_all it hit notice).1, rfl⟩
    split
    · rename_i enabled
      exact recorded.trans (NoticeMove.enqueueNotices l (by simpa using enabled) (by simp [ClassState.flag]))
    · exact recorded

theorem NoticeMove.statusCd (cd : Option Nat) (u : NoticeUnit) : NoticeMove u { u with statusCd := cd } := by
  have get : ∀ c, ({ u with statusCd := cd } : NoticeUnit).get c = u.get c := by intro c; cases c <;> rfl
  refine ⟨fun h => ?_, fun h c hc => by rw [get]; exact h c hc, id⟩
  exact ⟨fun c hc => by rw [get]; exact h.1 c hc, h.2.1, fun c hc it hit n => by rw [get]; exact h.2.2 c hc it hit n⟩

theorem NoticeMove.period (p : Nat) (u : NoticeUnit) : NoticeMove u { u with period := p } := by
  have get : ∀ c, ({ u with period := p } : NoticeUnit).get c = u.get c := by intro c; cases c <;> rfl
  refine ⟨fun h => ?_, fun h c hc => by rw [get]; exact h c hc, id⟩
  exact ⟨fun c hc => by rw [get]; exact h.1 c hc, h.2.1, fun c hc it hit n => by rw [get]; exact h.2.2 c hc it hit n⟩

/-- Items leaving the list. -/
theorem NoticeMove.sublist {u : NoticeUnit} {out : List OutItem} (sub : out.Sublist u.out) :
    NoticeMove u { u with out := out } := by
  have get : ∀ c, ({ u with out := out } : NoticeUnit).get c = u.get c := by intro c; cases c <;> rfl
  refine ⟨fun h => ?_, fun h c hc => by rw [get]; exact h c hc, fun h => sub.length_le.trans h⟩
  exact ⟨fun c hc => by rw [get]; exact h.1 c hc, h.2.1.sublist sub,
    fun c hc it hit n => by rw [get]; exact h.2.2 c hc it (sub.subset hit) n⟩

theorem NoticeMove.withdraw (c : NoticeClass) (u : NoticeUnit) : NoticeMove u (u.withdraw c) :=
  NoticeMove.sublist List.filter_sublist

/-- A class is written after its items have been withdrawn, the order in which the two stand not being seen. -/
theorem NoticeUnit.set_withdraw (c : NoticeClass) (x : ClassState) (u : NoticeUnit) :
    (u.set c x).withdraw c = (u.withdraw c).set c x := by
  cases c <;> rfl

theorem NoticeUnit.not_mem_withdraw {c : NoticeClass} {u : NoticeUnit} {it : OutItem} (h : it ∈ (u.withdraw c).out) :
    it.isNotice c = false := by
  simpa [NoticeUnit.withdraw] using (List.mem_filter.mp h).2

/-- CLEAR NOTICES on one class (R188). -/
theorem NoticeMove.clearClass (c : NoticeClass) (u : NoticeUnit) : NoticeMove u (u.clearClass c) := by
  unfold NoticeUnit.clearClass
  rw [NoticeUnit.set_withdraw]
  refine (NoticeMove.withdraw c u).trans (NoticeMove.set ?_ ?_ ?_)
  · exact fun _ => ⟨fun _ => rfl, by simp⟩
  · intro _ it hit notice
    rw [NoticeUnit.not_mem_withdraw hit] at notice
    exact nomatch notice
  · exact fun _ => Nat.zero_le _

/-- SET NOTICES on one class (R188). -/
theorem NoticeMove.writeEnable (c : NoticeClass) (on : Bool) (l : List Byte) (u : NoticeUnit) :
    NoticeMove u (u.writeEnable c on l) := by
  have turned (w : NoticeUnit) (same : w.get c = u.get c)
      (waits : w.Legal → ∀ it ∈ w.out, it.isNotice c = true → on = true ∧ (u.get c).flag = true) :
      NoticeMove w (w.set c { u.get c with enable := on }) := by
    refine NoticeMove.set (fun h => ?_) waits (fun h => same ▸ h)
    have := h.1 c c.mem_all
    rwa [same] at this
  unfold NoticeUnit.writeEnable
  dsimp only
  split_ifs with newly flag off
  · have enabled := turned u rfl (fun h it hit n => by simpa using ⟨(by simpa using newly : _ ∧ _).2, (h.2.2 c c.mem_all it hit n).2⟩)
    exact enabled.trans (NoticeMove.enqueueNotices l (by simpa using (by simpa using newly : _ ∧ _).2) (by simpa [ClassState.flag] using flag))
  · exact turned u rfl (fun h it hit n => by simpa using ⟨(by simpa using newly : _ ∧ _).2, (h.2.2 c c.mem_all it hit n).2⟩)
  · rw [NoticeUnit.set_withdraw]
    refine (NoticeMove.withdraw c u).trans (turned _ (by simp) ?_)
    intro _ it hit notice
    rw [NoticeUnit.not_mem_withdraw hit] at notice
    exact nomatch notice
  · refine turned u rfl (fun h it hit n => ?_)
    have := h.2.2 c c.mem_all it hit n
    refine ⟨?_, this.2⟩
    by_contra h
    exact off (by simp [this.1, h])

/-- SET NOTICES (R188, R190). -/
theorem NoticeMove.write (set : Byte) (p : Nat) (l : List Byte) (u : NoticeUnit) : NoticeMove u (u.write set p l) :=
  ((foldl_keeps (P := fun v => NoticeMove u v) (fun v c h => h.trans (NoticeMove.writeEnable c _ l v)) _ u
    (NoticeMove.refl u)).trans (NoticeMove.period p _)).trans (NoticeMove.statusCd (loadStatus p) _)

/-- CLEAR NOTICES (R188). -/
theorem NoticeMove.clearSet (set : Byte) (u : NoticeUnit) : NoticeMove u (u.clearSet set) := by
  unfold NoticeUnit.clearSet
  refine foldl_keeps (P := fun v => NoticeMove u v) (fun v c h => ?_) _ u (NoticeMove.refl u)
  split
  · exact h.trans (NoticeMove.clearClass c v)
  · exact h

end Sys2Proof.Machine
end

section
/-! The acts of each block's operations: notices, sectors and zones. -/

namespace Sys2Proof.Machine

/-! ## Notices -/

theorem State.raise_acts (d : Detail) (s : State) : Acts s (s.raise d) :=
  (NoticeAct.mk _ (NoticeMove.raise d s.console s.notices)).run

theorem State.raiseSilence_acts (i : Nat) (x : Station) (l : Liveness) (s : State) :
    Acts s (s.raiseSilence i x l) :=
  State.raise_acts _ s

theorem State.lostSource_acts (i : Nat) (l : Option Lane) (why : SourceReason) (s : State) :
    Acts s (s.lostSource i l why) := by
  unfold State.lostSource
  split
  · exact Acts.refl s
  · exact State.raise_acts _ s

theorem State.takeStatus_acts (s : State) : Acts s s.takeStatus := by
  unfold State.takeStatus
  split
  · exact (NoticeAct.mk _ ((NoticeMove.statusCd (loadStatus s.notices.period) s.notices).trans
      (NoticeMove.enqueueStatuses s.console _))).run
  · exact Acts.refl s

/-! ## Sectors that keep their stage -/

theorem Sector.restage_staged {x : Sector} (unparked : x.cfg.parked = false) : x.restage.Staged :=
  ⟨rfl, rfl, fun h => nomatch unparked.symm.trans h⟩

@[simp] theorem Sector.restage_cfg (x : Sector) : x.restage.cfg = x.cfg := rfl
@[simp] theorem Sector.laneUpdate_cfg (s : State) (x : Sector) : (x.laneUpdate s).cfg = x.cfg := rfl
@[simp] theorem Sector.goBlind_cfg (x : Sector) : x.goBlind.cfg = x.cfg := rfl
@[simp] theorem Sector.pulse_cfg (c : Option Nat) (x : Sector) : (x.pulse c).cfg = x.cfg := rfl
@[simp] theorem Sector.advanceBin_cfg (x : Sector) : x.advanceBin.cfg = x.cfg := rfl
@[simp] theorem Sector.evalTripFault_cfg (s : State) (x : Sector) : (x.evalTripFault s).cfg = x.cfg := rfl
@[simp] theorem Sector.second_cfg (x : Sector) : x.second.cfg = x.cfg := rfl
@[simp] theorem Sector.afresh_cfg (s : State) (c : SectorConfig) (t : Option TripRecord) :
    (Sector.afresh s c t).cfg = c := rfl

theorem Sector.minute_eq_restage (x : Sector) : ∃ y : Sector, y.cfg = x.cfg ∧ x.minute = y.restage := by
  unfold Sector.minute
  dsimp only
  split
  · exact ⟨{ x with ring := (x.ringEntry :: x.ring).take 16 }, rfl, rfl⟩
  · rename_i r _
    exact ⟨{ x with ring := (x.ringEntry :: x.ring).take 16, lastRise := some r
                    rapid := decide (x.cfg.rapidLimit ≤ r) }, rfl, rfl⟩

@[simp] theorem Sector.minute_cfg (x : Sector) : x.minute.cfg = x.cfg := by
  obtain ⟨y, cfg, minute⟩ := x.minute_eq_restage
  rw [minute, Sector.restage_cfg, cfg]

theorem Sector.minute_staged {x : Sector} (unparked : x.cfg.parked = false) : x.minute.Staged := by
  obtain ⟨y, cfg, minute⟩ := x.minute_eq_restage
  rw [minute]
  exact Sector.restage_staged (cfg ▸ unparked)

theorem Sector.parkedFrom_staged (c : SectorConfig) : (Sector.parkedFrom c).Staged :=
  ⟨rfl, rfl, fun _ => rfl⟩

theorem Sector.afresh_staged {s : State} {c : SectorConfig} {t : Option TripRecord} (unparked : c.parked = false) :
    (Sector.afresh s c t).Staged :=
  Sector.restage_staged unparked

theorem Sector.atReset_staged (s : State) (c : SectorConfig) (t : Option TripRecord) : (Sector.atReset s c t).Staged := by
  unfold Sector.atReset
  split
  · exact Sector.parkedFrom_staged c
  · rename_i unparked
    exact Sector.afresh_staged (by simpa using unparked)

/-- A latched sector at its stage is not parked. -/
theorem Sector.Staged.unparked_of_trip {x : Sector} (staged : x.Staged) (latched : x.trip.isSome = true) :
    x.cfg.parked = false := by
  cases parked : x.cfg.parked with
  | false => rfl
  | true => rw [staged.2.2 parked] at latched; exact nomatch latched

/-! ## Sectors in the part -/

/-- What a change of an unparked sector must keep. -/
structure SectorStep (f : Sector → Sector) : Prop where
  cfg : ∀ x, (f x).cfg = x.cfg
  staged : ∀ x, x.cfg.parked = false → x.Staged → (f x).Staged
  bins : ∀ x, Bounded x.bins → Bounded (f x).bins

theorem State.updSector_acts {i : Nat} {f : Sector → Sector} {s : State} (step : SectorStep f) :
    Acts s (s.updSector i f) := by
  unfold State.updSector
  split
  · exact Acts.refl s
  · rename_i x found
    split
    · exact Acts.refl s
    · rename_i unparked
      exact (SectorAct.put i _ (.changed x (f x) found (step.cfg x) (step.staged x (by simpa using unparked))
        (step.bins x))).run

theorem SectorStep.laneUpdate (s : State) : SectorStep (Sector.laneUpdate s) :=
  ⟨fun _ => rfl, fun _ unparked _ => Sector.restage_staged unparked, fun _ => id⟩

theorem SectorStep.minute : SectorStep Sector.minute :=
  ⟨Sector.minute_cfg, fun _ unparked _ => Sector.minute_staged unparked, fun x h => by rwa [Sector.minute_bins]⟩

theorem SectorStep.goBlind : SectorStep (fun x => if x.blindCd = some 0 then x.goBlind else x) := by
  refine ⟨fun x => ?_, fun x unparked staged => ?_, fun x h => ?_⟩ <;> split
  · rfl
  · rfl
  · exact Sector.restage_staged unparked
  · exact staged
  · exact h
  · exact h

theorem SectorStep.advanceBin : SectorStep (fun x => if x.binCd = some 0 then x.advanceBin else x) := by
  refine ⟨fun x => ?_, fun x unparked staged => ?_, fun x h => ?_⟩ <;> split
  · rfl
  · rfl
  · exact Sector.restage_staged unparked
  · exact staged
  · exact Sector.advanceBin_le h
  · exact h

theorem SectorStep.tripFault (s : State) (p : Sector → Bool) :
    SectorStep (fun x => if p x then (x.evalTripFault s).restage else x) := by
  refine ⟨fun x => ?_, fun x unparked staged => ?_, fun x h => ?_⟩ <;> split
  · rfl
  · rfl
  · exact Sector.restage_staged unparked
  · exact staged
  · exact h
  · exact h

theorem SectorStep.pulse (station : Nat) (counts : List (Option Nat)) : SectorStep (fun x =>
    match x.cfg.pulse with
    | some p => if p.station = station then x.pulse ((counts[p.channel]?).join) else x
    | none => x) := by
  refine ⟨fun x => ?_, fun x unparked staged => ?_, fun x h => ?_⟩ <;> split
  · split <;> rfl
  · rfl
  · split
    · exact Sector.restage_staged unparked
    · exact staged
  · exact staged
  · split
    · exact addToBin_le h
    · exact h
  · exact h

theorem State.laneUpdate_acts (i : Nat) (s : State) : Acts s (s.laneUpdate i) :=
  State.updSector_acts (SectorStep.laneUpdate s)

theorem State.laneUpdates_acts (l : List Nat) (s : State) : Acts s (s.laneUpdates l) := by
  unfold State.laneUpdates
  refine Acts.pass (fun i t => ?_) s
  split
  · split
    · exact State.laneUpdate_acts i t
    · exact Acts.refl t
  · exact Acts.refl t

theorem State.tripHandoff_acts (station : Nat) (s : State) : Acts s (s.tripHandoff station) :=
  Acts.pass (fun _ t => State.updSector_acts (SectorStep.tripFault t _)) s

theorem State.pulseReport_acts (station : Nat) (counts : List (Option Nat)) (s : State) :
    Acts s (s.pulseReport station counts) :=
  Acts.pass (fun _ _ => State.updSector_acts (SectorStep.pulse station counts)) s

theorem State.tripAt_acts (station : Nat) (addr : Byte) (wires : List WireState) (i : Nat) (s : State) :
    Acts s (s.tripAt station addr wires i) := by
  unfold State.tripAt
  split
  · exact Acts.refl s
  · split
    · exact Acts.refl s
    · split
      · exact State.updSector_acts ⟨fun _ => rfl, fun _ unparked _ => Sector.restage_staged unparked, fun _ => id⟩
      · exact (State.raise_acts _ s).trans (State.updSector_acts
          ⟨fun _ => rfl, fun _ unparked _ => Sector.restage_staged unparked, fun _ => id⟩)

theorem State.tripReport_acts (station : Nat) (addr : Byte) (wires : List WireState) (s : State) :
    Acts s (s.tripReport station addr wires) :=
  Acts.pass (fun i t => State.tripAt_acts station addr wires i t) s

theorem State.sectorMinute_acts (i : Nat) (s : State) : Acts s (s.sectorMinute i) :=
  State.updSector_acts SectorStep.minute

theorem State.takeBlind_acts (i : Nat) (s : State) : Acts s (s.takeBlind i) :=
  State.updSector_acts SectorStep.goBlind

theorem State.takeBin_acts (i : Nat) (s : State) : Acts s (s.takeBin i) :=
  State.updSector_acts SectorStep.advanceBin

theorem State.clearLatch_acts (i : Nat) (s : State) : Acts s (s.clearLatch i) := by
  unfold State.clearLatch
  split
  · exact Acts.refl s
  · rename_i x found
    split
    · rename_i latched
      exact (SectorAct.put i _ (.changed x ({ x with trip := none } : Sector).restage found rfl
        (fun staged => Sector.restage_staged (staged.unparked_of_trip latched)) id)).run
    · exact Acts.refl s

theorem State.parkSectorEntry_acts {i : Nat} {x : Sector} {s : State} (found : s.sector i = some x) :
    Acts s (s.parkSectorEntry i x) := by
  unfold State.parkSectorEntry
  split
  · exact Acts.refl s
  · exact (SectorAct.put i _ (.parked x found)).run

theorem State.unparkSectorEntry_acts {i : Nat} {x : Sector} {s : State} (found : s.sector i = some x) :
    Acts s (s.unparkSectorEntry i x) := by
  unfold State.unparkSectorEntry
  split
  · exact (SectorAct.put i _ (.unparked x s found)).run
  · exact Acts.refl s

/-! ## Zones and the Dispatch Queue -/

theorem State.takeForce_acts (z : Nat) (s : State) : Acts s (s.takeForce z) := by
  unfold State.takeForce
  split
  · exact Acts.refl s
  · split
    · exact (ZoneAct.force z none).run
    · exact Acts.refl s

theorem State.takeHold_acts (z : Nat) (s : State) : Acts s (s.takeHold z) := by
  unfold State.takeHold
  split
  · exact Acts.refl s
  · split
    · exact (ZoneAct.holdEnds z).run
    · exact Acts.refl s

theorem State.takeRefresh_acts (z : Nat) (s : State) : Acts s (s.takeRefresh z) := by
  unfold State.takeRefresh
  split
  · exact Acts.refl s
  · rename_i x found
    split
    · rename_i ranOut
      refine (ZoneAct.refresh z (fun y hy => ?_)).run
      rw [found] at hy
      cases hy
      simp [ranOut.1]
    · exact Acts.refl s

theorem updRecord_addrs {a : Byte} {f : SirenRecord → SirenRecord} (keep : ∀ r, (f r).addr = r.addr)
    (rs : List SirenRecord) : (updRecord a f rs).map SirenRecord.addr = rs.map SirenRecord.addr := by
  unfold updRecord
  rw [List.map_map]
  refine List.map_congr_left (fun r _ => ?_)
  rw [Function.comp_apply]
  split
  · exact keep r
  · rfl

@[simp] theorem SirenRecord.judge_addr (n : Nat) (r : SirenRecord) : (r.judge n).addr = r.addr := by
  unfold SirenRecord.judge
  split <;> rfl

theorem State.takeRepeat_acts (z : Nat) (a : Byte) (s : State) : Acts s (s.takeRepeat z a) := by
  unfold State.takeRepeat
  split
  · exact Acts.refl s
  · dsimp only
    have judged : Acts s (s.updEntry z (updRecord a (SirenRecord.judge (s.triesLimit z)))) :=
      (ZoneAct.records z _ (updRecord_addrs (SirenRecord.judge_addr _))).run
    split
    · exact judged
    · exact judged.trans (State.raise_acts _ _)

theorem State.countStaleAck_acts (s : State) : Acts s s.countStaleAck :=
  (ZoneAct.acks (satInc s.dispatch.stale) s.dispatch.mismatched (fun _ => Nat.min_le_right _ _) id).run

theorem State.countMismatchedAck_acts (s : State) : Acts s s.countMismatchedAck :=
  (ZoneAct.acks s.dispatch.stale (satInc s.dispatch.mismatched) id (fun _ => Nat.min_le_right _ _)).run

theorem State.takeAck_acts (src : Byte) (p : List Byte) (s : State) : Acts s (s.takeAck src p) := by
  unfold State.takeAck
  repeat' split
  · exact State.countStaleAck_acts s
  · exact State.countStaleAck_acts s
  · exact State.countMismatchedAck_acts s
  · exact State.countMismatchedAck_acts s
  · exact Acts.refl s
  · exact (ZoneAct.records _ _ (updRecord_addrs (f := SirenRecord.deliver) fun _ => rfl)).run
  · exact State.countMismatchedAck_acts s

end Sys2Proof.Machine
end

section
/-! The acts of the Lane Map and the Station Table: what an event at the Lane Map leaves in each lane, and the acts of the
station operations that hand on to it. -/

namespace Sys2Proof.Machine

/-! ## Lanes that stay legal (R48 to R59) -/

@[simp] theorem Lane.take_cfg (r v : Nat) (h : Option TimeStamp) (l : Lane) : (l.take r v h).cfg = l.cfg := rfl

theorem Lane.Legal.take {l : Lane} (h : l.Legal) {r : Nat} (rank : r < l.cfg.cands.length) (v : Nat)
    (heard : Option TimeStamp) : (l.take r v heard).Legal := by
  obtain ⟨length, bound, _, _⟩ := h
  refine ⟨by simpa [Lane.take] using length, fun n hn => ?_, fun none => by simp [Lane.take] at none, ?_⟩
  · rcases List.mem_or_eq_of_mem_set hn with hn | rfl
    · exact bound n hn
    · exact Nat.zero_le _
  · rintro q hq
    cases hq
    refine ⟨rank, ?_, v, rfl, rfl⟩
    simp only [Lane.take]
    rw [List.getElem?_set_self (length ▸ rank)]

theorem Lane.firstRank_lt {l : Lane} {p : Nat → Candidate → Bool} {r : Nat} {c : Candidate}
    (found : l.firstRank p = some (r, c)) : r < l.cfg.cands.length := by
  unfold Lane.firstRank at found
  obtain ⟨q, hq, e⟩ := Option.map_eq_some_iff.mp found
  have := List.mem_zipIdx_iff_getElem?.mp (List.mem_of_find?_eq_some hq)
  cases e
  exact (List.getElem?_eq_some_iff.mp this).1

@[simp] theorem Lane.reselect_cfg (s : State) (l : Lane) : (l.reselect s).cfg = l.cfg := by
  unfold Lane.reselect
  split <;> rfl

/-- Reselection mends a lane whose tracked candidate is being given up: only the credits must agree. -/
theorem Lane.reselect_legal {s : State} {l : Lane} (length : l.credits.length = l.cfg.cands.length)
    (bound : ∀ n ∈ l.credits, n ≤ l.cfg.restoreCount) : (l.reselect s).Legal := by
  have seeking : ({ l with tracked := none, loss := 0 } : Lane).Legal := ⟨length, bound, fun _ => rfl, by simp⟩
  unfold Lane.reselect
  split
  · rename_i r c found
    exact seeking.take (Lane.firstRank_lt (l := l) found) _ _
  · exact seeking

/-- A lane whose credits are written anew, with the tracked candidate's left at 0. -/
theorem Lane.Legal.withCredits {l : Lane} (h : l.Legal) {cs : List Nat} (length : cs.length = l.cfg.cands.length)
    (bound : ∀ n ∈ cs, n ≤ l.cfg.restoreCount) (tracked : ∀ r ∈ l.tracked, cs[r]? = some 0) :
    ({ l with credits := cs } : Lane).Legal :=
  ⟨length, bound, h.2.2.1, fun r hr => ⟨(h.2.2.2 r hr).1, tracked r hr, (h.2.2.2 r hr).2.2⟩⟩

theorem Lane.updateCredits_legal {s : State} {station : Nat} {l : Lane} (h : l.Legal) :
    (l.updateCredits s station).Legal := by
  have zipped : (l.credits.zip l.cfg.cands).length = l.cfg.cands.length := by simp [h.1]
  refine h.withCredits (by simp [h.1]) ?bound ?tracked
  case bound =>
    intro n hn
    obtain ⟨q, hq, rfl⟩ := List.mem_map.mp hn
    have credit : q.1.1 ∈ l.credits := by
      have := List.mem_of_getElem? (List.mem_zipIdx_iff_getElem?.mp hq)
      exact (List.of_mem_zip this).1
    split_ifs
    · exact Nat.min_le_right _ _
    · exact Nat.zero_le _
    · exact h.2.1 _ credit
  case tracked =>
    intro r hr
    obtain ⟨rank, credit, _⟩ := h.2.2.2 r hr
    have cand : l.cfg.cands[r]? = some l.cfg.cands[r] := List.getElem?_eq_getElem rank
    have tracks : l.tracked = some r := hr
    simp [List.getElem?_map, List.getElem?_zipIdx, credit, cand, tracks, List.zip,
      List.getElem?_zipWith]

/-- What the steps of a sweep arrival keep of a lane they found as `l`. -/
def LaneStep.Keeps (l : Lane) (w : LaneStep) : Prop :=
  w.lane.cfg = l.cfg ∧ (l.Legal → w.lane.Legal)

theorem Lane.takeOrLose_keeps (s : State) (station : Nat) (l : Lane) : (l.takeOrLose s station).Keeps l := by
  have same (why : SourceReason) : ({ lane := l, changed := false, reason := why } : LaneStep).Keeps l := ⟨rfl, id⟩
  unfold Lane.takeOrLose
  split
  · rename_i r c tracked cand
    split
    · exact same _
    · split
      · exact ⟨rfl, fun h => h.take (h.2.2.2 r tracked).1 _ _⟩
      · split
        · exact ⟨rfl, fun h => ⟨h.1, h.2.1, fun none => by simp [tracked] at none, h.2.2.2⟩⟩
        · refine ⟨by simp, fun h => Lane.reselect_legal (by simpa using h.1) (fun n hn => ?_)⟩
          rcases List.mem_or_eq_of_mem_set hn with hn | rfl
          · exact h.2.1 n hn
          · exact Nat.zero_le _
  · exact same _

theorem LaneStep.Keeps.restore {l : Lane} {w : LaneStep} (h : w.Keeps l) (s : State) (station : Nat) :
    (w.restore s station).Keeps l := by
  unfold LaneStep.restore
  split
  · exact h
  · split
    · exact h
    · rename_i found
      exact ⟨h.1, fun k => (h.2 k).take (Lane.firstRank_lt found) _ _⟩

theorem LaneStep.Keeps.takeUp {l : Lane} {w : LaneStep} (h : w.Keeps l) (s : State) (station : Nat) :
    (w.takeUp s station).Keeps l := by
  unfold LaneStep.takeUp
  split
  · exact h
  · split
    · exact h
    · rename_i found
      exact ⟨h.1, fun k => (h.2 k).take (Lane.firstRank_lt found) _ _⟩

theorem Lane.settleSweep_keeps (s : State) (station : Nat) (l : Lane) : (l.settleSweep s station).Keeps l := by
  have taken := ((Lane.takeOrLose_keeps s station (l.updateCredits s station)).restore s station).takeUp s station
  exact ⟨taken.1, fun h => taken.2 (Lane.updateCredits_legal h)⟩

theorem Lane.settleGone_keeps (s : State) (station : Nat) (why : SourceReason) (l : Lane) :
    (l.settleGone s station why).Keeps l := by
  have credits : l.Legal → ∀ n ∈ (l.credits.zip l.cfg.cands).map (fun q => if q.2.station = station then 0 else q.1),
      n ≤ l.cfg.restoreCount := by
    intro h n hn
    obtain ⟨q, hq, rfl⟩ := List.mem_map.mp hn
    split
    · exact Nat.zero_le _
    · exact h.2.1 _ (List.of_mem_zip hq).1
  unfold Lane.settleGone
  dsimp only
  split
  · exact ⟨by simp, fun h => Lane.reselect_legal (by simp [h.1]) (credits h)⟩
  · refine ⟨rfl, fun h => h.withCredits (by simp [h.1]) (credits h) (fun r hr => ?_)⟩
    obtain ⟨rank, credit, _⟩ := h.2.2.2 r hr
    have cand : l.cfg.cands[r]? = some l.cfg.cands[r] := List.getElem?_eq_getElem rank
    simp [List.zip, List.getElem?_zipWith, credit, cand]

theorem Lane.fresh_legal (c : LaneConfig) : (Lane.fresh c).Legal := by
  refine ⟨by simp [Lane.fresh], fun n hn => ?_, fun _ => rfl, by simp [Lane.fresh]⟩
  obtain ⟨_, _, rfl⟩ := List.mem_map.mp hn
  exact Nat.zero_le _

/-! ## An event at the Lane Map -/

theorem mem_settledLanes {s : State} {station : Nat} {f : Lane → LaneStep} {w : Nat × Lane × LaneStep}
    (h : w ∈ settledLanes s station f) : s.lane w.1 = some w.2.1 ∧ w.2.2 = f w.2.1 ∧ w.2.1.concerns station = true := by
  unfold settledLanes at h
  obtain ⟨i, _, h⟩ := List.mem_filterMap.mp h
  obtain ⟨l, hl, h⟩ := Option.bind_eq_some_iff.mp h
  split at h
  · cases h
    exact ⟨hl, rfl, ‹_›⟩
  · cases h

/-- The lanes with the settled ones written. -/
def State.writeSettled (ws : List (Nat × Lane × LaneStep)) (s : State) : State :=
  ws.foldl (fun u w => u.setLane w.1 (some w.2.2.lane)) s

theorem State.writeSettled_eq (ws : List (Nat × Lane × LaneStep)) (s : State) :
    s.writeSettled ws = { s with lanes := (s.writeSettled ws).lanes } := by
  unfold State.writeSettled
  exact foldl_keeps (P := fun t : State => t = { s with lanes := t.lanes }) (fun t w h => by rw [h]; rfl) ws s rfl

theorem setLane_lane (i : Nat) (x : Option Lane) (s : State) (j : Nat) :
    (s.setLane i x).lane j = if i = j ∧ j < 32 then x else s.lane j := by
  split
  · rename_i h
    obtain ⟨rfl, small⟩ := h
    exact State.lane_setLane_same i x s small
  · rename_i h
    by_cases e : i = j
    · subst e
      have big : 32 ≤ i := by omega
      rw [State.lane, State.lane, entryAt_none_of_le _ _ big, entryAt_none_of_le _ _ big]
    · exact State.lane_setLane_other i j x s e

/-- A place of the Lane Map once some settled lanes are written, each of them as an event found its lane. -/
theorem State.writeSettled_settles {f : Lane → LaneStep} (keeps : ∀ l, (f l).Keeps l) (s : State)
    (ws : List (Nat × Lane × LaneStep)) (found : ∀ w ∈ ws, s.lane w.1 = some w.2.1 ∧ w.2.2 = f w.2.1) (i : Nat) :
    LaneSettles (s.lane i) ((s.writeSettled ws).lane i) := by
  have all : ∀ (ws : List (Nat × Lane × LaneStep)) (u : State),
      (∀ w ∈ ws, s.lane w.1 = some w.2.1 ∧ w.2.2 = f w.2.1) → LaneSettles (s.lane i) (u.lane i) →
      LaneSettles (s.lane i) ((u.writeSettled ws).lane i) := by
    intro ws
    induction ws with
    | nil => exact fun _ _ h => h
    | cons w ws ih =>
      intro u found settles
      refine ih (u.setLane w.1 (some w.2.2.lane)) (fun v hv => found v (List.mem_cons_of_mem w hv)) ?_
      obtain ⟨lane, step⟩ := found w List.mem_cons_self
      rw [setLane_lane]
      split
      · rename_i here
        rw [← here.1, lane, step]
        exact .inr ⟨w.2.1, _, rfl, rfl, (keeps w.2.1).1, (keeps w.2.1).2⟩
      · exact settles
  exact all ws s found (.inl rfl)

theorem State.laneEvent_acts {station : Nat} {f : Lane → LaneStep} (keeps : ∀ l, (f l).Keeps l) (s : State) :
    Acts s (s.laneEvent station f) := by
  have settled : Acts s (s.writeSettled (settledLanes s station f)) := by
    rw [State.writeSettled_eq]
    exact (LaneAct.settled _ (State.writeSettled_settles keeps s _
      fun w hw => ⟨(mem_settledLanes hw).1, (mem_settledLanes hw).2.1⟩)).run
  exact (settled.trans (State.laneUpdates_acts _ _)).trans (Acts.fold (fun t d => State.raise_acts d t) _ _)

theorem State.sweepArrival_acts (station : Nat) (s : State) : Acts s (s.sweepArrival station) :=
  State.laneEvent_acts (Lane.settleSweep_keeps s station) s

theorem State.lanesSilent_acts (station : Nat) (s : State) : Acts s (s.lanesSilent station) :=
  State.laneEvent_acts (Lane.settleGone_keeps s station .silent) s

theorem State.lanesWithdrawn_acts (station : Nat) (s : State) : Acts s (s.lanesWithdrawn station) :=
  State.laneEvent_acts (Lane.settleGone_keeps s station .withdrawn) s

/-! ## Stations -/

theorem State.handWithdrawn_acts (i : Nat) (s : State) : Acts s (s.handWithdrawn i) :=
  (State.lanesWithdrawn_acts i s).trans (State.tripHandoff_acts i _)

theorem State.stationSilent_acts {i : Nat} {x : Station} {s : State} (found : s.station i = some x)
    (ranOut : x.silence = some 0) : Acts s (s.stationSilent i x) :=
  (((State.raiseSilence_acts i x .silent s).trans (StationAct.put i _
      (.silent (s := s.raiseSilence i x .silent) x found ranOut)).run).trans
    (State.lanesSilent_acts i _)).trans (State.tripHandoff_acts i _)

theorem State.takeSilence_acts (i : Nat) (s : State) : Acts s (s.takeSilence i) := by
  unfold State.takeSilence
  split
  · exact Acts.refl s
  · rename_i x found
    split
    · exact State.stationSilent_acts found ‹_›
    · exact Acts.refl s

theorem State.parkStationEntry_acts (i : Nat) (s : State) : Acts s (s.parkStationEntry i) := by
  unfold State.parkStationEntry
  split
  · exact Acts.refl s
  · rename_i x found
    split
    · exact Acts.refl s
    · exact (StationAct.put i _ (.reparked x true found)).run.trans (State.handWithdrawn_acts i _)

theorem State.unparkStationEntry_acts (i : Nat) (s : State) : Acts s (s.unparkStationEntry i) := by
  unfold State.unparkStationEntry
  split
  · exact Acts.refl s
  · rename_i x found
    split
    · exact (StationAct.put i _ (.reparked x false found)).run.trans (State.tripHandoff_acts i _)
    · exact Acts.refl s

/-! ## Frames at the Station Table -/

theorem Bounded.set {ns : List Nat} (h : Bounded ns) (i n : Nat) (small : n ≤ 65535) : Bounded (ns.set i n) := by
  intro m hm
  rcases List.mem_or_eq_of_mem_set hm with hm | rfl
  · exact h m hm
  · exact small

theorem satInc_le (n : Nat) : satInc n ≤ 65535 := Nat.min_le_right _ _
theorem satAdd_le (n k : Nat) : satAdd n k ≤ 65535 := Nat.min_le_right _ _

theorem State.forwardDropped_acts (f : Frame) (s : State) : Acts s (s.forwardDropped f) :=
  (PortAct.valley { s.valley with forwardDrop := satInc s.valley.forwardDrop }
    (fun h => h.set 7 (satInc s.valley.forwardDrop) (satInc_le s.valley.forwardDrop)) id).run.trans (State.raise_acts _ _)

theorem length_eraseP_append_le {l : List Frame} {p : Frame → Bool} {f a : Frame} (found : l.find? p = some a)
    (h : l.length ≤ 32) : (l.eraseP p ++ [f]).length ≤ 32 := by
  have shorter := List.length_eraseP_of_mem (List.mem_of_find?_eq_some found) (List.find?_some found)
  simp only [List.length_append, List.length_singleton, shorter]
  have : 0 < l.length := List.length_pos_of_mem (List.mem_of_find?_eq_some found)
  omega

theorem State.appendForward_acts (f : Frame) (s : State) : Acts s (s.appendForward f) := by
  unfold State.appendForward
  split
  · rename_i room
    exact (PortAct.valley { s.valley with forward := s.valley.forward ++ [f] } id
      (fun _ => (List.length_append ..).trans_le room)).run
  · split
    · rename_i found
      exact (PortAct.valley { s.valley with forward := s.valley.forward.eraseP isSample ++ [f] } id
        (length_eraseP_append_le found)).run.trans (State.forwardDropped_acts _ _)
    · exact State.forwardDropped_acts f s

theorem State.divideForward_acts (i : Nat) (f : Frame) (s : State) : Acts s (s.divideForward i f) := by
  unfold State.divideForward
  split
  · exact Acts.refl s
  · rename_i x found
    split
    · exact Acts.refl s
    · split
      · exact (StationAct.put i _ (.forwarded x 0 found)).run.trans (State.appendForward_acts f _)
      · exact (StationAct.put i _ (.forwarded x _ found)).run

theorem State.handReport_acts (i : Nat) (a : Byte) (c : Option Contents) (s : State) :
    Acts s (s.handReport i a c) := by
  unfold State.handReport
  split
  · exact Acts.refl s
  · exact State.sweepArrival_acts i s
  · exact State.pulseReport_acts i _ s
  · exact State.tripReport_acts i a _ s

theorem State.acceptFrame_acts {i : Nat} {x : Station} {s : State} (missed : Nat) (f : Frame)
    (found : s.station i = some x) (unparked : x.cfg.parked = false) : Acts s (s.acceptFrame i x missed f) := by
  unfold State.acceptFrame
  dsimp only
  have raised : Acts s (if x.live = .silent then s.raiseSilence i x .live else s) ∧
      (if x.live = .silent then s.raiseSilence i x .live else s).station i = some x := by
    split
    · exact ⟨State.raiseSilence_acts i x .live s, found⟩
    · exact ⟨Acts.refl s, found⟩
  have accepted := raised.1.trans (StationAct.put i _
    (.accepted x f.seq missed s.time.now (readPayload x.cfg.cls f.payload) raised.2 unparked)).run
  refine Acts.trans ?_ (State.divideForward_acts i f _)
  refine Acts.trans ?_ (State.handReport_acts i _ _ _)
  split
  · exact accepted
  · exact accepted.trans (State.tripHandoff_acts i _)

theorem State.countStation_acts {i : Nat} {x : Station} {s : State} {f : StationCounts → StationCounts}
    (found : s.station i = some x) (unparked : x.cfg.parked = false)
    (counts : ∀ c, Bounded c.list → Bounded (f c).list) : Acts s (s.countStation i f) := by
  unfold State.countStation
  rw [found]
  exact (StationAct.put i _ (.counted x (f x.counts) found unparked (counts _))).run

theorem State.stationFrame_acts {i : Nat} {x : Station} {s : State} (f : Frame) (found : s.station i = some x)
    (unparked : x.cfg.parked = false) : Acts s (s.stationFrame i x f) := by
  unfold State.stationFrame
  split
  · exact State.countStation_acts found unparked (fun c h => h.set 1 (satInc c.duplicate) (satInc_le c.duplicate))
  · exact State.countStation_acts found unparked (fun c h => h.set 2 (satInc c.stale) (satInc_le c.stale))
  · exact State.acceptFrame_acts _ f found unparked

end Sys2Proof.Machine
end

section
/-! The acts of ports, frames and the ends of events, and of what has run out. -/

namespace Sys2Proof.Machine

/-! ## Ports -/

theorem State.updPort_acts {p : PortId} {g : Port → Port} {s : State} (counts : ∀ q, Bounded q.counts → Bounded (g q).counts) :
    Acts s (s.updPort p g) :=
  (PortAct.port p g counts).run

theorem Port.countReceived_bounded (q : Port) (h : Bounded q.counts) : Bounded q.countReceived.counts :=
  h.set 0 (satInc q.received) (satInc_le q.received)

theorem Port.countCrcError_bounded (q : Port) (h : Bounded q.counts) : Bounded q.countCrcError.counts :=
  h.set 1 (satInc q.crcError) (satInc_le q.crcError)

theorem Port.countFraming_bounded (q : Port) (h : Bounded q.counts) : Bounded q.countFraming.counts :=
  h.set 2 (satInc q.framing) (satInc_le q.framing)

theorem Port.countOversize_bounded (q : Port) (h : Bounded q.counts) : Bounded q.countOversize.counts :=
  h.set 3 (satInc q.oversize) (satInc_le q.oversize)

theorem Port.countBadAddress_bounded (q : Port) (h : Bounded q.counts) : Bounded q.countBadAddress.counts :=
  h.set 4 (satInc q.badAddress) (satInc_le q.badAddress)

theorem Port.countSent_bounded (q : Port) (h : Bounded q.counts) : Bounded q.countSent.counts :=
  h.set 5 (satInc q.sent) (satInc_le q.sent)

theorem Port.endFrame_bounded (q : Port) (h : Bounded q.counts) : Bounded q.endFrame.counts := by
  unfold Port.endFrame
  split
  · exact q.countFraming_bounded h
  · exact h

theorem Port.breakChar_bounded (q : Port) (h : Bounded q.counts) : Bounded q.breakChar.counts := by
  unfold Port.breakChar
  split
  · exact q.endFrame_bounded h
  · exact h

theorem CrestPort.append_bounded (f : Frame) (c : CrestPort) (h : Bounded c.counts) : Bounded (c.append f).counts := by
  unfold CrestPort.append
  split
  · exact h
  · exact h.set 9 (satInc c.crestDrop) (satInc_le c.crestDrop)

theorem CrestPort.append_places (f : Frame) (c : CrestPort) (h : c.queue.length ≤ 8) : (c.append f).queue.length ≤ 8 := by
  unfold CrestPort.append
  split
  · rename_i room
    exact (List.length_append ..).trans_le room
  · exact h

theorem State.appendCrest_acts (d : Side) (f : Frame) (s : State) : Acts s (s.appendCrest d f) :=
  (PortAct.crest d _ (CrestPort.append_bounded f) (CrestPort.append_places f)).run

theorem State.appendBoth_acts (f : Frame) (s : State) : Acts s (s.appendBoth f) :=
  (s.appendCrest_acts .a f).trans (State.appendCrest_acts .b f _)

theorem State.countParked_acts (d : Side) (s : State) : Acts s (s.updCrest d CrestPort.countParked) :=
  (PortAct.crest d CrestPort.countParked (fun c h => h.set 7 (satInc c.parked) (satInc_le c.parked)) fun _ => id).run

theorem State.countWrongSide_acts (d : Side) (s : State) : Acts s (s.updCrest d CrestPort.countWrongSide) :=
  (PortAct.crest d CrestPort.countWrongSide (fun c h => h.set 6 (satInc c.wrongSide) (satInc_le c.wrongSide)) fun _ => id).run

theorem State.countUnknown_acts (d : Side) (s : State) : Acts s (s.updCrest d CrestPort.countUnknown) :=
  (PortAct.crest d CrestPort.countUnknown (fun c h => h.set 8 (satInc c.unknownSource) (satInc_le c.unknownSource)) fun _ => id).run

theorem State.countNotForPart_acts (s : State) : Acts s { s with valley := s.valley.countNotForPart } :=
  (PortAct.valley s.valley.countNotForPart (fun h => h.set 6 (satInc s.valley.notForPart) (satInc_le s.valley.notForPart)) id).run

/-! ## Crest frames -/

theorem State.loadedStationFrame_acts {d : Side} {i : Nat} {x : Station} {s : State} (f : Frame)
    (found : s.station i = some x) : Acts s (s.loadedStationFrame d i x f) := by
  unfold State.loadedStationFrame
  split
  · exact (s.countParked_acts d).trans (State.appendForward_acts f _)
  · rename_i unparked
    have unparked : x.cfg.parked = false := by simpa using unparked
    split
    · exact (State.countStation_acts (f := fun c => { c with wrongPort := satInc c.wrongPort }) found unparked
        (fun c h => h.set 4 (satInc c.wrongPort) (satInc_le c.wrongPort))).trans
        (State.appendForward_acts f _)
    · split
      · exact (State.countStation_acts (f := fun c => { c with wrongKind := satInc c.wrongKind }) found unparked
          (fun c h => h.set 5 (satInc c.wrongKind) (satInc_le c.wrongKind))).trans
          (State.appendForward_acts f _)
      · exact State.stationFrame_acts f found unparked

theorem State.otherCrestFrame_acts (d : Side) (f : Frame) (s : State) : Acts s (s.otherCrestFrame d f) := by
  unfold State.otherCrestFrame
  split
  · exact (s.countUnknown_acts d).trans (State.appendForward_acts f _)
  · split
    · exact s.countWrongSide_acts d
    · exact s.appendForward_acts f

theorem State.sourceOf_found {f : Frame} {s : State} {i : Nat} {x : Station} (h : s.sourceOf f = some (i, x)) :
    s.station i = some x := by
  unfold State.sourceOf at h
  obtain ⟨j, _, h⟩ := Option.bind_eq_some_iff.mp h
  obtain ⟨y, found, e⟩ := Option.map_eq_some_iff.mp h
  cases e
  exact found

theorem State.crestFrame_acts (d : Side) (p : PortId) (f : Frame) (s : State) : Acts s (s.crestFrame d p f) := by
  unfold State.crestFrame
  split
  · exact State.updPort_acts Port.countBadAddress_bounded
  · split
    · exact s.countWrongSide_acts d
    · split
      · exact State.loadedStationFrame_acts f (State.sourceOf_found ‹_›)
      · exact s.otherCrestFrame_acts d f

/-! ## Runnings out -/

theorem Output.reachOnTime_move (o : Output) : OutputMove o o.reachOnTime := by
  unfold Output.reachOnTime
  repeat' split
  all_goals exact ⟨rfl, .inl rfl⟩

theorem Output.boundary_move (o : Output) : OutputMove o o.boundary := by
  unfold Output.boundary
  repeat' split
  · exact ⟨rfl, .inr rfl⟩
  all_goals exact ⟨rfl, .inl rfl⟩

theorem Output.tenth_move (o : Output) : OutputMove o o.tenth := by
  unfold Output.tenth
  repeat' split
  all_goals exact ⟨rfl, .inl rfl⟩

theorem Output.evaluate_move (s : State) (o : Output) : OutputMove o (o.evaluate s) := by
  unfold Output.evaluate
  repeat' split
  · exact ⟨rfl, .inl rfl⟩
  · exact ⟨rfl, .inr rfl⟩
  all_goals exact ⟨rfl, .inl rfl⟩

theorem State.runOut_acts (r : RunningOut) (s : State) : Acts s (s.runOut r) := by
  cases r with
  | onTime k => exact (OutputAct.one k _ Output.reachOnTime_move).run
  | cycle k => exact (OutputAct.one k _ Output.boundary_move).run
  | silence i => exact s.takeSilence_acts i
  | blind i => exact s.takeBlind_acts i
  | bin i => exact s.takeBin_acts i
  | again z a => exact s.takeRepeat_acts z a
  | status => exact s.takeStatus_acts
  | force z => exact s.takeForce_acts z
  | hold z => exact s.takeHold_acts z
  | refresh z => exact s.takeRefresh_acts z

/-! ## The end of an event -/

theorem State.originate_acts (dst kind : Byte) (p : List Byte) (e : ReplyEffect) (s : State) :
    Acts s (s.originate dst kind p e) :=
  (PortAct.valley (s := s) (s.originate dst kind p e).valley id id).run

theorem State.takeNotice_acts {it : OutItem} {rest : List OutItem} {s : State} (head : s.notices.out = it :: rest) :
    Acts s (s.takeNotice it rest) := by
  have popped : Acts s { s with notices := { s.notices with out := rest } } :=
    (NoticeAct.mk _ (NoticeMove.sublist (head ▸ List.sublist_cons_self it rest))).run
  unfold State.takeNotice
  dsimp only
  split
  · exact popped.trans (State.originate_acts ..)
  · exact popped.trans (State.originate_acts ..)

theorem State.takeForward_acts {f : Frame} {rest : List Frame} {s : State} (head : s.valley.forward = f :: rest) :
    Acts s (s.takeForward f rest) := by
  refine (PortAct.valley (s := s) (s.takeForward f rest).valley id (fun h => ?_)).run
  rw [head] at h
  exact (Nat.le_succ _).trans h

theorem State.takeValley_acts (s : State) : Acts s s.takeValley := by
  unfold State.takeValley
  split
  · rename_i e r _
    exact (ZoneAct.sent e.zone r.addr).run.trans (State.originate_acts ..)
  · split
    · rename_i r rest head
      exact (PortAct.replyTaken r rest head).run.trans (State.originate_acts ..)
    · split
      · exact State.takeNotice_acts ‹_›
      · split
        · exact State.takeForward_acts ‹_›
        · exact Acts.refl s

theorem CrestPort.take_counts (c : CrestPort) : c.take.counts = c.counts := by
  unfold CrestPort.take
  split <;> rfl

theorem CrestPort.take_places (c : CrestPort) (h : c.queue.length ≤ 8) : c.take.queue.length ≤ 8 := by
  unfold CrestPort.take
  split
  · rename_i head
    rw [head] at h
    exact (Nat.le_succ _).trans h
  · exact h

theorem State.kickCrest_acts (d : Side) (s : State) : Acts s (s.kickCrest d) := by
  refine (PortAct.crest d _ (fun c h => ?_) (fun c h => ?_)).run
  · split
    · exact h
    · exact c.take_counts ▸ h
  · split
    · exact h
    · exact c.take_places h

theorem State.kickValley_acts (s : State) : Acts s s.kickValley := by
  unfold State.kickValley
  split
  · exact Acts.refl s
  · exact s.takeValley_acts

theorem State.kick_acts (s : State) : Acts s s.kick :=
  ((s.kickCrest_acts .a).trans (State.kickCrest_acts .b _)).trans (State.kickValley_acts _)

theorem State.reevaluate_acts (old s : State) : Acts s (s.reevaluate old) := by
  refine (OutputAct.each _ (fun o => ?_)).run
  split
  · exact ⟨rfl, .inl rfl⟩
  · exact o.evaluate_move s

theorem State.finish_acts (old s : State) : Acts s (State.finish old s) :=
  ((ZoneAct.ordered old).run.trans (State.reevaluate_acts old _)).trans (State.kick_acts _)

theorem State.settle_acts (s : State) : Acts s s.settle :=
  State.settle_keeps (P := fun t => Acts s t)
    (fun t r _ h => (h.trans (t.runOut_acts r)).trans (State.finish_acts t _)) (Acts.refl s)

/-! ## Time -/

theorem TimeStamp.advance_legal {t : TimeStamp}
    (h : t.tenth ≤ 9 ∧ t.second ≤ 59 ∧ t.minute ≤ 59 ∧ t.hour ≤ 23 ∧ t.day ≤ 65535) :
    t.advance.tenth ≤ 9 ∧ t.advance.second ≤ 59 ∧ t.advance.minute ≤ 59 ∧ t.advance.hour ≤ 23 ∧ t.advance.day ≤ 65535 := by
  unfold TimeStamp.advance
  split_ifs <;> dsimp only <;> omega

theorem State.secondEvent_acts (s : State) : Acts s s.secondEvent :=
  ((StationAct.second.run.trans SectorAct.second.run).trans ZoneAct.second.run).trans
    (NoticeAct.mk _ (by exact NoticeMove.statusCd (fall s.notices.statusCd) s.notices)).run

theorem Zone.minute_move (x : Zone) : ZoneMove x x.minute where
  cfg := rfl
  stage := rfl
  target := rfl
  force := by unfold Zone.minute Zone.forceStage; cases x.force <;> rfl
  hold := by unfold Zone.minute fall; cases x.hold <;> rfl
  refresh h none := by simp [Zone.minute, fall, none] at h
  undispatched := Nat.le_refl _

theorem State.minuteEvent_acts (s : State) : Acts s s.minuteEvent :=
  (Acts.pass State.sectorMinute_acts s).trans (ZoneAct.moved Zone.minute Zone.minute_move).run

theorem State.tick_acts (s : State) : Acts s s.tick := by
  have timed : Acts s { s with time := s.time.advance, outputs := mapTable Output.tenth s.outputs } := by
    refine Acts.trans (ControlAct.time s.time.advance (fun h => ?_)).run
      (OutputAct.each (s := { s with time := s.time.advance }) Output.tenth Output.tenth_move).run
    obtain ⟨tenth, second, minute, hour, day, phase⟩ := h
    obtain ⟨tenth, second, minute, hour, day⟩ := TimeStamp.advance_legal ⟨tenth, second, minute, hour, day⟩
    exact ⟨tenth, second, minute, hour, day, Nat.le_of_lt_succ (Nat.mod_lt _ (by decide))⟩
  have seconds : Acts s (if s.time.now.secondNext
      then State.secondEvent { s with time := s.time.advance, outputs := mapTable Output.tenth s.outputs }
      else { s with time := s.time.advance, outputs := mapTable Output.tenth s.outputs }) := by
    split
    · exact timed.trans (State.secondEvent_acts _)
    · exact timed
  unfold State.tick
  dsimp only
  split
  · exact seconds.trans (State.minuteEvent_acts _)
  · exact seconds

/-! ## RESTART (R201) -/

theorem Zone.restart_move (x : Zone) : ZoneMove x x.restart where
  cfg := rfl
  stage := rfl
  target := rfl
  force := rfl
  hold := by unfold Zone.restart; cases x.hold <;> rfl
  refresh := id
  undispatched := Nat.le_refl _

theorem State.restartLanes_acts (s : State) : Acts s s.restartLanes := by
  refine (StationAct.restart (s := s)).run.trans (LaneAct.settled _ (fun i => ?_)).run
  have place : entryAt (mapEntries (fun (y : Lane) => Lane.fresh y.cfg) s.lanes) i =
      (s.lane i).map (fun y => Lane.fresh y.cfg) := entryAt_mapEntries _ _ _
  rw [place]
  show LaneSettles (s.lane i) _
  cases s.lane i with
  | none => exact .inl rfl
  | some l => exact .inr ⟨l, Lane.fresh l.cfg, rfl, rfl, rfl, fun _ => Lane.fresh_legal l.cfg⟩

theorem State.restartOutputs_acts (s : State) : Acts s s.restartOutputs :=
  (OutputAct.each (fun o => Output.idle o.cfg) (fun _ => ⟨rfl, .inr rfl⟩)).run.trans
    (OutputAct.each _ (Output.evaluate_move _)).run

theorem State.restartEffect_acts (s : State) : Acts s s.restartEffect :=
  ((((ControlAct.cause { s.cause with warmCommand := true }).run.trans
    (ZoneAct.moved Zone.restart Zone.restart_move).run).trans (State.restartLanes_acts _)).trans
      SectorAct.restart.run).trans (State.restartOutputs_acts _)

end Sys2Proof.Machine
end

section
/-! The acts of the commands, of a start-up and of every row; what start-up and the acts keep, every step keeps. -/

namespace Sys2Proof.Machine

/-! ## What an argument block in range carries (R141 check 7, R208) -/

theorem stationArgs_limit {args : List Byte} {c : StationConfig} (h : stationArgs args = some c) : 10 ≤ c.limit := by
  unfold stationArgs at h
  split at h
  · split at h
    · rename_i inside
      cases h
      simp only [Bool.and_eq_true, inRange_iff] at inside
      exact inside.2.1
    · cases h
  · cases h

theorem sectorArgs_ranges {args : List Byte} {c : SectorConfig} (h : sectorArgs args = some c) :
    c.parked = false ∧ 10 ≤ c.blindDelay ∧ 5 ≤ c.binLength := by
  unfold sectorArgs at h
  dsimp only at h
  split at h
  · rename_i inside
    cases h
    simp only [sectorRanges, Bool.and_eq_true, inRange_iff] at inside
    exact ⟨rfl, by omega, by omega⟩
  · cases h

theorem zoneArgs_ranges {node : Byte} {args : List Byte} {c : ZoneConfig} (h : zoneArgs node args = some c) :
    arg args 0 < 12 ∧ (c.sirens ≠ [] ∧ c.sirens.Nodup) ∧ 1 ≤ c.holdDown ∧ 1 ≤ c.repeatInterval := by
  unfold zoneArgs at h
  dsimp only at h
  split at h
  · rename_i inside
    cases h
    simp only [zoneRanges, Bool.and_eq_true, inRange_iff, decide_eq_true_eq] at inside
    refine ⟨inside.1, ⟨fun none => ?_, by tauto⟩, by omega, by omega⟩
    simp [none] at inside
  · cases h

theorem outputArgs_run {args : List Byte} {c : OutputConfig} (h : outputArgs args = some c) : c.written.run := by
  unfold outputArgs at h
  dsimp only at h
  split at h
  · split at h
    · rename_i inside
      cases h
      simp only [Cadence.ok, Bool.and_eq_true, inRange_iff] at inside
      intro d hd
      simp only [List.mem_cons, List.not_mem_nil, or_false] at hd
      rcases hd with rfl | rfl | rfl <;> omega
    · cases h
  · cases h

theorem consoleArgs_drop {node : Byte} {args l : List Byte} (h : consoleArgs node args = some l) : l = args.drop 1 := by
  unfold consoleArgs at h
  dsimp only at h
  split at h
  · cases h; rfl
  · cases h

theorem clockArgs_legal {args : List Byte} {t : TimeStamp} (h : clockArgs args = some t) :
    t.tenth ≤ 9 ∧ t.second ≤ 59 ∧ t.minute ≤ 59 ∧ t.hour ≤ 23 ∧ t.day ≤ 65535 := by
  unfold clockArgs at h
  split at h
  · rename_i inside
    cases h
    simp only [Bool.and_eq_true, decide_eq_true_eq] at inside
    have high : arg args 0 < 256 := (args.getD 0 0).isLt
    have low : arg args 1 < 256 := (args.getD 1 0).isLt
    exact ⟨inside.2, inside.1.2, inside.1.1.2, inside.1.1.1, by
      show arg args 0 * 256 + arg args 1 ≤ 65535
      omega⟩
  · cases h

/-! ## Bodies of commands -/

theorem OnlyStations.heldPlaces {s t : State} (h : OnlyStations s t) : t.heldPlaces = s.heldPlaces := by
  unfold OnlyStations at h
  rw [h]
  rfl

theorem State.leaveBlank_heldPlaces (s : State) : s.leaveBlank.heldPlaces = s.heldPlaces := by
  unfold State.leaveBlank
  split <;> rfl

theorem State.leaveBlank_mode (s : State) : s.leaveBlank.mode ≠ .blank := by
  unfold State.leaveBlank
  split
  · simp
  · assumption

theorem State.leaveBlank_watching {s : State} (h : s.leaveBlank.mode = .watching) : s.leaveBlank = s ∧ s.mode = .watching := by
  unfold State.leaveBlank at h ⊢
  split
  · rename_i blank
    rw [if_pos blank] at h
    cases h
  · rename_i loaded
    rw [if_neg loaded] at h
    exact ⟨rfl, h⟩

/-- A verdict whose state is a run of acts away, with as many places of the reply queue held. -/
inductive VerdictActs (s : State) : Verdict → Prop
  | refuse (o : Outcome) (data : List Byte) : VerdictActs s (.refuse o data)
  | done (t : State) (data : List Byte) (e : ReplyEffect) (acts : Acts s t) (held : t.heldPlaces = s.heldPlaces) :
      VerdictActs s (.done t data e)
  | reserve (t : State) (acts : Acts s t) : VerdictActs s (.reserve t)

theorem VerdictActs.reading (data : List Byte) (s : State) : VerdictActs s (reading data s) :=
  .done s data .nothing (Acts.refl s) rfl

theorem VerdictActs.written {s t : State} (acts : Acts s t) (held : t.heldPlaces = s.heldPlaces) :
    VerdictActs s (written t) :=
  .done t [] .nothing acts held

theorem VerdictActs.checkedWrite {s after result : State}
    (acts : (s.mode = .watching → after.firstFailure = none) → Acts s result)
    (held : result.heldPlaces = s.heldPlaces) : VerdictActs s (checkedWrite s after result) := by
  unfold Machine.checkedWrite
  split
  · exact .refuse _ _
  · rename_i passes
    refine .written (acts fun watching => ?_) held
    rwa [State.writeFailure, if_pos watching] at passes

theorem VerdictActs.answer {s : State} {v : Verdict} (h : VerdictActs s v) (src code tag : Byte)
    (place : s.heldPlaces < 4) : Acts s (s.answer src code tag v) := by
  cases h with
  | refuse o data => exact (PortAct.reply _ _ _ _ _ _ place).run
  | done t data e acts held => exact acts.trans (PortAct.reply _ _ _ _ _ _ (held ▸ place)).run
  | reserve t acts => exact acts

/-- What follows a move out of BLANK. -/
theorem State.leaveBlank_acts {s t : State} (h : Acts s.leaveBlank t) : Acts s t :=
  ControlAct.leaveBlank.run.trans h

theorem mapEntries_setIfInBounds {α β : Type} {n : Nat} (f : α → β) (v : Vector (Option α) n) (i : Nat) (x : Option α) :
    mapEntries f (v.setIfInBounds i x) = (mapEntries f v).setIfInBounds i (x.map f) := by
  refine Vector.ext fun j hj => Option.some.inj ?_
  rw [← Vector.getElem?_eq_getElem, ← Vector.getElem?_eq_getElem, mapEntries, mapEntries, mapTable_getElem?,
    Vector.getElem?_setIfInBounds, Vector.getElem?_setIfInBounds, mapTable_getElem?]
  split
  · split <;> rfl
  · rfl

/-- The consistency check sees of a written sector its configuration alone. -/
theorem State.setSector_firstFailure {x y : Option Sector} (same : x.map Sector.cfg = y.map Sector.cfg) (i : Nat) (s : State) :
    (s.setSector i x).firstFailure = (s.setSector i y).firstFailure := by
  unfold State.firstFailure State.configs
  simp only [State.setSector_sectors, State.setSector_zones, State.setSector_lanes, State.setSector_stations,
    State.setSector_console, mapEntries_setIfInBounds, same]

theorem bodyLoadStation_acts (args : List Byte) (s : State) : VerdictActs s (bodyLoadStation args s) := by
  unfold bodyLoadStation
  dsimp only
  split
  · exact .refuse _ _
  · rename_i c read
    split
    · exact .refuse _ _
    · split
      · exact .refuse _ _
      · refine .checkedWrite (fun consistent => State.leaveBlank_acts ?_)
          ((OnlyStations.heldPlaces (State.writeStation_layer _ c _)).trans s.leaveBlank_heldPlaces)
        refine (StationAct.put _ _ (.loaded c (by have := stationArgs_limit read; omega) s.leaveBlank_mode
          (fun watching => ?_))).run.trans (State.handWithdrawn_acts _ _)
        obtain ⟨same, watching⟩ := State.leaveBlank_watching watching
        rw [same]
        exact consistent watching

theorem bodyClearStation_acts (args : List Byte) (s : State) : VerdictActs s (bodyClearStation args s) := by
  unfold bodyClearStation
  dsimp only
  split
  · exact .refuse _ _
  · split
    · exact .refuse _ _
    · refine .checkedWrite (fun consistent => ?_) (OnlyStations.heldPlaces (State.clearStationEntry_layer _ s))
      unfold State.clearStationEntry
      split
      · exact Acts.refl s
      · exact (StationAct.put _ _ (.cleared consistent)).run.trans (State.handWithdrawn_acts _ _)

theorem bodyLoadLane_acts (args : List Byte) (s : State) : VerdictActs s (bodyLoadLane args s) := by
  unfold bodyLoadLane
  dsimp only
  split
  · exact .refuse _ _
  · rename_i c _
    refine .checkedWrite (fun consistent => State.leaveBlank_acts ?_)
      ((OnlyStations.heldPlaces (State.writeLane_layer _ c _).stations).trans s.leaveBlank_heldPlaces)
    refine ((LaneAct.loaded _ c s.leaveBlank_mode (fun watching => ?_)).run.trans
      (State.laneUpdates_acts _ _)).trans (State.lostSource_acts _ _ _ _)
    obtain ⟨same, watching⟩ := State.leaveBlank_watching watching
    rw [same]
    exact consistent watching

theorem bodyClearLane_acts (args : List Byte) (s : State) : VerdictActs s (bodyClearLane args s) := by
  unfold bodyClearLane
  dsimp only
  split
  · exact .refuse _ _
  · refine .checkedWrite (fun consistent => ?_) (OnlyStations.heldPlaces (State.clearLaneEntry_layer _ s).stations)
    unfold State.clearLaneEntry
    split
    · exact Acts.refl s
    · exact ((LaneAct.cleared _ consistent).run.trans (State.laneUpdates_acts _ _)).trans (State.lostSource_acts _ _ _ _)

theorem bodyLoadSector_acts (args : List Byte) (s : State) : VerdictActs s (bodyLoadSector args s) := by
  unfold bodyLoadSector
  dsimp only
  split
  · exact .refuse _ _
  · rename_i c read
    obtain ⟨unparked, delay, bin⟩ := sectorArgs_ranges read
    split
    · exact .refuse _ _
    · split
      · exact .refuse _ _
      · split
        · exact .refuse _ _
        · refine .checkedWrite (fun consistent => State.leaveBlank_acts ?_)
            ((OnlyStations.heldPlaces (State.writeSector_layer _ c _).lanes.stations).trans s.leaveBlank_heldPlaces)
          refine (SectorAct.put _ _ (.loaded c s.leaveBlank unparked ⟨by omega, by omega⟩ s.leaveBlank_mode
            (fun watching => ?_))).run
          obtain ⟨same, watching⟩ := State.leaveBlank_watching watching
          rw [same, ← consistent watching]
          exact State.setSector_firstFailure (x := some (Sector.afresh s c none)) (y := some (Sector.start s c none)) rfl _ _

theorem bodyClearSector_acts (args : List Byte) (s : State) : VerdictActs s (bodyClearSector args s) := by
  unfold bodyClearSector
  dsimp only
  split
  · exact .refuse _ _
  · split
    · exact .refuse _ _
    · split
      · exact .refuse _ _
      · exact .checkedWrite (fun consistent => (SectorAct.put _ _ (.cleared consistent)).run)
          (OnlyStations.heldPlaces (State.putSector_layer _ _ s).lanes.stations)

theorem bodyLoadZone_acts (args : List Byte) (s : State) : VerdictActs s (bodyLoadZone args s) := by
  unfold bodyLoadZone
  dsimp only
  split
  · exact .refuse _ _
  · rename_i c read
    obtain ⟨place, sirens, periods⟩ := zoneArgs_ranges read
    refine .checkedWrite (fun consistent => State.leaveBlank_acts ?_)
      ((OnlyStations.heldPlaces (State.writeZone_layer _ c _).sectors.lanes.stations).trans s.leaveBlank_heldPlaces)
    refine (ZoneAct.written _ c place s.leaveBlank_mode sirens periods (fun watching => ?_)).run
    obtain ⟨same, watching⟩ := State.leaveBlank_watching watching
    rw [same]
    exact consistent watching

theorem bodyClearZone_acts (args : List Byte) (s : State) : VerdictActs s (bodyClearZone args s) := by
  unfold bodyClearZone
  dsimp only
  split
  · exact .refuse _ _
  · exact .checkedWrite (fun consistent => (ZoneAct.cleared _ consistent).run) rfl

theorem bodyLoadOutput_acts (args : List Byte) (s : State) : VerdictActs s (bodyLoadOutput args s) := by
  unfold bodyLoadOutput
  split
  · exact .refuse _ _
  · rename_i c read
    refine .written (State.leaveBlank_acts (OutputAct.written _ c (outputArgs_run read)).run)
      (Eq.trans ?_ s.leaveBlank_heldPlaces)
    unfold State.writeOutput
    split <;> rfl

theorem State.enterWatching_acts {s : State} (consistent : s.firstFailure = none) : Acts s s.enterWatching :=
  (ControlAct.watch consistent).run.trans (Acts.pass (fun z _ => (ZoneAct.announce z).run) _)

theorem State.enterWatching_layer (s : State) : OnlyZones { s with mode := .watching } s.enterWatching :=
  OnlyZones.pass State.announce_layer _

theorem Zone.stopRefresh_move (x : Zone) : ZoneMove x x.stopRefresh where
  cfg := rfl
  stage := rfl
  target := rfl
  force := rfl
  hold := rfl
  refresh h := absurd rfl h
  undispatched := Nat.le_refl _

theorem Zone.zeroUndispatched_move (x : Zone) : ZoneMove x x.zeroUndispatched where
  cfg := rfl
  stage := rfl
  target := rfl
  force := rfl
  hold := rfl
  refresh := id
  undispatched := Nat.zero_le _

theorem State.enterCommissioning_acts (s : State) : Acts s s.enterCommissioning :=
  ControlAct.commission.run.trans (ZoneAct.moved Zone.stopRefresh Zone.stopRefresh_move).run

theorem bounded_zeros {ns : List Nat} (h : ∀ n ∈ ns, n = 0) : Bounded ns := fun n hn => by
  rw [h n hn]; exact Nat.zero_le _

theorem State.zeroCounters_acts (s : State) : Acts s s.zeroCounters := by
  have crest (c : CrestPort) : Bounded c.zeroCounts.counts :=
    bounded_zeros (by simp [CrestPort.counts, Port.counts, CrestPort.zeroCounts, Port.zeroCounts])
  have valley (v : ValleyPort) : Bounded v.zeroCounts.counts :=
    bounded_zeros (by simp [ValleyPort.counts, Port.counts, ValleyPort.zeroCounts, Port.zeroCounts])
  have ports : Acts s { s with crestA := s.crestA.zeroCounts, crestB := s.crestB.zeroCounts, valley := s.valley.zeroCounts } :=
    ((PortAct.crest .a CrestPort.zeroCounts (fun c _ => crest c) (fun _ => id)).run.trans
      (PortAct.crest .b CrestPort.zeroCounts (fun c _ => crest c) (fun _ => id)).run).trans
      (PortAct.valley (s := (s.updCrest .a CrestPort.zeroCounts).updCrest .b CrestPort.zeroCounts) s.valley.zeroCounts
        (fun _ => valley _) id).run
  have tables := ((ports.trans StationAct.zeroCounts.run).trans
    (ZoneAct.acks 0 0 (fun _ => Nat.zero_le _) (fun _ => Nat.zero_le _)).run).trans
    (PortAct.lost 0 (fun _ => Nat.zero_le _)).run
  exact tables.trans (ZoneAct.moved Zone.zeroUndispatched Zone.zeroUndispatched_move).run

theorem State.setForce_heldPlaces (z : Nat) (f : Option Force) (s : State) :
    (s.setForce z f).heldPlaces = s.heldPlaces :=
  OnlyStations.heldPlaces (s.setForce_layer z f).sectors.lanes.stations

theorem bodyLoadConsole_acts {src : Byte} {args : List Byte} {s : State} (admitted : Admitted .loadConsole src args s) :
    VerdictActs s (bodyLoadConsole args s) := by
  unfold bodyLoadConsole
  split
  · exact .refuse _ _
  · rename_i l read
    refine .written (ControlAct.console l (fun watching empty => ?_)).run rfl
    obtain ⟨_, length, _, _, mode⟩ := admitted
    rw [consoleArgs_drop read, List.drop_eq_nil_iff] at empty
    simp only [requiredLength] at length
    simp only [modeOk, watching, Bool.or_eq_true, decide_eq_true_eq] at mode
    rcases mode with mode | mode
    · exact mode rfl
    · omega

theorem bodySetClock_acts (args : List Byte) (s : State) : VerdictActs s (bodySetClock args s) := by
  unfold bodySetClock
  split
  · exact .refuse _ _
  · rename_i t read
    refine .written (ControlAct.time _ (fun _ => ?_)).run rfl
    obtain ⟨tenth, second, minute, hour, day⟩ := clockArgs_legal read
    exact ⟨tenth, second, minute, hour, day, Nat.zero_le _⟩

/-- What an admitted command's body leaves is a run of acts away. -/
theorem bodyOf_acts {c : Command} {src : Byte} {args : List Byte} {s : State} (tag : Byte)
    (admitted : Admitted c src args s) : VerdictActs s (bodyOf c src tag args s) := by
  cases c with
  | setClock => exact bodySetClock_acts args s
  | loadConsole => exact bodyLoadConsole_acts admitted
  | loadStation => exact bodyLoadStation_acts args s
  | clearStation => exact bodyClearStation_acts args s
  | parkStation =>
    simp only [bodyOf, bodyParkStation]
    split
    · exact .refuse _ _
    · exact .written (s.parkStationEntry_acts _) (OnlyStations.heldPlaces (s.parkStationEntry_layer _))
  | unparkStation =>
    simp only [bodyOf, bodyUnparkStation]
    split
    · exact .refuse _ _
    · exact .written (s.unparkStationEntry_acts _) (OnlyStations.heldPlaces (s.unparkStationEntry_layer _))
  | loadLane => exact bodyLoadLane_acts args s
  | clearLane => exact bodyClearLane_acts args s
  | loadSector => exact bodyLoadSector_acts args s
  | clearSector => exact bodyClearSector_acts args s
  | parkSector =>
    simp only [bodyOf, bodyParkSector]
    split
    · exact .refuse _ _
    · rename_i x found
      split
      · exact .refuse _ _
      · exact .written (State.parkSectorEntry_acts found)
          (OnlyStations.heldPlaces (s.parkSectorEntry_layer _ x).lanes.stations)
  | unparkSector =>
    simp only [bodyOf, bodyUnparkSector]
    split
    · exact .refuse _ _
    · rename_i x found
      exact .written (State.unparkSectorEntry_acts found)
        (OnlyStations.heldPlaces (s.unparkSectorEntry_layer _ x).lanes.stations)
  | clearTrip =>
    simp only [bodyOf, bodyClearTrip]
    split
    · exact .refuse _ _
    · exact .written (s.clearLatch_acts _) (OnlyStations.heldPlaces (s.clearLatch_layer _).lanes.stations)
  | loadZone => exact bodyLoadZone_acts args s
  | clearZone => exact bodyClearZone_acts args s
  | forceStage =>
    simp only [bodyOf, bodyForceStage]
    split
    · exact .written (ZoneAct.force _ _).run (s.setForce_heldPlaces _ _)
    · exact .refuse _ _
  | releaseForce =>
    simp only [bodyOf, bodyReleaseForce]
    split
    · exact .refuse _ _
    · split
      · exact .written (ZoneAct.force _ none).run (s.setForce_heldPlaces _ _)
      · exact .written (Acts.refl s) rfl
  | loadOutput => exact bodyLoadOutput_acts args s
  | setNotices =>
    simp only [bodyOf, bodySetNotices]
    split
    · exact .refuse _ _
    · exact .written (NoticeAct.mk _ (NoticeMove.write _ _ s.console s.notices)).run rfl
  | clearNotices => exact .written (NoticeAct.mk _ (NoticeMove.clearSet _ s.notices)).run rfl
  | clearCounters => exact .written s.zeroCounters_acts rfl
  | goWatch =>
    simp only [bodyOf, bodyGoWatch]
    split
    · exact .refuse _ _
    · exact .written (State.enterWatching_acts ‹_›)
        ((OnlyStations.heldPlaces s.enterWatching_layer.sectors.lanes.stations).trans rfl)
  | goCommission => exact .written s.enterCommissioning_acts rfl
  | saveTables =>
    obtain ⟨place, _, _, idle, _⟩ := admitted
    exact .reserve _ (ControlAct.startSave src tag place (idle.resolve_left (by decide))).run
  | eraseTables =>
    obtain ⟨_, _, _, _, mode⟩ := admitted
    simp only [bodyOf, bodyEraseTables]
    split
    · exact .refuse _ _
    · exact .written (ControlAct.erase (by simpa [modeOk] using mode)).run rfl
  | restart => exact .done s [] .restart (Acts.refl s) rfl
  | reset => exact .done s [] .reset (Acts.refl s) rfl
  | clearResetCause => exact .written (ControlAct.cause _).run rfl
  | readIdent => exact .reading _ s
  | readClock => exact .reading _ s
  | readResetCause => exact .reading _ s
  | readStation => simp only [bodyOf, bodyReadStation]; split; exacts [.refuse _ _, .reading _ s]
  | readLane => simp only [bodyOf, bodyReadLane]; split; exacts [.refuse _ _, .reading _ s]
  | readSector => simp only [bodyOf, bodyReadSector]; split; exacts [.refuse _ _, .reading _ s]
  | readZone => simp only [bodyOf, bodyReadZone]; split; exacts [.refuse _ _, .reading _ s]
  | readDispatch => simp only [bodyOf, bodyReadDispatch]; split; exacts [.refuse _ _, .reading _ s]
  | readOutput => simp only [bodyOf, bodyReadOutput]; split; exacts [.reading _ s, .refuse _ _]
  | readNotices => simp only [bodyOf, bodyReadNotices]; split; exacts [.refuse _ _, .reading _ s]
  | readCounters => simp only [bodyOf, bodyReadCounters]; split; exacts [.refuse _ _, .reading _ s]

/-! ## The command unit -/

theorem State.loseCommand_acts (src code : Byte) (s : State) : Acts s (s.loseCommand src code) :=
  (PortAct.lost (satInc s.lost) (fun _ => satInc_le s.lost)).run.trans (State.raise_acts _ _)

/-- A command that passes checks 3 to 6 and finds a place is admitted. -/
theorem admitted_of_earlyRefusal_none {c : Command} {src : Byte} {args : List Byte} {s : State} (place : s.heldPlaces < 4)
    (none : earlyRefusal c src args s = none) : Admitted c src args s := by
  unfold earlyRefusal at none
  split_ifs at none with length permission idle mode
  refine ⟨place, by simpa [lengthOk] using length, ?_, ?_, by simpa using mode⟩
  · by_cases reads : isReading c = true
    · exact .inl reads
    · by_cases empty : s.console = []
      · exact .inr (.inl empty)
      · exact .inr (.inr (by simpa [reads, empty] using permission))
  · by_cases reads : isReading c = true
    · exact .inl reads
    · exact .inr (by simpa [reads] using idle)

theorem State.takeCommand_acts (c : Command) (src tag : Byte) (args : List Byte) (s : State) :
    Acts s (s.takeCommand c (bodyOf c src tag args) src tag args) := by
  unfold State.takeCommand
  split
  · exact s.loseCommand_acts src _
  · rename_i room
    have place : s.heldPlaces < 4 := by omega
    split
    · exact (PortAct.reply _ _ _ _ _ _ place).run
    · exact (bodyOf_acts tag (admitted_of_earlyRefusal_none place ‹_›)).answer src _ tag place

theorem State.refuseForm_acts (src code tag : Byte) (o : Outcome) (s : State) : Acts s (s.refuseForm src code tag o) := by
  unfold State.refuseForm
  split
  · exact s.loseCommand_acts src code
  · exact (PortAct.reply _ _ _ _ _ _ (by omega)).run

theorem State.takePayload_acts (src : Byte) (p : List Byte) (s : State) : Acts s (s.takePayload src p) := by
  unfold State.takePayload
  split
  · exact s.refuseForm_acts _ _ _ _
  · exact s.refuseForm_acts _ _ _ _
  · split
    · exact s.refuseForm_acts _ _ _ _
    · exact s.takeCommand_acts _ _ _ _

/-! ## Frames and characters -/

theorem State.valleyFrame_acts (f : Frame) (s : State) : Acts s (s.valleyFrame f) := by
  unfold State.valleyFrame
  split
  · exact State.updPort_acts Port.countBadAddress_bounded
  · split
    · unfold State.frameForPart
      split
      · exact s.takePayload_acts _ _
      · split
        · exact s.takeAck_acts _ _
        · exact s.countNotForPart_acts
    · split
      · unfold State.broadcastFrame
        dsimp only
        split
        · exact (s.appendBoth_acts f).trans (State.takePayload_acts _ _ _)
        · exact s.appendBoth_acts f
      · unfold State.forwardCrest
        split
        · exact s.appendCrest_acts _ f
        · exact s.appendBoth_acts f

theorem State.decideFrame_acts (p : PortId) (f : Frame) (s : State) : Acts s (s.decideFrame p f) := by
  cases p with
  | crestA => exact s.crestFrame_acts .a .crestA f
  | crestB => exact s.crestFrame_acts .b .crestB f
  | valley => exact s.valleyFrame_acts f

theorem State.receive_acts (p : PortId) (b : Byte) (s : State) : Acts s (s.receive p b) := by
  unfold State.receive
  split
  · dsimp only
    refine Acts.trans (t := s.updPort p (fun q => { q with rx := (rxStep (s.port p).rx b).1 }))
      (State.updPort_acts (fun _ h => h)) ?_
    unfold State.rxEvent
    split
    · exact Acts.refl _
    · exact State.updPort_acts Port.countOversize_bounded
    · exact State.updPort_acts Port.countCrcError_bounded
    · exact (State.updPort_acts Port.countReceived_bounded).trans (State.decideFrame_acts p _ _)
  · exact Acts.refl s

theorem State.feed_acts (p : PortId) (f : Frame) (s : State) : Acts s (s.feed p f) :=
  Acts.fold (fun t b => t.receive_acts p b) _ s

/-! ## Start-up -/

/-- The state at which a start-up begins: what the reset has done to the time base, the reset cause record and the
ports. -/
def StartsFrom (s v : State) : Prop :=
  v = { s with time := v.time, cause := v.cause, crestA := v.crestA, crestB := v.crestB, valley := v.valley } ∧
    (v.time = s.time ∨ v.time = TimeBase.powerOn)

/-- Steps 3 to 8 of a start-up from an image, before any zone is evaluated. -/
def State.restored (m : Image) (v : State) : State :=
  (v.startPorts.restore m).restoreSectors m

theorem State.startTables_cases (power : Bool) (v : State) :
    (∃ m, v.save = none ∧ v.store = .image m ∧
      v.startPorts.startTables power = eachBelow 12 State.evaluateZone ((v.restored m).raiseClock power)) ∨
    v.startPorts.startTables power = (v.startPorts.startEmpty.raiseClock power).raise .storeFault := by
  unfold State.startTables
  split
  · rename_i m valid
    refine .inl ⟨m, ?_⟩
    cases saving : v.save with
    | some j => simp [State.startPorts, saving, judgeStore] at valid
    | none =>
      cases stored : v.store with
      | void => simp [State.startPorts, saving, stored, judgeStore] at valid
      | empty => simp [State.startPorts, saving, stored, judgeStore] at valid
      | image n =>
        simp only [State.startPorts, saving, stored, judgeStore] at valid
        simp only [Option.isSome_none, Bool.false_eq_true, if_false] at valid
        split at valid
        · cases valid
        · cases valid
          exact ⟨rfl, rfl, rfl⟩
  · exact .inr rfl

theorem State.raiseClock_acts (power : Bool) (s : State) : Acts s (s.raiseClock power) := by
  unfold State.raiseClock
  split
  · exact s.raise_acts _
  · exact Acts.refl s

theorem State.startLast_acts (s : State) : Acts s s.startLast :=
  (NoticeAct.mk _ (NoticeMove.statusCd (loadStatus s.notices.period) s.notices)).run.trans
    (OutputAct.each _ (Output.evaluate_move _)).run

/-! ## A port that is sending -/

/-- No running out touches a port. -/
theorem State.runOut_ports (r : RunningOut) (s : State) :
    (s.runOut r).crestA = s.crestA ∧ (s.runOut r).crestB = s.crestB ∧ (s.runOut r).valley = s.valley := by
  have lanes {t : State} (h : OnlyLanes s t) : t.crestA = s.crestA ∧ t.crestB = s.crestB ∧ t.valley = s.valley := by
    unfold OnlyLanes at h
    rw [h]
    exact ⟨rfl, rfl, rfl⟩
  have output (k : Nat) (f : Output → Output) : (s.updOutput k f).crestA = s.crestA ∧
      (s.updOutput k f).crestB = s.crestB ∧ (s.updOutput k f).valley = s.valley := by
    unfold State.updOutput
    split <;> exact ⟨rfl, rfl, rfl⟩
  cases r with
  | onTime k => exact output k _
  | cycle k => exact output k _
  | silence i =>
    simp only [State.runOut, State.takeSilence]
    split
    · exact ⟨rfl, rfl, rfl⟩
    · rename_i x _
      split
      · have gone : OnlyLanes ((s.raiseSilence i x .silent).setStation i (some { x with live := .silent, silence := none }))
            (s.stationSilent i x) := (State.lanesSilent_layer i _).trans (State.tripHandoff_layer i _).lanes
        unfold OnlyLanes at gone
        rw [gone]
        exact ⟨rfl, rfl, rfl⟩
      · exact ⟨rfl, rfl, rfl⟩
  | blind i => exact lanes (s.updSector_layer i _).lanes
  | bin i => exact lanes (s.updSector_layer i _).lanes
  | again z a => exact lanes (s.takeRepeat_layer z a).sectors.lanes
  | status =>
    simp only [State.runOut, State.takeStatus]
    split <;> exact ⟨rfl, rfl, rfl⟩
  | force z =>
    simp only [State.runOut, State.takeForce]
    repeat' split
    · exact ⟨rfl, rfl, rfl⟩
    · exact lanes (s.setForce_layer z _).sectors.lanes
    · exact ⟨rfl, rfl, rfl⟩
  | hold z =>
    simp only [State.runOut, State.takeHold]
    repeat' split
    · exact ⟨rfl, rfl, rfl⟩
    · exact lanes (s.holdEnds_layer z).sectors.lanes
    · exact ⟨rfl, rfl, rfl⟩
  | refresh z =>
    simp only [State.runOut, State.takeRefresh]
    repeat' split
    · exact ⟨rfl, rfl, rfl⟩
    · exact lanes (s.refreshRunsOut_layer z).sectors.lanes
    · exact ⟨rfl, rfl, rfl⟩

/-- A transmitter that is sending takes nothing (R16, R17). -/
theorem State.kick_port {p : PortId} {s : State} (busy : (s.port p).tx.isSome = true) : s.kick.port p = s.port p := by
  have valley (t : State) : t.kickValley.crestA = t.crestA ∧ t.kickValley.crestB = t.crestB := by
    unfold State.kickValley State.takeValley State.takeNotice
    repeat' split
    all_goals exact ⟨rfl, rfl⟩
  cases p with
  | crestA =>
    show (State.kickValley _).crestA.port = _
    rw [(valley _).1]
    exact congrArg CrestPort.port (if_pos busy)
  | crestB =>
    show (State.kickValley _).crestB.port = _
    rw [(valley _).2]
    exact congrArg CrestPort.port (if_pos busy)
  | valley =>
    have idle : State.kickValley ((s.kickCrest .a).kickCrest .b) = (s.kickCrest .a).kickCrest .b := if_pos busy
    show (State.kickValley _).valley.port = _
    rw [idle]
    rfl

theorem State.settle_port {p : PortId} {s : State} (busy : (s.port p).tx.isSome = true) : s.settle.port p = s.port p := by
  refine State.settle_keeps (P := fun t => t.port p = s.port p) (fun t r _ h => ?_) rfl
  have kept : (t.runOut r).port p = t.port p := by
    obtain ⟨a, b, v⟩ := t.runOut_ports r
    cases p with
    | crestA => exact congrArg CrestPort.port a
    | crestB => exact congrArg CrestPort.port b
    | valley => exact congrArg ValleyPort.port v
  have ended : ((t.runOut r).orderAlerts t |>.reevaluate t).port p = s.port p := by
    rw [← h, ← kept]
    cases p <;> rfl
  exact (State.kick_port (by rw [ended]; exact busy)).trans ended

theorem State.settle_completesReset {p : PortId} {s : State} (busy : ¬ (s.port p).tx = none) :
    s.settle.completesReset p = s.completesReset p := by
  unfold State.completesReset
  rw [State.settle_port (Option.isSome_iff_ne_none.mpr busy)]

/-! ## Every row -/

theorem eventStep_acts {f : State → State} (h : ∀ s, Acts s (f s)) (s : State) :
    ∃ t, eventStep f s = .next t ∧ Acts s t :=
  ⟨_, rfl, (s.settle_acts.trans (h _)).trans (State.finish_acts _ _)⟩

theorem runOutStep_acts (r : RunningOut) (s : State) : ∃ t, runOutStep (s.runOut r) s = .next t ∧ Acts s t :=
  ⟨_, rfl, (s.runOut_acts r).trans (State.finish_acts _ _)⟩

theorem commandStep_acts (c : Command) (src tag : Byte) (args : List Byte) (s : State) :
    ∃ t, commandStep c (bodyOf c src tag args) src tag args s = .next t ∧ Acts s t :=
  eventStep_acts (fun t => t.takeCommand_acts c src tag args) s

theorem State.completeTransmit_acts {p : PortId} {s : State} (h : s.completesReset p = false) :
    Acts s (s.completeTransmit p) := by
  unfold State.completeTransmit
  split
  · exact Acts.refl s
  · rename_i f sending
    refine Acts.trans (t := s.updPort p (fun q => { q.countSent with tx := none }))
      (State.updPort_acts Port.countSent_bounded) ?_
    cases effect : f.effect with
    | nothing => exact Acts.refl _
    | restart => exact State.restartEffect_acts _
    | reset => simp [State.completesReset, sending, effect] at h

theorem State.completeTransmit_reset {p : PortId} {s : State} (h : s.completesReset p = true) :
    ∃ v, StartsFrom s v ∧ s.completeTransmit p = v.startUp false := by
  unfold State.completesReset at h
  obtain ⟨f, sending, effect⟩ := Option.map_eq_some_iff.mp (of_decide_eq_true h)
  unfold State.completeTransmit
  rw [sending]
  dsimp only
  rw [effect]
  refine ⟨_, ?_, rfl⟩
  cases p <;> exact ⟨rfl, .inl rfl⟩

/-- Every row answers a next state, and that is a run of acts away from the state it found, or from a start-up. -/
theorem exec_acts (i : Instr) (s : State) : ∃ t, exec i s = .next t ∧
    (Acts s t ∨ ∃ power v, StartsFrom s v ∧ Acts (v.startPorts.startTables power) t) := by
  have event {f : State → State} (h : ∀ s, Acts s (f s)) : ∃ t, eventStep f s = .next t ∧
      (Acts s t ∨ ∃ power v, StartsFrom s v ∧ Acts (v.startPorts.startTables power) t) :=
    (eventStep_acts h s).imp fun _ => And.imp_right .inl
  have ranOut (r : RunningOut) : ∃ t, runOutStep (s.runOut r) s = .next t ∧
      (Acts s t ∨ ∃ power v, StartsFrom s v ∧ Acts (v.startPorts.startTables power) t) :=
    (runOutStep_acts r s).imp fun _ => And.imp_right .inl
  have command (c : Command) (src tag : Byte) (args : List Byte) : ∃ t,
      commandStep c (bodyOf c src tag args) src tag args s = .next t ∧
      (Acts s t ∨ ∃ power v, StartsFrom s v ∧ Acts (v.startPorts.startTables power) t) :=
    (commandStep_acts c src tag args s).imp fun _ => And.imp_right .inl
  have started {u v : State} {power : Bool} (from_ : StartsFrom s v) (h : Acts (v.startUp power) u) :
      ∃ t, startStep u = .next t ∧
      (Acts s t ∨ ∃ power v, StartsFrom s v ∧ Acts (v.startPorts.startTables power) t) :=
    ⟨_, rfl, .inr ⟨power, v, from_, ((State.startLast_acts _).trans h).trans (State.finish_acts u u)⟩⟩
  cases i with
  | powerOn => exact started ⟨rfl, .inr rfl⟩ (Acts.refl _)
  | lineReset =>
    show ∃ t, execLineReset s = .next t ∧ _
    unfold execLineReset
    split
    · exact event Acts.refl
    · exact started (v := { s with cause := { s.cause with line := true } }) ⟨rfl, .inl rfl⟩
        (State.updPort_acts (p := .valley) (g := fun p => { p with line := .spent }) (fun _ h => h))
  | idleGap p => exact event (fun _ => State.updPort_acts Port.endFrame_bounded)
  | brokenCharacter p => exact event (fun _ => State.updPort_acts Port.breakChar_bounded)
  | oversizeError p len =>
    refine event (f := fun t => if (t.port p).rx = .length ∧ inRange 4 60 len.toNat = false then t.receive p len else t)
      (fun t => ?_)
    split
    · exact t.receive_acts p len
    · exact Acts.refl t
  | frameReceived p f => exact event (fun t => t.feed_acts p f)
  | transmitCompletion p =>
    show ∃ t, execTransmitCompletion p s = .next t ∧ _
    unfold execTransmitCompletion
    split
    · exact event Acts.refl
    · split
      · obtain ⟨v, from_, eq⟩ := State.completeTransmit_reset ‹_›
        rw [eq]
        exact started from_ (Acts.refl _)
      · rename_i busy stays
        have held := State.settle_completesReset busy
        exact ⟨_, rfl, .inl ((s.settle_acts.trans (State.completeTransmit_acts
          (held.trans (by simpa using stays)))).trans (State.finish_acts _ _))⟩
  | tenthTick => exact event State.tick_acts
  | cadenceOnTimeReached k => exact ranOut (.onTime k)
  | cycleBoundary k => exact ranOut (.cycle k)
  | silenceCountdownExpiry k => exact ranOut (.silence k)
  | blindCountdownExpiry k => exact ranOut (.blind k)
  | binAdvance k => exact ranOut (.bin k)
  | repeatCountdownExpiry z a => exact ranOut (.again z a)
  | statusCountdownExpiry => exact ranOut .status
  | forceExpiry z => exact ranOut (.force z)
  | endOfHold z => exact ranOut (.hold z)
  | refreshExpiry z => exact ranOut (.refresh z)
  | saveCompletion => exact event (fun _ => ControlAct.completeSave.run)
  | characterReceived p b => exact event (fun t => t.receive_acts p b)
  | lineReturnsToMark p => exact event (fun _ => State.updPort_acts (fun _ h => h))
  | readIdent src tag args => exact command .readIdent src tag args
  | readClock src tag args => exact command .readClock src tag args
  | setClock src tag args => exact command .setClock src tag args
  | loadConsole src tag args => exact command .loadConsole src tag args
  | loadStation src tag args => exact command .loadStation src tag args
  | clearStation src tag args => exact command .clearStation src tag args
  | readStation src tag args => exact command .readStation src tag args
  | parkStation src tag args => exact command .parkStation src tag args
  | unparkStation src tag args => exact command .unparkStation src tag args
  | loadLane src tag args => exact command .loadLane src tag args
  | clearLane src tag args => exact command .clearLane src tag args
  | readLane src tag args => exact command .readLane src tag args
  | loadSector src tag args => exact command .loadSector src tag args
  | clearSector src tag args => exact command .clearSector src tag args
  | readSector src tag args => exact command .readSector src tag args
  | parkSector src tag args => exact command .parkSector src tag args
  | unparkSector src tag args => exact command .unparkSector src tag args
  | clearTrip src tag args => exact command .clearTrip src tag args
  | loadZone src tag args => exact command .loadZone src tag args
  | clearZone src tag args => exact command .clearZone src tag args
  | readZone src tag args => exact command .readZone src tag args
  | forceStage src tag args => exact command .forceStage src tag args
  | releaseForce src tag args => exact command .releaseForce src tag args
  | readDispatch src tag args => exact command .readDispatch src tag args
  | loadOutput src tag args => exact command .loadOutput src tag args
  | readOutput src tag args => exact command .readOutput src tag args
  | setNotices src tag args => exact command .setNotices src tag args
  | readNotices src tag args => exact command .readNotices src tag args
  | clearNotices src tag args => exact command .clearNotices src tag args
  | readCounters src tag args => exact command .readCounters src tag args
  | clearCounters src tag args => exact command .clearCounters src tag args
  | goWatch src tag args => exact command .goWatch src tag args
  | goCommission src tag args => exact command .goCommission src tag args
  | saveTables src tag args => exact command .saveTables src tag args
  | eraseTables src tag args => exact command .eraseTables src tag args
  | restart src tag args => exact command .restart src tag args
  | reset src tag args => exact command .reset src tag args
  | readResetCause src tag args => exact command .readResetCause src tag args
  | clearResetCause src tag args => exact command .clearResetCause src tag args

end Sys2Proof.Machine
end

section
/-! What each kind of act may touch, and steps: a property that start-up and every act keep is kept by every step. -/

namespace Sys2Proof.Machine

/-! ## What each kind of act may touch -/

/-- Only ports, replies and the count of lost commands may differ. -/
def OnlyPorts (s t : State) : Prop :=
  t = { s with crestA := t.crestA, crestB := t.crestB, valley := t.valley, replies := t.replies, lost := t.lost }

/-- Only outputs may differ. -/
def OnlyOutputs (s t : State) : Prop :=
  t = { s with outputs := t.outputs }

/-- Straps, rate, node address, ports, the notice unit, the count of lost commands and the waiting queue stand. -/
def OnlyControls (s t : State) : Prop :=
  t = { s with time := t.time, stations := t.stations, lanes := t.lanes, sectors := t.sectors, zones := t.zones
               dispatch := t.dispatch, outputs := t.outputs, console := t.console, replies := t.replies
               save := t.save, mode := t.mode, store := t.store, cause := t.cause }

/-- Only the tables, the Dispatch Queue and the notice unit may differ. -/
def OnlyTables (s t : State) : Prop :=
  t = { s with stations := t.stations, lanes := t.lanes, sectors := t.sectors, zones := t.zones
               dispatch := t.dispatch, notices := t.notices }

theorem PortAct.only {s t : State} (h : PortAct s t) : OnlyPorts s t := by
  cases h with
  | port p g _ => cases p <;> rfl
  | crest d g _ _ => cases d <;> rfl
  | valley v _ _ => rfl
  | reply dst code tag o data e _ => rfl
  | replyTaken r rest _ => rfl
  | lost n _ => rfl

theorem NoticeAct.only {s t : State} (h : NoticeAct s t) : OnlyNotices s t := by
  cases h
  rfl

theorem ZoneAct.only {s t : State} (h : ZoneAct s t) : OnlyZones s t := by
  cases h with
  | evaluate z => exact s.evaluateZone_layer z
  | holdEnds z => exact s.holdEnds_layer z
  | force z f => exact s.setForce_layer z f
  | refresh z _ => exact s.refreshRunsOut_layer z
  | announce z => exact s.announce_layer z
  | records z f _ => exact s.updEntry_layer z f
  | sent z a => exact s.alertSent_layer z a
  | acks _ _ _ _ => rfl
  | second => rfl
  | moved f _ => rfl
  | written z c _ _ _ _ _ => exact s.writeZone_layer z c
  | cleared z _ => exact s.clearZoneEntry_layer z
  | ordered old => rfl

theorem SectorAct.only {s t : State} (h : SectorAct s t) : OnlySectors s t := by
  cases h with
  | put i x _ => exact s.putSector_layer i x
  | second => rfl
  | restart => exact s.restartSectors_layer

theorem LaneAct.only {s t : State} (h : LaneAct s t) : OnlyLanes s t := by
  cases h <;> rfl

theorem StationAct.only {s t : State} (h : StationAct s t) : t = { s with stations := t.stations } := by
  cases h <;> rfl

theorem StationAct.tables {s t : State} (h : StationAct s t) : OnlyTables s t := by
  have only := h.only
  unfold OnlyTables
  rw [only]

theorem OnlyLanes.tables {s t : State} (h : OnlyLanes s t) : OnlyTables s t := by
  unfold OnlyLanes at h
  unfold OnlyTables
  rw [h]

theorem OutputAct.only {s t : State} (h : OutputAct s t) : OnlyOutputs s t := by
  cases h with
  | written k c _ =>
    unfold State.writeOutput
    split <;> rfl
  | each f _ => rfl
  | one k f _ =>
    unfold State.updOutput
    split <;> rfl

theorem ControlAct.only {s t : State} (h : ControlAct s t) : OnlyControls s t := by
  cases h with
  | leaveBlank =>
    unfold State.leaveBlank
    split <;> rfl
  | completeSave =>
    unfold State.completeSave
    split <;> rfl
  | time b _ => rfl
  | console l _ => rfl
  | cause c => rfl
  | watch _ => rfl
  | commission => rfl
  | erase _ => rfl
  | startSave src tag _ _ => rfl

/-- An act that is neither on ports, outputs nor controls touches the tables, their queues and the notice unit alone. -/
theorem Act.cases_layer {s t : State} (h : Act s t) :
    PortAct s t ∨ OutputAct s t ∨ ControlAct s t ∨ OnlyTables s t := by
  cases h with
  | port h => exact .inl h
  | output h => exact .inr (.inl h)
  | control h => exact .inr (.inr (.inl h))
  | notice h => exact .inr (.inr (.inr h.only.zones.sectors.lanes.tables))
  | zone h => exact .inr (.inr (.inr h.only.sectors.lanes.tables))
  | sector h => exact .inr (.inr (.inr h.only.lanes.tables))
  | lane h => exact .inr (.inr (.inr h.only.tables))
  | station h => exact .inr (.inr (.inr h.tables))

/-! ## Steps -/

/-- What a start-up and every act keep, and the waiting queue does not matter to, every step keeps. -/
theorem step_keeps {P : State → Prop} (pending : ∀ s l, P s → P { s with pending := l })
    (start : ∀ power s v, StartsFrom s v → P s → P (v.startPorts.startTables power))
    (act : ∀ s t, Act s t → P s → P t) {s t : State} (h : P s) (step : Machine.step s = .next t) : P t := by
  unfold Machine.step at step
  split at step
  · cases step
    exact h
  · rename_i c rest _
    obtain ⟨u, next, run⟩ := exec_acts c { s with pending := rest }
    rw [next] at step
    cases step
    have here := pending s rest h
    rcases run with run | ⟨power, v, starts, run⟩
    · exact run.keeps act here
    · exact run.keeps act (start power _ v starts here)

/-- Settles O1: both by the definition of a step. -/
theorem stepTakesTheFrontOfTheQueue : Obligations.StepTakesTheFrontOfTheQueue := by
  unfold Obligations.StepTakesTheFrontOfTheQueue
  refine ⟨fun c rest s => rfl, fun s empty => ?_⟩
  unfold step
  rw [empty]

theorem Act.pending_straps {s t : State} (h : Act s t) : t.pending = s.pending ∧ t.straps = s.straps := by
  rcases h.cases_layer with h | h | h | h
  · rw [h.only]; exact ⟨rfl, rfl⟩
  · rw [h.only]; exact ⟨rfl, rfl⟩
  · rw [h.only]; exact ⟨rfl, rfl⟩
  · rw [h]; exact ⟨rfl, rfl⟩

theorem Acts.pending_straps {s t : State} (h : Acts s t) : t.pending = s.pending ∧ t.straps = s.straps :=
  h.keeps (P := fun u => u.pending = s.pending ∧ u.straps = s.straps)
    (fun _ _ act k => ⟨act.pending_straps.1.trans k.1, act.pending_straps.2.trans k.2⟩) ⟨rfl, rfl⟩

theorem Acts.evaluateZones (s : State) : Acts s (eachBelow 12 State.evaluateZone s) :=
  Acts.pass (fun z _ => (ZoneAct.evaluate z).run) s

/-- A start-up's tables are a run of acts away from the tables restored, or from the empty ones. -/
theorem State.startTables_acts (power : Bool) (v : State) :
    (∃ m, v.save = none ∧ v.store = .image m ∧ Acts (v.restored m) (v.startPorts.startTables power)) ∨
      Acts v.startPorts.startEmpty (v.startPorts.startTables power) := by
  rcases State.startTables_cases power v with ⟨m, idle, stored, eq⟩ | eq
  · rw [eq]
    exact .inl ⟨m, idle, stored, (State.raiseClock_acts power _).trans (Acts.evaluateZones _)⟩
  · rw [eq]
    exact .inr ((State.raiseClock_acts power _).trans (State.raise_acts _ _))

/-- Settles O2: a row is a run of acts, and neither an act nor a start-up touches the waiting queue or the straps. -/
theorem everyCommandAnswersANextState : Obligations.EveryCommandAnswersANextState := by
  intro c s
  obtain ⟨t, next, run⟩ := exec_acts c s
  refine ⟨t, next, ?_⟩
  rcases run with run | ⟨power, v, ⟨starts, _⟩, run⟩
  · exact run.pending_straps
  · have started : (v.startPorts.startTables power).pending = s.pending ∧
        (v.startPorts.startTables power).straps = s.straps := by
      rcases State.startTables_acts power v with ⟨m, _, _, tables⟩ | tables
      · rw [tables.pending_straps.1, tables.pending_straps.2, starts]
        exact ⟨rfl, rfl⟩
      · rw [tables.pending_straps.1, tables.pending_straps.2, starts]
        exact ⟨rfl, rfl⟩
    exact ⟨run.pending_straps.1.trans started.1, run.pending_straps.2.trans started.2⟩

/-! ## The time base -/

theorem Act.timeLegal {s t : State} (h : Act s t) (legal : TimeLegal s) : TimeLegal t := by
  rcases h.cases_layer with h | h | h | h
  · rw [h.only]; exact legal
  · rw [h.only]; exact legal
  · cases h with
    | time b keeps => exact keeps legal
    | leaveBlank => unfold State.leaveBlank; split <;> exact legal
    | completeSave => unfold State.completeSave; split <;> exact legal
    | console l _ => exact legal
    | cause c => exact legal
    | watch _ => exact legal
    | commission => exact legal
    | erase _ => exact legal
    | startSave src tag _ _ => exact legal
  · rw [h]; exact legal

theorem timeLegal_step {s t : State} (legal : TimeLegal s) (step : Machine.step s = .next t) : TimeLegal t := by
  refine step_keeps (P := TimeLegal) (fun _ _ h => h) (fun power s v starts h => ?_) (fun _ _ => Act.timeLegal) legal step
  have began : TimeLegal v := by
    unfold TimeLegal
    rcases starts.2 with same | zero
    · rw [same]; exact h
    · rw [zero]; exact ⟨by decide, by decide, by decide, by decide, by decide, by decide⟩
  rcases State.startTables_acts power v with ⟨m, _, _, tables⟩ | tables
  · exact tables.keeps (fun _ _ => Act.timeLegal) began
  · exact tables.keeps (fun _ _ => Act.timeLegal) began

end Sys2Proof.Machine
end

section
/-! The tables one by one: which acts touch each of them, and what the Station Table, the Lane Map and the sectors keep. -/

namespace Sys2Proof.Machine

/-! ## Which acts touch a table -/

theorem entryAt_empty {α : Type} {n i : Nat} : entryAt (Vector.replicate n (none : Option α)) i = none := by
  unfold entryAt
  rw [Vector.getElem?_replicate]
  split <;> rfl

/-- Of the controls, only the erasing of the tables touches one. -/
theorem ControlAct.tables {s t : State} (h : ControlAct s t) :
    (t.stations = s.stations ∧ t.lanes = s.lanes ∧ t.sectors = s.sectors ∧ t.zones = s.zones ∧ t.outputs = s.outputs ∧
      t.dispatch = s.dispatch) ∨ (s.mode ≠ .watching ∧ t = s.eraseAll) := by
  cases h with
  | erase mode => exact .inr ⟨mode, rfl⟩
  | leaveBlank => unfold State.leaveBlank; split <;> exact .inl ⟨rfl, rfl, rfl, rfl, rfl, rfl⟩
  | completeSave => unfold State.completeSave; split <;> exact .inl ⟨rfl, rfl, rfl, rfl, rfl, rfl⟩
  | time b _ => exact .inl ⟨rfl, rfl, rfl, rfl, rfl, rfl⟩
  | console l _ => exact .inl ⟨rfl, rfl, rfl, rfl, rfl, rfl⟩
  | cause c => exact .inl ⟨rfl, rfl, rfl, rfl, rfl, rfl⟩
  | watch _ => exact .inl ⟨rfl, rfl, rfl, rfl, rfl, rfl⟩
  | commission => exact .inl ⟨rfl, rfl, rfl, rfl, rfl, rfl⟩
  | startSave src tag _ _ => exact .inl ⟨rfl, rfl, rfl, rfl, rfl, rfl⟩

theorem Act.stations_cases {s t : State} (h : Act s t) :
    t.stations = s.stations ∨ StationAct s t ∨ (s.mode ≠ .watching ∧ t = s.eraseAll) := by
  cases h with
  | port h => rw [h.only]; exact .inl rfl
  | notice h => rw [h.only]; exact .inl rfl
  | zone h => rw [h.only]; exact .inl rfl
  | sector h => rw [h.only]; exact .inl rfl
  | lane h => rw [h.only]; exact .inl rfl
  | station h => exact .inr (.inl h)
  | output h => rw [h.only]; exact .inl rfl
  | control h => exact h.tables.elim (fun h => .inl h.1) (fun h => .inr (.inr h))

theorem Act.lanes_cases {s t : State} (h : Act s t) :
    t.lanes = s.lanes ∨ LaneAct s t ∨ (s.mode ≠ .watching ∧ t = s.eraseAll) := by
  cases h with
  | port h => rw [h.only]; exact .inl rfl
  | notice h => rw [h.only]; exact .inl rfl
  | zone h => rw [h.only]; exact .inl rfl
  | sector h => rw [h.only]; exact .inl rfl
  | lane h => exact .inr (.inl h)
  | station h => rw [h.only]; exact .inl rfl
  | output h => rw [h.only]; exact .inl rfl
  | control h => exact h.tables.elim (fun h => .inl h.2.1) (fun h => .inr (.inr h))

theorem Act.sectors_cases {s t : State} (h : Act s t) :
    t.sectors = s.sectors ∨ SectorAct s t ∨ (s.mode ≠ .watching ∧ t = s.eraseAll) := by
  cases h with
  | port h => rw [h.only]; exact .inl rfl
  | notice h => rw [h.only]; exact .inl rfl
  | zone h => rw [h.only]; exact .inl rfl
  | sector h => exact .inr (.inl h)
  | lane h => cases h <;> exact .inl rfl
  | station h => rw [h.only]; exact .inl rfl
  | output h => rw [h.only]; exact .inl rfl
  | control h => exact h.tables.elim (fun h => .inl h.2.2.1) (fun h => .inr (.inr h))

/-! ## Stations (R31 to R33, R43) -/

/-- A station's state, countdown and records agree: the words of `StationsLegal`. -/
def Station.Legal (x : Station) : Prop :=
  (x.cfg.parked = true ↔ x.live = .parked) ∧ (x.silence.isSome = true ↔ x.live = .absent ∨ x.live = .live) ∧
    (x.live = .live → x.lastSeq.isSome = true ∧ x.lastHeard.isSome = true) ∧
    (x.live = .absent ∨ x.live = .parked → x.lastSeq = none ∧ x.lastHeard = none ∧ x.contents = none) ∧
    (x.live = .parked → x.counts = StationCounts.zero)

theorem Station.afresh_legal {c : StationConfig} {n : StationCounts} (zero : c.parked = true → n = StationCounts.zero) :
    (Station.afresh c n).Legal := by
  cases parked : c.parked with
  | false => simp [Station.Legal, Station.afresh, parked]
  | true => simp [Station.Legal, Station.afresh, parked, zero parked]

theorem Station.Legal.live_of_unparked {x : Station} (h : x.Legal) (unparked : x.cfg.parked = false) : x.live ≠ .parked :=
  fun live => by rw [h.1.mpr live] at unparked; cases unparked

/-- A write of the Station Table leaves a legal entry where it found one. -/
theorem StationWrite.legal {s : State} {i : Nat} {y : Station} (h : StationWrite s i (some y))
    (legal : ∀ x, s.station i = some x → x.Legal) : y.Legal := by
  cases h with
  | counted x c found unparked _ =>
    obtain ⟨parked, silence, live, records, _⟩ := legal x found
    exact ⟨parked, silence, live, records, fun l => absurd l ((legal x found).live_of_unparked unparked)⟩
  | forwarded x n found => exact legal x found
  | accepted x seq missed now got found unparked =>
    exact ⟨by simp [Station.accept, unparked], by simp [Station.accept], fun _ => ⟨rfl, rfl⟩,
      by simp [Station.accept], by simp [Station.accept]⟩
  | silent x found ranOut =>
    obtain ⟨parked, silence, _, _, _⟩ := legal x found
    have counting : x.live = .absent ∨ x.live = .live := silence.mp (by simp [ranOut])
    have unparked : x.live ≠ .parked := by rcases counting with l | l <;> rw [l] <;> simp
    exact ⟨⟨fun p => absurd (parked.mp p) unparked, fun l => nomatch l⟩, by simp, by simp, by simp, by simp⟩
  | reparked x b found => exact Station.afresh_legal fun _ => rfl
  | loaded c _ _ _ => exact Station.afresh_legal fun _ => rfl

theorem setStation_station (i : Nat) (x : Option Station) (s : State) (j : Nat) :
    (s.setStation i x).station j = if i = j ∧ j < 16 then x else s.station j := by
  split
  · rename_i h
    obtain ⟨rfl, small⟩ := h
    exact State.station_setStation_same i x s small
  · rename_i h
    by_cases e : i = j
    · subst e
      have big : 16 ≤ i := by omega
      rw [State.station, State.station, entryAt_none_of_le _ _ big, entryAt_none_of_le _ _ big]
    · exact State.station_setStation_other i j x s e

/-- What holds of every loaded station, and of every write where it does, is kept by an act on the stations. -/
theorem StationAct.entries {P : Station → Prop} {s t : State} (h : StationAct s t)
    (write : ∀ i y, StationWrite s i (some y) → (∀ x, s.station i = some x → P x) → P y)
    (second : ∀ x, P x → P x.second) (restart : ∀ x, P x → P (Station.afresh x.cfg x.counts))
    (zeroCounts : ∀ x, P x → P x.zeroCounts) (all : ∀ i x, s.station i = some x → P x) :
    ∀ i x, t.station i = some x → P x := by
  have mapped (f : Station → Station) (keeps : ∀ x, P x → P (f x)) :
      ∀ i x, entryAt (mapEntries f s.stations) i = some x → P x := by
    intro i x found
    rw [entryAt_mapEntries] at found
    obtain ⟨y, loaded, rfl⟩ := Option.map_eq_some_iff.mp found
    exact keeps y (all i y loaded)
  cases h with
  | put i y w =>
    intro j x found
    rw [setStation_station] at found
    split at found
    · subst found
      exact write i x w (all i)
    · exact all j x found
  | second => exact mapped _ second
  | restart => exact mapped _ restart
  | zeroCounts => exact mapped _ zeroCounts

theorem State.eraseAll_station (i : Nat) (s : State) : s.eraseAll.station i = none := entryAt_empty
theorem State.eraseAll_lane (i : Nat) (s : State) : s.eraseAll.lane i = none := entryAt_empty
theorem State.eraseAll_sector (i : Nat) (s : State) : s.eraseAll.sector i = none := entryAt_empty
theorem State.eraseAll_zone (i : Nat) (s : State) : s.eraseAll.zone i = none := entryAt_empty

theorem Station.Legal.second {x : Station} (h : x.Legal) : x.second.Legal := by
  obtain ⟨parked, silence, rest⟩ := h
  refine ⟨parked, Iff.trans ?_ silence, rest⟩
  cases ticking : x.silence <;> simp [Station.second, fall, ticking]

theorem Station.Legal.zeroCounts {x : Station} (h : x.Legal) : x.zeroCounts.Legal := by
  unfold Station.zeroCounts
  split
  · exact h
  · exact ⟨h.1, h.2.1, h.2.2.1, h.2.2.2.1, fun _ => rfl⟩

/-- Every loaded station is legal. -/
def State.AllStations (P : Station → Prop) (s : State) : Prop :=
  ∀ i x, s.station i = some x → P x

theorem stationsLegal_iff {s : State} : StationsLegal s ↔ s.AllStations Station.Legal :=
  ⟨fun h i x found => h i (lt_of_entryAt found) x found, fun h i _ x found => h i x found⟩

theorem Act.allStations {P : Station → Prop} {s t : State} (h : Act s t)
    (write : ∀ i y, StationWrite s i (some y) → (∀ x, s.station i = some x → P x) → P y)
    (second : ∀ x, P x → P x.second) (restart : ∀ x, P x → P (Station.afresh x.cfg x.counts))
    (zeroCounts : ∀ x, P x → P x.zeroCounts) (all : s.AllStations P) : t.AllStations P := by
  rcases h.stations_cases with same | h | ⟨_, rfl⟩
  · intro i x found
    rw [State.station, same] at found
    exact all i x found
  · exact h.entries write second restart zeroCounts all
  · intro i x found
    rw [State.eraseAll_station] at found
    cases found

theorem Act.stationsLegal {s t : State} (h : Act s t) : s.AllStations Station.Legal → t.AllStations Station.Legal :=
  h.allStations (fun _ _ w legal => w.legal legal) (fun _ => Station.Legal.second)
    (fun _ legal => Station.afresh_legal fun parked => legal.2.2.2.2 (legal.1.mp parked)) (fun _ => Station.Legal.zeroCounts)

theorem State.restored_station (m : Image) (v : State) (i : Nat) : (v.restored m).station i =
    (entryAt m.stations i).map (fun c => Station.afresh c StationCounts.zero) :=
  entryAt_mapEntries _ _ _

theorem State.restored_lane (m : Image) (v : State) (i : Nat) :
    (v.restored m).lane i = (entryAt m.lanes i).map Lane.fresh :=
  entryAt_mapEntries _ _ _

theorem State.restored_sector (m : Image) (v : State) (i : Nat) : (v.restored m).sector i =
    (entryAt m.sectors i).map (fun c => Sector.atReset (v.startPorts.restore m) c none) :=
  entryAt_mapEntries _ _ _

theorem State.restored_zone (m : Image) (v : State) (i : Nat) :
    (v.restored m).zone i = (entryAt m.zones i).map Zone.fresh :=
  entryAt_mapEntries _ _ _

theorem State.startEmpty_station (i : Nat) (s : State) : s.startEmpty.station i = none := entryAt_empty
theorem State.startEmpty_lane (i : Nat) (s : State) : s.startEmpty.lane i = none := entryAt_empty
theorem State.startEmpty_sector (i : Nat) (s : State) : s.startEmpty.sector i = none := entryAt_empty
theorem State.startEmpty_zone (i : Nat) (s : State) : s.startEmpty.zone i = none := entryAt_empty

/-- A step keeps what the acts keep, if it holds of the tables a start-up restores from the store and of empty ones. -/
theorem step_keeps_tables {P : State → Prop} (pending : ∀ s l, P s → P { s with pending := l })
    (act : ∀ s t, Act s t → P s → P t)
    (image : ∀ m s v, StartsFrom s v → v.save = none → v.store = .image m → P s → P (v.restored m))
    (empty : ∀ s v, StartsFrom s v → P s → P v.startPorts.startEmpty)
    {s t : State} (h : P s) (step : Machine.step s = .next t) : P t := by
  refine step_keeps pending (fun power s v starts h => ?_) act h step
  rcases State.startTables_acts power v with ⟨m, idle, stored, tables⟩ | tables
  · exact tables.keeps act (image m s v starts idle stored h)
  · exact tables.keeps act (empty s v starts h)

/-- Settles O57: every write of the Station Table leaves a legal entry. -/
theorem everyStepKeepsStationsLegal : Obligations.EveryStepKeepsStationsLegal := by
  intro s t legal step
  rw [stationsLegal_iff] at legal ⊢
  refine step_keeps_tables (P := State.AllStations Station.Legal) (fun _ _ h => h) (fun _ _ => Act.stationsLegal)
    (fun m s v _ _ _ _ i x found => ?_) (fun s v _ _ i x found => ?_) legal step
  · rw [State.restored_station] at found
    obtain ⟨c, _, rfl⟩ := Option.map_eq_some_iff.mp found
    exact Station.afresh_legal fun _ => rfl
  · rw [State.startEmpty_station] at found
    cases found

/-! ## Lanes (R48, R49, R52, R57) -/

/-- Every loaded lane. -/
def State.AllLanes (P : Lane → Prop) (s : State) : Prop :=
  ∀ i l, s.lane i = some l → P l

theorem lanesLegal_iff {s : State} : LanesLegal s ↔ s.AllLanes Lane.Legal :=
  ⟨fun h i l found => h i (lt_of_entryAt found) l found, fun h i _ l found => h i l found⟩

theorem Act.lanesLegal {s t : State} (h : Act s t) (all : s.AllLanes Lane.Legal) : t.AllLanes Lane.Legal := by
  intro i l found
  rcases h.lanes_cases with same | h | ⟨_, rfl⟩
  · rw [State.lane, same] at found
    exact all i l found
  · cases h with
    | settled v each =>
      rcases each i with stands | ⟨k, m, was, is, _, legal⟩
      · exact all i l (stands.symm.trans found)
      · cases is.symm.trans found
        exact legal (all i k was)
    | loaded j c _ _ =>
      rw [setLane_lane] at found
      split at found
      · cases found
        exact Lane.fresh_legal c
      · exact all i l found
    | cleared j _ =>
      rw [setLane_lane] at found
      split at found
      · cases found
      · exact all i l found
  · rw [State.eraseAll_lane] at found
    cases found

/-- Settles O58: every event at the Lane Map settles a legal lane into a legal one, and a lane starts afresh legal. -/
theorem everyStepKeepsLanesLegal : Obligations.EveryStepKeepsLanesLegal := by
  intro s t legal step
  rw [lanesLegal_iff] at legal ⊢
  refine step_keeps_tables (P := State.AllLanes Lane.Legal) (fun _ _ h => h) (fun _ _ => Act.lanesLegal)
    (fun m s v _ _ _ _ i x found => ?_) (fun s v _ _ i x found => ?_) legal step
  · rw [State.restored_lane] at found
    obtain ⟨c, _, rfl⟩ := Option.map_eq_some_iff.mp found
    exact Lane.fresh_legal c
  · rw [State.startEmpty_lane] at found
    cases found

/-! ## Sectors (R80, R81, R86) -/

/-- Every loaded sector. -/
def State.AllSectors (P : Sector → Prop) (s : State) : Prop :=
  ∀ i x, s.sector i = some x → P x

theorem sectorsStaged_iff {s : State} : SectorsStaged s ↔ s.AllSectors Sector.Staged :=
  ⟨fun h i x found => h i (lt_of_entryAt found) x found, fun h i _ x found => h i x found⟩

theorem setSector_sector (i : Nat) (x : Option Sector) (s : State) (j : Nat) :
    (s.setSector i x).sector j = if i = j ∧ j < 8 then x else s.sector j := by
  split
  · rename_i h
    obtain ⟨rfl, small⟩ := h
    exact State.sector_setSector_same i x s small
  · rename_i h
    by_cases e : i = j
    · subst e
      have big : 8 ≤ i := by omega
      rw [State.sector, State.sector, entryAt_none_of_le _ _ big, entryAt_none_of_le _ _ big]
    · exact State.sector_setSector_other i j x s e

theorem OnlyZones.sector {s t : State} (h : OnlyZones s t) (i : Nat) : t.sector i = s.sector i := by
  unfold OnlyZones at h
  rw [h]
  rfl

theorem State.putSector_zones (i : Nat) (x : Option Sector) (s : State) : OnlyZones (s.setSector i x) (s.putSector i x) := by
  unfold State.putSector
  split
  · exact OnlyZones.refl _
  · exact State.sectorChange_layer i _

theorem State.putSector_sector (i : Nat) (x : Option Sector) (s : State) (j : Nat) :
    (s.putSector i x).sector j = if i = j ∧ j < 8 then x else s.sector j := by
  rw [(s.putSector_zones i x).sector, setSector_sector]

/-- RESTART at the sectors before any of them hands its change on. -/
def State.sectorsAfresh (s : State) : State :=
  { s with sectors := mapEntries (fun (y : Sector) => Sector.atReset s y.cfg y.trip) s.sectors }

theorem State.restartSectors_zones (s : State) : OnlyZones s.sectorsAfresh s.restartSectors := by
  unfold State.restartSectors
  refine OnlyZones.pass (fun i t => ?_) _
  split
  · exact OnlyZones.refl t
  · exact t.sectorChange_layer i

theorem State.sectorsAfresh_sector (s : State) (i : Nat) :
    s.sectorsAfresh.sector i = (s.sector i).map (fun y => Sector.atReset s y.cfg y.trip) :=
  entryAt_mapEntries _ _ _

/-- What holds of every loaded sector, and of every write where it does, is kept by the acts. -/
theorem Act.allSectors {P : Sector → Prop} {s t : State} (h : Act s t)
    (write : ∀ i y, SectorWrite s i (some y) → (∀ x, s.sector i = some x → P x) → P y)
    (second : ∀ x, P x → P x.second) (restart : ∀ x, P x → P (Sector.atReset s x.cfg x.trip))
    (all : s.AllSectors P) : t.AllSectors P := by
  intro i x found
  rcases h.sectors_cases with same | h | ⟨_, rfl⟩
  · rw [State.sector, same] at found
    exact all i x found
  · cases h with
    | put j y w =>
      rw [State.putSector_sector] at found
      split at found
      · subst found
        exact write j x w (all j)
      · exact all i x found
    | second =>
      replace found : entryAt (mapEntries Sector.second s.sectors) i = some x := found
      rw [entryAt_mapEntries] at found
      obtain ⟨y, loaded, rfl⟩ := Option.map_eq_some_iff.mp found
      exact second y (all i y loaded)
    | restart =>
      rw [s.restartSectors_zones.sector, State.sectorsAfresh_sector] at found
      obtain ⟨y, loaded, rfl⟩ := Option.map_eq_some_iff.mp found
      exact restart y (all i y loaded)
  · rw [State.eraseAll_sector] at found
    cases found

theorem SectorWrite.staged {s : State} {i : Nat} {y : Sector} (h : SectorWrite s i (some y))
    (staged : ∀ x, s.sector i = some x → x.Staged) : y.Staged := by
  cases h with
  | changed x y found _ keeps _ => exact keeps (staged x found)
  | parked x _ => exact Sector.parkedFrom_staged x.cfg
  | unparked x u _ => exact Sector.afresh_staged rfl
  | loaded c u unparked _ _ _ => exact Sector.afresh_staged unparked

theorem Sector.Staged.second {x : Sector} (h : x.Staged) : x.second.Staged := by
  obtain ⟨stage, causes, parked⟩ := h
  refine ⟨stage, causes, fun p => ?_⟩
  have values := parked p
  unfold Sector.second
  rw [values]
  rfl

theorem Act.sectorsStaged {s t : State} (h : Act s t) : s.AllSectors Sector.Staged → t.AllSectors Sector.Staged :=
  h.allSectors (fun _ _ w staged => w.staged staged) (fun _ => Sector.Staged.second)
    (fun _ _ => Sector.atReset_staged _ _ _)

/-- Settles O54: every write of a sector restages it, or parks it. -/
theorem everyStepKeepsSectorsAtTheirStage : Obligations.EveryStepKeepsSectorsAtTheirStage := by
  intro s t staged step
  rw [sectorsStaged_iff] at staged ⊢
  refine step_keeps_tables (P := State.AllSectors Sector.Staged) (fun _ _ h => h) (fun _ _ => Act.sectorsStaged)
    (fun m s v _ _ _ _ i x found => ?_) (fun s v _ _ i x found => ?_) staged step
  · rw [State.restored_sector] at found
    obtain ⟨c, _, rfl⟩ := Option.map_eq_some_iff.mp found
    exact Sector.atReset_staged _ _ _
  · rw [State.startEmpty_sector] at found
    cases found

/-- The bins of every loaded sector (R91, R92). -/
theorem binsBounded_iff {s : State} : BinsBounded s ↔ s.AllSectors (fun x => Bounded x.bins) :=
  ⟨fun h i x found => h i (lt_of_entryAt found) x found, fun h i _ x found => h i x found⟩

theorem Sector.atReset_bins (s : State) (c : SectorConfig) (t : Option TripRecord) : Bounded (Sector.atReset s c t).bins := by
  unfold Sector.atReset
  split
  · exact fun _ h => nomatch h
  · exact Sector.afresh_le s c t

theorem SectorWrite.bins {s : State} {i : Nat} {y : Sector} (h : SectorWrite s i (some y))
    (bins : ∀ x, s.sector i = some x → Bounded x.bins) : Bounded y.bins := by
  cases h with
  | changed x y found _ _ keeps => exact keeps (bins x found)
  | parked x _ => exact fun _ h => nomatch h
  | unparked x u _ => exact Sector.afresh_le _ _ _
  | loaded c u _ _ _ _ => exact Sector.afresh_le _ _ _

theorem binsBounded_step {s t : State} (bins : BinsBounded s) (step : Machine.step s = .next t) : BinsBounded t := by
  rw [binsBounded_iff] at bins ⊢
  refine step_keeps_tables (P := State.AllSectors fun x => Bounded x.bins) (fun _ _ h => h)
    (fun _ _ h => h.allSectors (fun _ _ w all => w.bins all) (fun _ => id) (fun _ _ => Sector.atReset_bins _ _ _))
    (fun m s v _ _ _ _ i x found => ?_) (fun s v _ _ i x found => ?_) bins step
  · rw [State.restored_sector] at found
    obtain ⟨c, _, rfl⟩ := Option.map_eq_some_iff.mp found
    exact Sector.atReset_bins _ _ _
  · rw [State.startEmpty_sector] at found
    cases found

end Sys2Proof.Machine
end

section
/-! The notice unit, the queues and the counters under the acts, and what becomes of each place of the Zone Table. -/

namespace Sys2Proof.Machine

/-! ## The notice unit under the acts -/

theorem State.alertRaised_notices (z : Nat) (s : State) : (s.alertRaised z).notices = s.notices := by
  unfold State.alertRaised
  split <;> rfl

theorem State.refreshDue_notices (z : Nat) (s : State) : (s.refreshDue z).notices = s.notices := by
  unfold State.refreshDue
  split <;> rfl

theorem State.stageChanged_notices (z : Nat) (was : Stage) (b : Bool) (x : Zone) (s : State) :
    NoticeMove s.notices (s.stageChanged z was b x).notices := by
  unfold State.stageChanged
  dsimp only
  split
  · rw [State.alertRaised_notices]
    exact NoticeMove.raise _ _ _
  · exact NoticeMove.raise _ _ _

theorem State.evaluateZone_notices (z : Nat) (s : State) : NoticeMove s.notices (s.evaluateZone z).notices := by
  unfold State.evaluateZone
  split
  · exact NoticeMove.refl _
  · dsimp only
    split
    · exact State.stageChanged_notices _ _ _ _ _
    · split <;> exact NoticeMove.refl _

theorem State.followZoneWrite_notices (z : Nat) (c : ZoneConfig) (s : State) :
    NoticeMove s.notices (s.followZoneWrite z c).notices := by
  unfold State.followZoneWrite
  split
  · exact NoticeMove.refl _
  · exact foldl_keeps (P := fun t : State => NoticeMove s.notices t.notices)
      (fun t d h => h.trans (NoticeMove.raise d t.console t.notices)) _ _ (NoticeMove.refl _)

theorem ZoneAct.notices {s t : State} (h : ZoneAct s t) : NoticeMove s.notices t.notices := by
  cases h with
  | evaluate z => exact s.evaluateZone_notices z
  | holdEnds z =>
    unfold State.holdEnds
    split
    · exact NoticeMove.refl _
    · exact State.stageChanged_notices _ _ _ _ _
  | force z f =>
    unfold State.setForce
    split
    · exact NoticeMove.refl _
    · exact State.evaluateZone_notices z (s.setZone z _)
  | refresh z _ =>
    unfold State.refreshRunsOut
    split
    · exact NoticeMove.refl _
    · rw [State.refreshDue_notices]
      exact NoticeMove.refl _
  | announce z =>
    unfold State.announce
    split
    · exact NoticeMove.refl _
    · split
      · exact NoticeMove.refl _
      · rw [State.alertRaised_notices]
        exact NoticeMove.refl _
  | written z c _ _ _ _ _ =>
    have followed (x : Option Zone) : NoticeMove s.notices (((s.setZone z x).followZoneWrite z c).evaluateZone z).notices :=
      (State.followZoneWrite_notices z c (s.setZone z x)).trans (State.evaluateZone_notices z _)
    unfold State.writeZone
    dsimp only
    split <;> exact followed _
  | records z f _ => exact NoticeMove.refl _
  | sent z a => exact NoticeMove.refl _
  | acks _ _ _ _ => exact NoticeMove.refl _
  | second => exact NoticeMove.refl _
  | moved f _ => exact NoticeMove.refl _
  | cleared z _ => exact NoticeMove.refl _
  | ordered old => exact NoticeMove.refl _

theorem eachBelow_notices {n : Nat} {f : Nat → State → State} (each : ∀ i t, NoticeMove t.notices (f i t).notices)
    (s : State) : NoticeMove s.notices (eachBelow n f s).notices :=
  eachBelow_keeps (P := fun t : State => NoticeMove s.notices t.notices) (fun i _ t h => h.trans (each i t))
    (NoticeMove.refl _)

theorem State.sectorChange_notices (i : Nat) (s : State) : NoticeMove s.notices (s.sectorChange i).notices := by
  refine eachBelow_notices (fun z t => ?_) s
  split
  · split
    · exact t.evaluateZone_notices z
    · exact NoticeMove.refl _
  · exact NoticeMove.refl _

theorem SectorAct.notices {s t : State} (h : SectorAct s t) : NoticeMove s.notices t.notices := by
  cases h with
  | put i x _ =>
    unfold State.putSector
    split
    · exact NoticeMove.refl _
    · exact State.sectorChange_notices i (s.setSector i x)
  | second => exact NoticeMove.refl _
  | restart =>
    refine eachBelow_notices (fun i t => ?_) s.sectorsAfresh
    split
    · exact NoticeMove.refl _
    · exact t.sectorChange_notices i

theorem Act.notices {s t : State} (h : Act s t) : NoticeMove s.notices t.notices := by
  cases h with
  | port h => rw [h.only]; exact NoticeMove.refl _
  | notice h => cases h with | mk u move => exact move
  | zone h => exact h.notices
  | sector h => exact h.notices
  | lane h => cases h <;> exact NoticeMove.refl _
  | station h => rw [h.only]; exact NoticeMove.refl _
  | output h => rw [h.only]; exact NoticeMove.refl _
  | control h => rw [h.only]; exact NoticeMove.refl _

theorem noticesLegal_iff {s : State} : NoticesLegal s ↔ s.notices.Legal := Iff.rfl

theorem NoticeUnit.fresh_get (e : Enables) (p : Nat) (c : NoticeClass) :
    (NoticeUnit.fresh e p).get c = ClassState.clear (e.get c) := by
  cases c <;> rfl

theorem NoticeUnit.fresh_legal (e : Enables) (p : Nat) : (NoticeUnit.fresh e p).Legal := by
  refine ⟨fun c _ => ?_, List.nodup_nil, fun c _ it none => nomatch none⟩
  rw [NoticeUnit.fresh_get]
  exact ⟨fun _ => rfl, fun d none => nomatch none⟩

/-- Settles O60: every change of the notice unit is a move that keeps it legal. -/
theorem everyStepKeepsNoticesLegal : Obligations.EveryStepKeepsNoticesLegal := by
  intro s t legal step
  exact step_keeps_tables (P := fun u => u.notices.Legal) (fun _ _ h => h) (fun _ _ h => h.notices.legal)
    (fun m _ v _ _ _ _ => NoticeUnit.fresh_legal m.enables m.period)
    (fun _ v _ _ => NoticeUnit.fresh_legal Enables.on 0) legal step

/-! ## The Zone Table under the acts -/

theorem setZone_zone (z : Nat) (x : Option Zone) (s : State) (j : Nat) :
    (s.setZone z x).zone j = if z = j ∧ j < 12 then x else s.zone j := by
  split
  · rename_i h
    obtain ⟨rfl, small⟩ := h
    exact State.zone_setZone_same z x s small
  · rename_i h
    by_cases e : z = j
    · subst e
      have big : 12 ≤ z := by omega
      rw [State.zone, State.zone, entryAt_none_of_le _ _ big, entryAt_none_of_le _ _ big]
    · exact State.zone_setZone_other z j x s e

theorem State.alertRaised_zone (z : Nat) (s : State) (j : Nat) : (s.alertRaised z).zone j = s.zone j := by
  unfold State.alertRaised
  split <;> rfl

theorem State.refreshDue_zone (z : Nat) (s : State) (j : Nat) : (s.refreshDue z).zone j = s.zone j := by
  unfold State.refreshDue
  split <;> rfl

theorem State.stageChanged_zone (z : Nat) (was : Stage) (b : Bool) (x : Zone) (s : State) (j : Nat) :
    (s.stageChanged z was b x).zone j =
      (s.setZone z (some (x.numberChange (decide (s.mode = .watching))))).zone j := by
  unfold State.stageChanged
  dsimp only
  split
  · rw [State.alertRaised_zone]; rfl
  · rfl

/-- A zone as its evaluation leaves it (R110). -/
def Zone.evaluated (cs : List (Nat × Sector)) (watching : Bool) (x : Zone) : Zone :=
  let y := x.look cs
  if y.stage.num < y.target.num then (({ y with stage := y.target, hold := none } : Zone).recause cs).numberChange watching
  else if y.target.num = y.stage.num then ({ y with hold := none } : Zone).recause cs
  else ({ y with hold := some (y.hold.getD y.cfg.holdDown) } : Zone).recause cs

theorem State.evaluateZone_zone {z : Nat} {x : Zone} {s : State} (found : s.zone z = some x) (j : Nat) :
    (s.evaluateZone z).zone j =
      (s.setZone z (some (x.evaluated (contributing s x.cfg.sectors) (decide (s.mode = .watching))))).zone j := by
  unfold State.evaluateZone
  rw [found]
  dsimp only
  unfold Zone.evaluated
  dsimp only
  split
  · rw [State.stageChanged_zone]
  · split <;> rfl

theorem State.evaluateZone_vacant {z : Nat} {s : State} (vacant : s.zone z = none) : s.evaluateZone z = s := by
  unfold State.evaluateZone
  rw [vacant]

/-- A zone that has gone on under its configuration: what an act may make of it. -/
structure ZoneFollows (x y : Zone) : Prop where
  cfg : y.cfg = x.cfg
  undispatched : x.undispatched ≤ 65535 → y.undispatched ≤ 65535
  refresh : y.refreshCd ≠ none → x.refreshCd ≠ none ∨ 1 ≤ x.cfg.refresh

theorem ZoneFollows.refl (x : Zone) : ZoneFollows x x := ⟨rfl, id, .inl⟩

theorem ZoneFollows.trans {x y w : Zone} (h : ZoneFollows x y) (k : ZoneFollows y w) : ZoneFollows x w where
  cfg := k.cfg.trans h.cfg
  undispatched := k.undispatched ∘ h.undispatched
  refresh runs := (k.refresh runs).elim h.refresh fun pos => .inr (h.cfg ▸ pos)

theorem Zone.loadRefresh_pos {x : Zone} (h : x.loadRefresh ≠ none) : 1 ≤ x.cfg.refresh := by
  unfold Zone.loadRefresh at h
  split at h
  · exact absurd rfl h
  · omega

theorem Zone.numberChange_follows (w : Bool) (x : Zone) : ZoneFollows x (x.numberChange w) := by
  unfold Zone.numberChange
  split
  · exact ⟨rfl, id, fun runs => .inr (Zone.loadRefresh_pos (x := x) runs)⟩
  · exact ⟨rfl, fun _ => satInc_le x.undispatched, .inl⟩

theorem Zone.evaluated_follows (cs : List (Nat × Sector)) (w : Bool) (x : Zone) : ZoneFollows x (x.evaluated cs w) := by
  unfold Zone.evaluated
  dsimp only
  split
  · exact ZoneFollows.trans (y := (({ x.look cs with stage := (x.look cs).target, hold := none } : Zone).recause cs))
      ⟨rfl, id, .inl⟩ (Zone.numberChange_follows w _)
  · split <;> exact ⟨rfl, id, .inl⟩

/-- A place of the Zone Table goes on: VACANT, or with its configuration. -/
def PlaceFollows (a b : Option Zone) : Prop :=
  Option.Rel ZoneFollows a b

theorem PlaceFollows.refl (a : Option Zone) : PlaceFollows a a := by
  cases a with
  | none => exact .none
  | some x => exact .some (ZoneFollows.refl x)

theorem PlaceFollows.trans {a b c : Option Zone} (h : PlaceFollows a b) (k : PlaceFollows b c) : PlaceFollows a c := by
  cases h with
  | none => exact k
  | some h => cases k with | some k => exact .some (h.trans k)

/-- Every place of the Zone Table goes on. -/
def ZonesFollow (s t : State) : Prop :=
  ∀ z, PlaceFollows (s.zone z) (t.zone z)

theorem ZonesFollow.refl (s : State) : ZonesFollow s s := fun _ => PlaceFollows.refl _

theorem ZonesFollow.trans {s t u : State} (h : ZonesFollow s t) (k : ZonesFollow t u) : ZonesFollow s u :=
  fun z => (h z).trans (k z)

theorem ZonesFollow.setZone {z : Nat} {x y : Zone} {s : State} (found : s.zone z = some x) (h : ZoneFollows x y) :
    ZonesFollow s (s.setZone z (some y)) := by
  intro j
  rw [setZone_zone]
  split
  · rename_i here
    rw [← here.1, found]
    exact .some h
  · exact PlaceFollows.refl _

theorem ZonesFollow.of_zone {s t u : State} (same : ∀ j, u.zone j = t.zone j) (h : ZonesFollow s t) : ZonesFollow s u :=
  fun j => same j ▸ h j

theorem State.evaluateZone_follows (z : Nat) (s : State) : ZonesFollow s (s.evaluateZone z) := by
  cases found : s.zone z with
  | none => rw [State.evaluateZone_vacant found]; exact ZonesFollow.refl s
  | some x =>
    exact ZonesFollow.of_zone (State.evaluateZone_zone found) (ZonesFollow.setZone found (Zone.evaluated_follows _ _ x))

theorem eachBelow_zones {n : Nat} {f : Nat → State → State} (each : ∀ i t, ZonesFollow t (f i t)) (s : State) :
    ZonesFollow s (eachBelow n f s) :=
  eachBelow_keeps (P := fun t : State => ZonesFollow s t) (fun i _ t h => h.trans (each i t)) (ZonesFollow.refl s)

theorem State.sectorChange_follows (i : Nat) (s : State) : ZonesFollow s (s.sectorChange i) := by
  refine eachBelow_zones (fun z t => ?_) s
  split
  · split
    · exact t.evaluateZone_follows z
    · exact ZonesFollow.refl t
  · exact ZonesFollow.refl t

theorem SectorAct.zones {s t : State} (h : SectorAct s t) : ZonesFollow s t := by
  cases h with
  | put i x _ =>
    unfold State.putSector
    split
    · exact ZonesFollow.refl s
    · exact State.sectorChange_follows i (s.setSector i x)
  | second => exact ZonesFollow.refl s
  | restart =>
    refine eachBelow_zones (fun i t => ?_) s.sectorsAfresh
    split
    · exact ZonesFollow.refl _
    · exact t.sectorChange_follows i

theorem State.setForce_follows (z : Nat) (f : Option Force) (s : State) : ZonesFollow s (s.setForce z f) := by
  unfold State.setForce
  split
  · exact ZonesFollow.refl s
  · rename_i x found
    exact (ZonesFollow.setZone (y := { x with force := f }) found ⟨rfl, id, .inl⟩).trans (State.evaluateZone_follows z _)

/-- A zone at the end of its hold, before its change of stage is numbered (R112). -/
def Zone.released (cs : List (Nat × Sector)) (x : Zone) : Zone :=
  let y := ({ x with hold := none } : Zone).look cs
  ({ y with stage := y.target } : Zone).recause cs

theorem State.holdEnds_follows (z : Nat) (s : State) : ZonesFollow s (s.holdEnds z) := by
  unfold State.holdEnds
  split
  · exact ZonesFollow.refl s
  · rename_i x found
    refine ZonesFollow.of_zone (State.stageChanged_zone _ _ _ _ s) (ZonesFollow.setZone found ?_)
    exact ZoneFollows.trans (y := x.released (contributing s x.cfg.sectors)) ⟨rfl, id, .inl⟩
      (Zone.numberChange_follows _ _)

theorem State.refreshRunsOut_follows {z : Nat} {s : State} (running : ∀ x ∈ s.zone z, x.refreshCd ≠ none) :
    ZonesFollow s (s.refreshRunsOut z) := by
  unfold State.refreshRunsOut
  split
  · exact ZonesFollow.refl s
  · rename_i x found
    exact ZonesFollow.of_zone (State.refreshDue_zone z _) (ZonesFollow.setZone found ⟨rfl, id, fun _ => .inl (running x found)⟩)

theorem State.announce_follows (z : Nat) (s : State) : ZonesFollow s (s.announce z) := by
  unfold State.announce
  split
  · exact ZonesFollow.refl s
  · rename_i x found
    split
    · exact ZonesFollow.refl s
    · exact ZonesFollow.of_zone (State.alertRaised_zone z _)
        (ZonesFollow.setZone found ⟨rfl, id, fun runs => .inr (Zone.loadRefresh_pos (x := x) runs)⟩)

theorem State.mapZones_follows {f : Zone → Zone} (move : ∀ x, ZoneMove x (f x)) (s : State) :
    ZonesFollow s { s with zones := mapEntries f s.zones } := by
  intro z
  show PlaceFollows (s.zone z) (entryAt (mapEntries f s.zones) z)
  rw [entryAt_mapEntries]
  show PlaceFollows (s.zone z) ((s.zone z).map f)
  cases s.zone z with
  | none => exact .none
  | some x => exact .some ⟨(move x).cfg, fun h => (move x).undispatched.trans h, fun runs => .inl ((move x).refresh runs)⟩

theorem OnlyNotices.zone {s t : State} (h : OnlyNotices s t) (z : Nat) : t.zone z = s.zone z := by
  unfold OnlyNotices at h
  rw [h]
  rfl

theorem State.followZoneWrite_zone (z : Nat) (c : ZoneConfig) (s : State) (j : Nat) :
    (s.followZoneWrite z c).zone j = s.zone j := by
  unfold State.followZoneWrite
  split
  · rfl
  · exact foldl_keeps (P := fun t : State => t.zone j = s.zone j) (f := fun t d => t.raise d) (fun t d h => h) _ _ rfl

/-- The zone that LOAD ZONE writes, before its evaluation (R118). -/
def Zone.loaded (c : ZoneConfig) (x : Option Zone) : Zone :=
  match x with
  | none => Zone.fresh c
  | some x => { x with cfg := c }

/-- LOAD ZONE on the Zone Table: one place is written, the others stand (R118). -/
theorem State.writeZone_zone {z : Nat} (place : z < 12) (c : ZoneConfig) (s : State) (j : Nat) :
    (s.writeZone z c).zone j =
      let x := Zone.loaded c (s.zone z)
      let t := (s.setZone z (some x)).followZoneWrite z c
      let y := x.evaluated (contributing t c.sectors) (decide (t.mode = .watching))
      if z = j then some { y with refreshCd := if (t.evaluateZone z).mode = .watching then y.loadRefresh else none }
      else s.zone j := by
  have cfg : (Zone.loaded c (s.zone z)).cfg = c := by
    unfold Zone.loaded
    split <;> rfl
  dsimp only
  generalize loaded : Zone.loaded c (s.zone z) = x at cfg ⊢
  have written : s.writeZone z c = let t := ((s.setZone z (some x)).followZoneWrite z c).evaluateZone z
      match t.zone z with
      | none => t
      | some y => t.setZone z (some { y with refreshCd := if t.mode = .watching then y.loadRefresh else none }) := by
    rw [← loaded]
    rfl
  rw [written]
  dsimp only
  generalize followed : (s.setZone z (some x)).followZoneWrite z c = t
  have zones (j : Nat) : t.zone j = (s.setZone z (some x)).zone j := by
    rw [← followed, State.followZoneWrite_zone]
  have here : t.zone z = some x := by rw [zones, setZone_zone, if_pos ⟨rfl, place⟩]
  have evaluated (j : Nat) := State.evaluateZone_zone here j
  rw [cfg] at evaluated
  have found : (t.evaluateZone z).zone z = some (x.evaluated (contributing t c.sectors) (decide (t.mode = .watching))) := by
    rw [evaluated, setZone_zone, if_pos ⟨rfl, place⟩]
  rw [found]
  dsimp only
  rw [setZone_zone]
  by_cases same : z = j
  · subst same
    rw [if_pos ⟨rfl, place⟩, if_pos rfl]
  · rw [if_neg (fun h => same h.1), if_neg same, evaluated, setZone_zone, if_neg (fun h => same h.1), zones, setZone_zone,
      if_neg (fun h => same h.1)]

/-- What an act on zones makes of the Zone Table. -/
inductive ZoneTable (s t : State) : Prop
  | follows (h : ZonesFollow s t)
  | written (z : Nat) (c : ZoneConfig) (act : t = s.writeZone z c) (place : z < 12) (mode : s.mode ≠ .blank)
      (sirens : c.sirens ≠ [] ∧ c.sirens.Nodup) (periods : 1 ≤ c.holdDown ∧ 1 ≤ c.repeatInterval)
      (consistent : s.mode = .watching → (s.setZone z (some (Zone.fresh c))).firstFailure = none)
  | cleared (z : Nat) (act : t = s.clearZoneEntry z)
      (consistent : s.mode = .watching → (s.setZone z none).firstFailure = none)

theorem ZoneAct.table {s t : State} (h : ZoneAct s t) : ZoneTable s t := by
  cases h with
  | evaluate z => exact .follows (s.evaluateZone_follows z)
  | holdEnds z => exact .follows (s.holdEnds_follows z)
  | force z f => exact .follows (s.setForce_follows z f)
  | refresh z running => exact .follows (State.refreshRunsOut_follows running)
  | announce z => exact .follows (s.announce_follows z)
  | moved f move => exact .follows (State.mapZones_follows move s)
  | written z c place mode sirens periods consistent => exact .written z c rfl place mode sirens periods consistent
  | cleared z consistent => exact .cleared z rfl consistent
  | records z f _ => exact .follows (ZonesFollow.refl s)
  | sent z a => exact .follows (ZonesFollow.refl s)
  | acks _ _ _ _ => exact .follows (ZonesFollow.refl s)
  | second => exact .follows (ZonesFollow.refl s)
  | ordered old => exact .follows (ZonesFollow.refl s)

/-- What an act makes of the Zone Table. -/
theorem Act.zones_cases {s t : State} (h : Act s t) : ZoneTable s t ∨ (s.mode ≠ .watching ∧ t = s.eraseAll) := by
  have same {u : State} (eq : u.zones = s.zones) : ZoneTable s u :=
    .follows fun z => by rw [State.zone, State.zone, eq]; exact PlaceFollows.refl _
  cases h with
  | port h => exact .inl (same (by rw [h.only]))
  | notice h => exact .inl (same (by rw [h.only]))
  | zone h => exact .inl h.table
  | sector h => exact .inl (.follows h.zones)
  | lane h => exact .inl (same (by cases h <;> rfl))
  | station h => exact .inl (same (by rw [h.only]))
  | output h => exact .inl (same (by rw [h.only]))
  | control h => exact h.tables.imp (fun h => same h.2.2.2.1) id

theorem PlaceFollows.of_some {a : Option Zone} {y : Zone} (h : PlaceFollows a (some y)) :
    ∃ x, a = some x ∧ ZoneFollows x y := by
  cases h with
  | some h => exact ⟨_, rfl, h⟩

theorem PlaceFollows.of_none {a : Option Zone} (h : PlaceFollows none a) : a = none := by
  cases h
  rfl

theorem PlaceFollows.cfg {a b : Option Zone} (h : PlaceFollows a b) : b.map Zone.cfg = a.map Zone.cfg := by
  cases h with
  | none => rfl
  | some h => exact congrArg some h.cfg

end Sys2Proof.Machine
end

section
/-! The queues and the counters under the acts (O51). -/

namespace Sys2Proof.Machine

/-! ## Queues (R14, R15, R140, R187) -/

theorem PortAct.queuesBounded {s t : State} (h : PortAct s t) (bounded : QueuesBounded s) : QueuesBounded t := by
  obtain ⟨held, a, b, forward, out⟩ := bounded
  cases h with
  | port p g _ => cases p <;> exact ⟨held, a, b, forward, out⟩
  | crest d g _ places =>
    cases d with
    | a => exact ⟨held, places _ a, b, forward, out⟩
    | b => exact ⟨held, a, places _ b, forward, out⟩
  | valley v _ places => exact ⟨held, a, b, places forward, out⟩
  | reply dst code tag o data e place =>
    refine ⟨?_, a, b, forward, out⟩
    have one : (s.reply dst code tag o data e).heldPlaces = s.heldPlaces + 1 := by
      simp only [State.heldPlaces, State.reply, List.length_append, List.length_singleton]
      exact Nat.add_right_comm _ _ _
    omega
  | replyTaken r rest head =>
    refine ⟨?_, a, b, forward, out⟩
    simp only [State.heldPlaces, head, List.length_cons] at held ⊢
    omega
  | lost n _ => exact ⟨held, a, b, forward, out⟩

theorem State.completeSave_heldPlaces (s : State) : s.completeSave.heldPlaces = s.heldPlaces := by
  unfold State.completeSave
  split
  · rfl
  · rename_i j saving
    simp [State.heldPlaces, State.reply, saving]

theorem ControlAct.queuesBounded {s t : State} (h : ControlAct s t) (bounded : QueuesBounded s) : QueuesBounded t := by
  have only := h.only
  obtain ⟨held, a, b, forward, out⟩ := bounded
  have kept (places : t.heldPlaces ≤ 4) : QueuesBounded t := by
    refine ⟨places, ?_⟩
    rw [only]
    exact ⟨a, b, forward, out⟩
  refine kept ?_
  cases h with
  | leaveBlank => unfold State.leaveBlank; split <;> exact held
  | completeSave => rw [State.completeSave_heldPlaces]; exact held
  | startSave src tag place idle =>
    simp only [State.heldPlaces, State.startSave, idle] at place ⊢
    simpa using place
  | time b _ => exact held
  | console l _ => exact held
  | cause c => exact held
  | watch _ => exact held
  | commission => exact held
  | erase _ => exact held

theorem Act.queuesBounded {s t : State} (h : Act s t) (bounded : QueuesBounded s) : QueuesBounded t := by
  rcases h.cases_layer with port | output | control | tables
  · exact port.queuesBounded bounded
  · rw [output.only]; exact bounded
  · exact control.queuesBounded bounded
  · obtain ⟨held, a, b, forward, out⟩ := bounded
    have places := h.notices.places out
    rw [tables] at places ⊢
    exact ⟨held, a, b, forward, places⟩

/-! ## Counters (R18, R45, R117, R132, R140, R185, R193) -/

/-- No count of the three ports and no count of lost commands passes 65535. -/
def State.PortsCounted (s : State) : Prop :=
  Bounded s.crestA.counts ∧ Bounded s.crestB.counts ∧ Bounded s.valley.counts ∧ s.lost ≤ 65535

theorem portsCounted_iff {s : State} : s.PortsCounted ↔
    (∀ p ∈ [PortId.crestA, PortId.crestB, PortId.valley], ∀ n ∈ portCounts p s, n ≤ 65535) ∧ s.lost ≤ 65535 := by
  simp [State.PortsCounted, Bounded, portCounts, and_assoc]

theorem CrestPort.counts_port {g : Port → Port} (counts : ∀ q, Bounded q.counts → Bounded (g q).counts) {c : CrestPort}
    (h : Bounded c.counts) : Bounded ({ c with port := g c.port } : CrestPort).counts := by
  obtain ⟨port, own⟩ := List.forall_mem_append.mp h
  exact List.forall_mem_append.mpr ⟨counts _ port, own⟩

theorem ValleyPort.counts_port {g : Port → Port} (counts : ∀ q, Bounded q.counts → Bounded (g q).counts) {v : ValleyPort}
    (h : Bounded v.counts) : Bounded ({ v with port := g v.port } : ValleyPort).counts := by
  obtain ⟨port, own⟩ := List.forall_mem_append.mp h
  exact List.forall_mem_append.mpr ⟨counts _ port, own⟩

theorem PortAct.portsCounted {s t : State} (h : PortAct s t) (counted : s.PortsCounted) : t.PortsCounted := by
  obtain ⟨a, b, valley, lost⟩ := counted
  cases h with
  | port p g counts =>
    cases p with
    | crestA => exact ⟨CrestPort.counts_port counts a, b, valley, lost⟩
    | crestB => exact ⟨a, CrestPort.counts_port counts b, valley, lost⟩
    | valley => exact ⟨a, b, ValleyPort.counts_port counts valley, lost⟩
  | crest d g counts _ =>
    cases d with
    | a => exact ⟨counts _ a, b, valley, lost⟩
    | b => exact ⟨a, counts _ b, valley, lost⟩
  | valley v counts _ => exact ⟨a, b, counts valley, lost⟩
  | reply dst code tag o data e _ => exact ⟨a, b, valley, lost⟩
  | replyTaken r rest _ => exact ⟨a, b, valley, lost⟩
  | lost n counts => exact ⟨a, b, valley, counts lost⟩

theorem Act.portsCounted {s t : State} (h : Act s t) (counted : s.PortsCounted) : t.PortsCounted := by
  rcases h.cases_layer with port | output | control | tables
  · exact port.portsCounted counted
  · rw [output.only]; exact counted
  · rw [control.only]; exact counted
  · rw [tables]; exact counted

theorem StationCounts.zero_bounded : Bounded StationCounts.zero.list := by
  unfold Bounded
  decide

theorem StationWrite.bounded {s : State} {i : Nat} {y : Station} (h : StationWrite s i (some y))
    (counts : ∀ x, s.station i = some x → Bounded x.counts.list) : Bounded y.counts.list := by
  cases h with
  | counted x c found _ keeps => exact keeps (counts x found)
  | forwarded x n found => exact counts x found
  | accepted x seq missed now got found _ =>
    have old := counts x found
    simp only [Bounded, StationCounts.list, List.forall_mem_cons, List.not_mem_nil, false_imp_iff, implies_true,
      and_true] at old ⊢
    obtain ⟨accepted, duplicate, stale, miss, wrongPort, wrongKind, malformed⟩ := old
    refine ⟨satInc_le _, duplicate, stale, satAdd_le _ _, wrongPort, wrongKind, ?_⟩
    show (if got.isSome then _ else _) ≤ 65535
    split
    · exact malformed
    · exact satInc_le _
  | silent x found _ => exact counts x found
  | reparked x b found => exact StationCounts.zero_bounded
  | loaded c _ _ _ => exact StationCounts.zero_bounded

theorem Station.zeroCounts_counted {x : Station} (h : Bounded x.counts.list) : Bounded x.zeroCounts.counts.list := by
  unfold Station.zeroCounts
  split
  · exact h
  · exact StationCounts.zero_bounded

theorem Act.stationsCounted {s t : State} (h : Act s t) :
    s.AllStations (fun x => Bounded x.counts.list) → t.AllStations (fun x => Bounded x.counts.list) :=
  h.allStations (fun _ _ w all => w.bounded all) (fun _ => id) (fun _ => id) (fun _ => Station.zeroCounts_counted)

/-- Every loaded zone. -/
def State.AllZones (P : Zone → Prop) (s : State) : Prop :=
  ∀ z x, s.zone z = some x → P x

theorem ZonesFollow.undispatched {s t : State} (h : ZonesFollow s t)
    (all : s.AllZones fun x => x.undispatched ≤ 65535) : t.AllZones fun x => x.undispatched ≤ 65535 := by
  intro z y found
  obtain ⟨x, was, follows⟩ := PlaceFollows.of_some (found ▸ h z)
  exact follows.undispatched (all z x was)

theorem Zone.loaded_undispatched (c : ZoneConfig) {x : Option Zone} (h : ∀ y ∈ x, y.undispatched ≤ 65535) :
    (Zone.loaded c x).undispatched ≤ 65535 := by
  cases x with
  | none => exact Nat.zero_le _
  | some y => exact h y rfl

theorem State.clearZoneEntry_zone (z : Nat) (s : State) (j : Nat) :
    (s.clearZoneEntry z).zone j = if z = j ∧ j < 12 then none else s.zone j :=
  setZone_zone z none s j

theorem Act.undispatched {s t : State} (h : Act s t) (all : s.AllZones fun x => x.undispatched ≤ 65535) :
    t.AllZones fun x => x.undispatched ≤ 65535 := by
  rcases h.zones_cases with table | ⟨_, rfl⟩
  · cases table with
    | follows h => exact h.undispatched all
    | written z c act place _ _ _ _ =>
      intro j y found
      rw [act, State.writeZone_zone place] at found
      dsimp only at found
      split at found
      · cases found
        exact (Zone.evaluated_follows _ _ _).undispatched (Zone.loaded_undispatched c fun x loaded => all z x loaded)
      · exact all j y found
    | cleared z act _ =>
      intro j y found
      rw [act, State.clearZoneEntry_zone] at found
      split at found
      · cases found
      · exact all j y found
  · intro z x found
    rw [State.eraseAll_zone] at found
    cases found

/-! ## The steps of which the operations of the zones are made -/

/-- A zone goes on with its force, and no countdown of it comes to 0 but one that is loaded with 0. -/
structure Zone.Calm (x y : Zone) : Prop where
  force : y.force = x.force
  hold : y.hold = some 0 → x.hold = some 0 ∨ x.cfg.holdDown = 0
  refresh : y.refreshCd = some 0 → x.refreshCd = some 0 ∨ x.cfg.refresh = 0

theorem Zone.Calm.trans {x y w : Zone} (cfg : y.cfg = x.cfg) (h : Zone.Calm x y) (k : Zone.Calm y w) : Zone.Calm x w where
  force := k.force.trans h.force
  hold out := (k.hold out).elim h.hold fun zero => .inr (cfg ▸ zero)
  refresh out := (k.refresh out).elim h.refresh fun zero => .inr (cfg ▸ zero)

theorem Zone.loadRefresh_ne_zero (x : Zone) : x.loadRefresh ≠ some 0 := by
  unfold Zone.loadRefresh
  split
  · exact nofun
  · rename_i loads
    exact fun zero => loads (.inr (Option.some.inj zero))

theorem Zone.numberChange_calm (w : Bool) (x : Zone) : Zone.Calm x (x.numberChange w) := by
  unfold Zone.numberChange
  split
  · exact ⟨rfl, .inl, fun out => absurd out x.loadRefresh_ne_zero⟩
  · exact ⟨rfl, .inl, .inl⟩

/-- One write of a zone that goes on, one raising, or one content set in the Dispatch Queue. -/
inductive ZoneStep (s : State) : State → Prop
  | put (z : Nat) (x y : Zone) (found : s.zone z = some x) (follows : ZoneFollows x y) (calm : Zone.Calm x y) :
      ZoneStep s (s.setZone z (some y))
  | raise (d : Detail) : ZoneStep s (s.raise d)
  | alert (z : Nat) : ZoneStep s (s.alertRaised z)
  | refresh (z : Nat) : ZoneStep s (s.refreshDue z)

/-- A run of such steps. -/
def ZoneSteps : State → State → Prop :=
  Relation.ReflTransGen ZoneStep

theorem ZoneSteps.refl (s : State) : ZoneSteps s s := Relation.ReflTransGen.refl

theorem ZoneSteps.trans {s t u : State} (h : ZoneSteps s t) (k : ZoneSteps t u) : ZoneSteps s u :=
  Relation.ReflTransGen.trans h k

theorem ZoneStep.run {s t : State} (h : ZoneStep s t) : ZoneSteps s t := Relation.ReflTransGen.single h

theorem ZoneSteps.put {z : Nat} {x y : Zone} {s : State} (found : s.zone z = some x) (follows : ZoneFollows x y)
    (calm : Zone.Calm x y) : ZoneSteps s (s.setZone z (some y)) :=
  (ZoneStep.put z x y found follows calm).run

theorem ZoneSteps.keeps {s t : State} {P : State → Prop} (steps : ZoneSteps s t)
    (one : ∀ u v, ZoneStep u v → P u → P v) (start : P s) : P t := by
  induction steps with
  | refl => exact start
  | tail _ step ih => exact one _ _ step ih

theorem ZoneSteps.pass {n : Nat} {f : Nat → State → State} (each : ∀ i t, ZoneSteps t (f i t)) (s : State) :
    ZoneSteps s (eachBelow n f s) :=
  eachBelow_keeps (P := fun t => ZoneSteps s t) (fun i _ t h => h.trans (each i t)) (ZoneSteps.refl s)

/-- A change of stage, once the zone is numbered and written. -/
theorem State.stageChanged_after (z : Nat) (old : Stage) (b : Bool) (y : Zone) (s : State) :
    ZoneSteps (s.setZone z (some (y.numberChange (decide (s.mode = .watching))))) (s.stageChanged z old b y) := by
  unfold State.stageChanged
  dsimp only
  split
  · exact (ZoneStep.raise _).run.trans (ZoneStep.alert z).run
  · exact (ZoneStep.raise _).run

theorem State.stageChanged_steps {z : Nat} {x y : Zone} {s : State} (found : s.zone z = some x) (follows : ZoneFollows x y)
    (calm : Zone.Calm x y) (old : Stage) (b : Bool) : ZoneSteps s (s.stageChanged z old b y) :=
  (ZoneSteps.put found (follows.trans (Zone.numberChange_follows _ y))
    (calm.trans follows.cfg (Zone.numberChange_calm _ y))).trans (s.stageChanged_after z old b y)

theorem State.evaluateZone_steps (z : Nat) (s : State) : ZoneSteps s (s.evaluateZone z) := by
  unfold State.evaluateZone
  split
  · exact ZoneSteps.refl s
  · rename_i x found
    dsimp only
    split
    · refine State.stageChanged_steps found ?_ ?_ _ _
      · exact ⟨rfl, id, .inl⟩
      · exact ⟨rfl, fun out => (nomatch out), .inl⟩
    · split
      · refine ZoneSteps.put found ?_ ?_
        · exact ⟨rfl, id, .inl⟩
        · exact ⟨rfl, fun out => (nomatch out), .inl⟩
      · refine ZoneSteps.put found ?_ ?_
        · exact ⟨rfl, id, .inl⟩
        · refine ⟨rfl, fun out => ?_, .inl⟩
          have loaded : x.hold.getD x.cfg.holdDown = 0 := Option.some.inj out
          cases running : x.hold with
          | none => rw [running] at loaded; exact .inr loaded
          | some n => rw [running] at loaded; exact .inl (congrArg some loaded)

theorem State.holdEnds_steps (z : Nat) (s : State) : ZoneSteps s (s.holdEnds z) := by
  unfold State.holdEnds
  split
  · exact ZoneSteps.refl s
  · rename_i x found
    refine State.stageChanged_steps found ?_ ?_ _ _
    · exact ⟨rfl, id, .inl⟩
    · exact ⟨rfl, fun out => (nomatch out), .inl⟩

/-- A force set or ended, once it is written. -/
theorem State.setForce_steps {z : Nat} {x : Zone} {s : State} (found : s.zone z = some x) (f : Option Force) :
    ZoneSteps (s.setZone z (some { x with force := f })) (s.setForce z f) := by
  unfold State.setForce
  rw [found]
  exact State.evaluateZone_steps z _

theorem State.refreshRunsOut_steps {z : Nat} {s : State} (running : ∀ x ∈ s.zone z, x.refreshCd ≠ none) :
    ZoneSteps s (s.refreshRunsOut z) := by
  unfold State.refreshRunsOut
  split
  · exact ZoneSteps.refl s
  · rename_i x found
    refine (ZoneSteps.put found ?_ ?_).trans (ZoneStep.refresh z).run
    · exact ⟨rfl, id, fun _ => .inl (running x found)⟩
    · exact ⟨rfl, .inl, fun out => .inr (Option.some.inj out)⟩

theorem State.announce_steps (z : Nat) (s : State) : ZoneSteps s (s.announce z) := by
  unfold State.announce
  split
  · exact ZoneSteps.refl s
  · rename_i x found
    split
    · exact ZoneSteps.refl s
    · exact (ZoneStep.put z x { x with serial := x.serial + 1, refreshCd := x.loadRefresh } found
        ⟨rfl, id, fun runs => .inr (Zone.loadRefresh_pos (x := x) runs)⟩
        ⟨rfl, .inl, fun out => absurd out x.loadRefresh_ne_zero⟩).run.trans (ZoneStep.alert z).run

theorem State.sectorChange_steps (i : Nat) (s : State) : ZoneSteps s (s.sectorChange i) := by
  refine ZoneSteps.pass (fun z t => ?_) s
  split
  · split
    · exact t.evaluateZone_steps z
    · exact ZoneSteps.refl t
  · exact ZoneSteps.refl t

/-- An act on the sectors writes sectors and then goes on at the zones. -/
theorem SectorAct.steps {s t : State} (h : SectorAct s t) : ∃ v, ZoneSteps { s with sectors := v } t := by
  cases h with
  | put i x _ =>
    unfold State.putSector
    split
    · exact ⟨_, ZoneSteps.refl _⟩
    · exact ⟨_, State.sectorChange_steps i (s.setSector i x)⟩
  | second => exact ⟨_, ZoneSteps.refl _⟩
  | restart =>
    refine ⟨_, ZoneSteps.pass (fun i t => ?_) s.sectorsAfresh⟩
    split
    · exact ZoneSteps.refl t
    · exact t.sectorChange_steps i

/-- What an act makes of the Zone Table and the Dispatch Queue. -/
inductive ZonesMove (s t : State) : Prop
  | same (zones : t.zones = s.zones) (dispatch : t.dispatch = s.dispatch)
  | steps (v : Vector (Option Sector) 8) (run : ZoneSteps { s with sectors := v } t)
  | forced (z : Nat) (x : Zone) (f : Option Force) (found : s.zone z = some x)
      (run : ZoneSteps (s.setZone z (some { x with force := f })) t)
  | moved (f : Zone → Zone) (move : ∀ x, ZoneMove x (f x)) (act : t = { s with zones := mapEntries f s.zones })
  | records (z : Nat) (f : List SirenRecord → List SirenRecord)
      (addrs : ∀ rs, (f rs).map SirenRecord.addr = rs.map SirenRecord.addr) (act : t = s.updEntry z f)
  | sent (z : Nat) (a : Byte) (act : t = s.alertSent z a)
  | acks (stale mismatched : Nat) (counts : s.dispatch.stale ≤ 65535 → stale ≤ 65535)
      (counts' : s.dispatch.mismatched ≤ 65535 → mismatched ≤ 65535)
      (act : t = { s with dispatch := { s.dispatch with stale := stale, mismatched := mismatched } })
  | second (act : t = { s with dispatch := { s.dispatch with queue := s.dispatch.queue.map Entry.second } })
  | ordered (old : State) (act : t = s.orderAlerts old)
  | written (z : Nat) (c : ZoneConfig) (act : t = s.writeZone z c) (place : z < 12) (mode : s.mode ≠ .blank)
      (sirens : c.sirens ≠ [] ∧ c.sirens.Nodup)
  | cleared (z : Nat) (act : t = s.clearZoneEntry z)
  | erased (act : t = s.eraseAll)

theorem ZoneAct.move {s t : State} (h : ZoneAct s t) : ZonesMove s t := by
  cases h with
  | evaluate z => exact .steps s.sectors (s.evaluateZone_steps z)
  | holdEnds z => exact .steps s.sectors (s.holdEnds_steps z)
  | force z f =>
    cases found : s.zone z with
    | none =>
      unfold State.setForce
      rw [found]
      exact .same rfl rfl
    | some x => exact .forced z x f found (State.setForce_steps found f)
  | refresh z running => exact .steps s.sectors (State.refreshRunsOut_steps running)
  | announce z => exact .steps s.sectors (s.announce_steps z)
  | moved f move => exact .moved f move rfl
  | written z c place mode sirens _ _ => exact .written z c rfl place mode sirens
  | cleared z _ => exact .cleared z rfl
  | records z f addrs => exact .records z f addrs rfl
  | sent z a => exact .sent z a rfl
  | acks stale mismatched counts counts' => exact .acks stale mismatched counts counts' rfl
  | second => exact .second rfl
  | ordered old => exact .ordered old rfl

theorem Act.zonesMove {s t : State} (h : Act s t) : ZonesMove s t := by
  cases h with
  | port h => exact .same (by rw [h.only]) (by rw [h.only])
  | notice h => exact .same (by rw [h.only]) (by rw [h.only])
  | zone h => exact h.move
  | sector h =>
    obtain ⟨v, run⟩ := h.steps
    exact .steps v run
  | lane h => cases h <;> exact .same rfl rfl
  | station h => exact .same (by rw [h.only]) (by rw [h.only])
  | output h => exact .same (by rw [h.only]) (by rw [h.only])
  | control h =>
    rcases h.tables with ⟨_, _, _, zones, _, dispatch⟩ | ⟨_, act⟩
    · exact .same zones dispatch
    · exact .erased act

/-! ## The two counts of the Dispatch Queue (R132) -/

/-- The acknowledgement counts stand. -/
def SameAcks (s t : State) : Prop :=
  t.dispatch.stale = s.dispatch.stale ∧ t.dispatch.mismatched = s.dispatch.mismatched

theorem SameAcks.trans {s t u : State} (h : SameAcks s t) (k : SameAcks t u) : SameAcks s u :=
  ⟨k.1.trans h.1, k.2.trans h.2⟩

theorem ZoneStep.acks {s t : State} (h : ZoneStep s t) : SameAcks s t := by
  cases h with
  | put z x y _ _ _ => exact ⟨rfl, rfl⟩
  | raise d => exact ⟨rfl, rfl⟩
  | alert z => unfold State.alertRaised; split <;> exact ⟨rfl, rfl⟩
  | refresh z => unfold State.refreshDue; split <;> exact ⟨rfl, rfl⟩

theorem ZoneSteps.acks {s t : State} (h : ZoneSteps s t) : SameAcks s t :=
  h.keeps (P := fun u => SameAcks s u) (fun _ _ step same => same.trans step.acks) ⟨rfl, rfl⟩

theorem State.followZoneWrite_acks (z : Nat) (c : ZoneConfig) (s : State) : SameAcks s (s.followZoneWrite z c) := by
  unfold State.followZoneWrite
  split
  · exact ⟨rfl, rfl⟩
  · exact foldl_keeps (P := fun t : State => SameAcks s t) (f := fun t d => t.raise d) (fun _ _ h => h) _ _ ⟨rfl, rfl⟩

end Sys2Proof.Machine
end

section
/-! The remaining counters, the Table Store under the acts, and BLANK (O51, O52). -/

namespace Sys2Proof.Machine

/-! ## Counters -/

/-- LOAD ZONE after the zone is written and the entry in flight has followed (R118). -/
theorem State.writeZone_steps (z : Nat) (c : ZoneConfig) (s : State) :
    ZoneSteps ((s.setZone z (some (Zone.loaded c (s.zone z)))).followZoneWrite z c) (s.writeZone z c) := by
  have written : s.writeZone z c = let t := ((s.setZone z (some (Zone.loaded c (s.zone z)))).followZoneWrite z c).evaluateZone z
      match t.zone z with
      | none => t
      | some y => t.setZone z (some { y with refreshCd := if t.mode = .watching then y.loadRefresh else none }) := rfl
  rw [written]
  dsimp only
  refine (State.evaluateZone_steps z _).trans ?_
  split
  · exact ZoneSteps.refl _
  · rename_i y found
    refine ZoneSteps.put found ⟨rfl, id, fun runs => .inr ?_⟩ ⟨rfl, .inl, fun out => ?_⟩
    · dsimp only at runs
      split at runs
      · exact Zone.loadRefresh_pos runs
      · exact absurd rfl runs
    · dsimp only at out
      split at out
      · exact absurd out y.loadRefresh_ne_zero
      · cases out

theorem State.writeZone_acks (z : Nat) (c : ZoneConfig) (s : State) : SameAcks s (s.writeZone z c) :=
  (State.followZoneWrite_acks z c (s.setZone z _)).trans (State.writeZone_steps z c s).acks

/-- Neither count of the Dispatch Queue passes 65535 (R132). -/
def State.AcksCounted (s : State) : Prop :=
  s.dispatch.stale ≤ 65535 ∧ s.dispatch.mismatched ≤ 65535

theorem SameAcks.counted {s t : State} (h : SameAcks s t) (counted : s.AcksCounted) : t.AcksCounted :=
  ⟨h.1 ▸ counted.1, h.2 ▸ counted.2⟩

theorem Act.acksCounted {s t : State} (h : Act s t) (counted : s.AcksCounted) : t.AcksCounted := by
  cases h.zonesMove with
  | same _ dispatch => unfold State.AcksCounted; rw [dispatch]; exact counted
  | steps v run => exact run.acks.counted counted
  | forced z x f _ run => exact run.acks.counted counted
  | acks stale mismatched counts counts' act => rw [act]; exact ⟨counts counted.1, counts' counted.2⟩
  | written z c act _ _ _ => rw [act]; exact (s.writeZone_acks z c).counted counted
  | moved f _ act => rw [act]; exact counted
  | records z f _ act => rw [act]; exact counted
  | sent z a act => rw [act]; exact counted
  | second act => rw [act]; exact counted
  | ordered old act => rw [act]; exact counted
  | cleared z act => rw [act]; exact counted
  | erased act => rw [act]; exact counted

theorem Act.noticesCounted {s t : State} (h : Act s t) :
    (∀ c ∈ NoticeClass.all, (s.notices.get c).count ≤ 65535) → ∀ c ∈ NoticeClass.all, (t.notices.get c).count ≤ 65535 :=
  h.notices.counts

/-- The counters of R18, R45, R117, R132, R140, R185 and R193, table by table. -/
theorem countersBounded_iff {s : State} : CountersBounded s ↔
    s.PortsCounted ∧ s.AllStations (fun x => Bounded x.counts.list) ∧ s.AllZones (fun x => x.undispatched ≤ 65535) ∧
      (∀ c ∈ NoticeClass.all, (s.notices.get c).count ≤ 65535) ∧ s.AcksCounted := by
  rw [portsCounted_iff]
  constructor
  · rintro ⟨ports, stations, zones, notices, stale, mismatched, lost⟩
    exact ⟨⟨ports, lost⟩, fun i x found => stations i (lt_of_entryAt found) x found,
      fun z x found => zones z (lt_of_entryAt found) x found, notices, stale, mismatched⟩
  · rintro ⟨⟨ports, lost⟩, stations, zones, notices, stale, mismatched⟩
    exact ⟨ports, fun i _ x found => stations i x found, fun z _ x found => zones z x found, notices, stale, mismatched, lost⟩

theorem Act.countersBounded {s t : State} (h : Act s t) (bounded : CountersBounded s) : CountersBounded t := by
  rw [countersBounded_iff] at bounded ⊢
  obtain ⟨ports, stations, zones, notices, acks⟩ := bounded
  exact ⟨h.portsCounted ports, h.stationsCounted stations, h.undispatched zones, h.noticesCounted notices,
    h.acksCounted acks⟩

theorem CrestPort.fresh_counts (l : LineLevel) : Bounded (CrestPort.fresh l).counts := by
  simp [Bounded, CrestPort.counts, CrestPort.fresh, Port.counts, Port.fresh]

theorem ValleyPort.fresh_counts (l : LineLevel) : Bounded (ValleyPort.fresh l).counts := by
  simp [Bounded, ValleyPort.counts, ValleyPort.fresh, Port.counts, Port.fresh]

theorem NoticeUnit.fresh_counted (e : Enables) (p : Nat) : ∀ c ∈ NoticeClass.all, ((NoticeUnit.fresh e p).get c).count ≤ 65535 := by
  intro c _
  rw [NoticeUnit.fresh_get]
  exact Nat.zero_le _

theorem State.restored_counters (m : Image) (v : State) : CountersBounded (v.restored m) := by
  rw [countersBounded_iff]
  refine ⟨⟨CrestPort.fresh_counts _, CrestPort.fresh_counts _, ValleyPort.fresh_counts _, Nat.zero_le _⟩, fun i x found => ?_,
    fun z x found => ?_, NoticeUnit.fresh_counted _ _, Nat.zero_le _, Nat.zero_le _⟩
  · rw [State.restored_station] at found
    obtain ⟨c, _, rfl⟩ := Option.map_eq_some_iff.mp found
    exact StationCounts.zero_bounded
  · rw [State.restored_zone] at found
    obtain ⟨c, _, rfl⟩ := Option.map_eq_some_iff.mp found
    exact Nat.zero_le _

theorem State.startEmpty_counters (v : State) : CountersBounded v.startPorts.startEmpty := by
  rw [countersBounded_iff]
  refine ⟨⟨CrestPort.fresh_counts _, CrestPort.fresh_counts _, ValleyPort.fresh_counts _, Nat.zero_le _⟩, fun i x found => ?_,
    fun z x found => ?_, NoticeUnit.fresh_counted _ _, Nat.zero_le _, Nat.zero_le _⟩
  · rw [State.startEmpty_station] at found
    cases found
  · rw [State.startEmpty_zone] at found
    cases found

theorem queuesBounded_of_empty {u : State} (replies : u.replies = []) (save : u.save = none) (a : u.crestA.queue = [])
    (b : u.crestB.queue = []) (forward : u.valley.forward = []) (out : u.notices.out = []) : QueuesBounded u := by
  refine ⟨?_, ?_, ?_, ?_, ?_⟩ <;> simp [State.heldPlaces, *]

/-- Settles O51: no act overfills a queue or lets a counter pass 65535, and a start-up empties and zeroes them. -/
theorem everyStepKeepsQueuesAndCountersBounded : Obligations.EveryStepKeepsQueuesAndCountersBounded := by
  refine ⟨fun s t queues counters step => ⟨?_, ?_⟩, fun s t bins step => binsBounded_step bins step⟩
  · exact step_keeps_tables (P := QueuesBounded) (fun _ _ h => h) (fun _ _ h => h.queuesBounded)
      (fun _ _ _ _ _ _ _ => queuesBounded_of_empty rfl rfl rfl rfl rfl rfl)
      (fun _ _ _ _ => queuesBounded_of_empty rfl rfl rfl rfl rfl rfl) queues step
  · exact step_keeps_tables (P := CountersBounded) (fun _ _ h => h) (fun _ _ h => h.countersBounded)
      (fun m _ v _ _ _ _ => v.restored_counters m) (fun _ v _ _ => v.startEmpty_counters) counters step

/-! ## The Table Store under the acts (R198, R199) -/

/-- The Table Store and what a save in progress will write are of a kind. -/
def State.Stores (P : Store → Prop) (s : State) : Prop :=
  P s.store ∧ ∀ j ∈ s.save, P j.content

theorem State.Stores.of_same {P : Store → Prop} {s t : State} (h : s.Stores P) (store : t.store = s.store)
    (save : t.save = s.save) : t.Stores P := by
  unfold State.Stores
  rw [store, save]
  exact h

theorem ControlAct.stores {P : Store → Prop} {s t : State} (h : ControlAct s t) (void : P .void) (now : P s.imageNow)
    (old : s.Stores P) : t.Stores P := by
  cases h with
  | startSave src tag _ _ =>
    refine ⟨void, fun j saving => ?_⟩
    cases saving
    exact now
  | completeSave =>
    unfold State.completeSave
    split
    · exact old
    · rename_i j saving
      exact ⟨old.2 j saving, fun k none => nomatch none⟩
  | leaveBlank => unfold State.leaveBlank; split <;> exact old
  | time b _ => exact old
  | console l _ => exact old
  | cause c => exact old
  | watch _ => exact old
  | commission => exact old
  | erase _ => exact old

/-- What the image of the tables as they stand is of, the Table Store stays of (R198, R199). -/
theorem Act.stores {P : Store → Prop} {s t : State} (h : Act s t) (void : P .void) (now : P s.imageNow)
    (old : s.Stores P) : t.Stores P := by
  rcases h.cases_layer with port | output | control | tables
  · exact old.of_same (by rw [port.only]) (by rw [port.only])
  · exact old.of_same (by rw [output.only]) (by rw [output.only])
  · exact control.stores void now old
  · exact old.of_same (by rw [tables]) (by rw [tables])

theorem StartsFrom.store {s v : State} (h : StartsFrom s v) : v.store = s.store := by rw [h.1]
theorem StartsFrom.save {s v : State} (h : StartsFrom s v) : v.save = s.save := by rw [h.1]

theorem StartsFrom.stores {P : Store → Prop} {s v : State} (starts : StartsFrom s v) (void : P .void) (old : s.Stores P) :
    v.startPorts.Stores P := by
  refine ⟨?_, fun j none => nomatch none⟩
  show P (if v.save.isSome then .void else v.store)
  split
  · exact void
  · exact starts.store ▸ old.1

/-! ## BLANK (R194) -/

theorem ControlAct.blank {s t : State} (h : ControlAct s t) (blank : t.mode = .blank) :
    t = s.eraseAll ∨ s.mode = .blank := by
  cases h with
  | erase _ => exact .inl rfl
  | leaveBlank =>
    unfold State.leaveBlank at blank
    split at blank
    · cases blank
    · exact .inr blank
  | completeSave =>
    unfold State.completeSave at blank
    split at blank <;> exact .inr blank
  | watch _ => cases blank
  | commission => cases blank
  | time b _ => exact .inr blank
  | console l _ => exact .inr blank
  | cause c => exact .inr blank
  | startSave src tag _ _ => exact .inr blank

theorem Act.blank {s t : State} (h : Act s t) (blank : t.mode = .blank) : t = s.eraseAll ∨ s.mode = .blank := by
  rcases h.cases_layer with port | output | control | tables
  · rw [port.only] at blank; exact .inr blank
  · rw [output.only] at blank; exact .inr blank
  · exact control.blank blank
  · rw [tables] at blank; exact .inr blank

theorem Act.stations_blank {s t : State} (h : Act s t) (blank : s.mode = .blank) :
    s.AllStations (fun _ => False) → t.AllStations (fun _ => False) := by
  refine h.allStations (fun i y w none => ?_) (fun _ => id) (fun _ => id) (fun _ => id)
  cases w with
  | counted x _ found _ _ => exact none x found
  | forwarded x _ found => exact none x found
  | accepted x _ _ _ _ found _ => exact none x found
  | silent x found _ => exact none x found
  | reparked x _ found => exact none x found
  | loaded _ _ mode _ => exact mode blank

theorem Act.sectors_blank {s t : State} (h : Act s t) (blank : s.mode = .blank) :
    s.AllSectors (fun _ => False) → t.AllSectors (fun _ => False) := by
  refine h.allSectors (fun i y w none => ?_) (fun _ => id) (fun _ => id)
  cases w with
  | changed x _ found _ _ _ => exact none x found
  | parked x found => exact none x found
  | unparked x _ found => exact none x found
  | loaded _ _ _ _ mode _ => exact mode blank

theorem Act.lanes_blank {s t : State} (h : Act s t) (blank : s.mode = .blank) (none : s.AllLanes (fun _ => False)) :
    t.AllLanes (fun _ => False) := by
  intro i l found
  rcases h.lanes_cases with same | h | ⟨_, rfl⟩
  · rw [State.lane, same] at found
    exact none i l found
  · cases h with
    | settled v each =>
      rcases each i with stands | ⟨k, m, was, _, _, _⟩
      · exact none i l (stands.symm.trans found)
      · exact none i k was
    | loaded j c mode _ => exact mode blank
    | cleared j _ =>
      rw [setLane_lane] at found
      split at found
      · cases found
      · exact none i l found
  · rw [State.eraseAll_lane] at found
    cases found

/-- No zone is loaded, and the Dispatch Queue is empty. -/
def State.NoZones (s : State) : Prop :=
  (∀ z, s.zone z = none) ∧ s.dispatch.queue = []

theorem ZoneStep.noZones {s t : State} (h : ZoneStep s t) (empty : s.NoZones) : t.NoZones := by
  obtain ⟨vacant, queue⟩ := empty
  cases h with
  | put z x y found _ _ => rw [vacant] at found; cases found
  | raise d => exact ⟨vacant, queue⟩
  | alert z =>
    unfold State.alertRaised
    rw [vacant]
    exact ⟨vacant, queue⟩
  | refresh z =>
    unfold State.refreshDue
    rw [vacant]
    split
    · rename_i found
      cases found
    · exact ⟨vacant, queue⟩

theorem orderFresh_nil (old : List Entry) : orderFresh old [] = [] := rfl

theorem Act.zones_blank {s t : State} (h : Act s t) (blank : s.mode = .blank) (empty : s.NoZones) : t.NoZones := by
  obtain ⟨vacant, queue⟩ := empty
  cases h.zonesMove with
  | same zones dispatch => exact ⟨fun z => by rw [State.zone, zones]; exact vacant z, by rw [dispatch]; exact queue⟩
  | steps v run => exact run.keeps (fun _ _ => ZoneStep.noZones) ⟨vacant, queue⟩
  | forced z x f found _ => rw [vacant] at found; cases found
  | moved f _ act =>
    rw [act]
    refine ⟨fun z => ?_, queue⟩
    show entryAt (mapEntries f s.zones) z = none
    rw [entryAt_mapEntries, show entryAt s.zones z = none from vacant z]
    rfl
  | records z f _ act => rw [act]; exact ⟨vacant, by simp [State.updEntry, queue]⟩
  | sent z a act => rw [act]; exact ⟨vacant, by simp [State.alertSent, queue]⟩
  | acks _ _ _ _ act => rw [act]; exact ⟨vacant, queue⟩
  | second act =>
    rw [act]
    refine ⟨vacant, ?_⟩
    show s.dispatch.queue.map Entry.second = []
    rw [queue, List.map_nil]
  | ordered old act =>
    rw [act]
    refine ⟨vacant, ?_⟩
    show orderFresh _ s.dispatch.queue = []
    rw [queue, orderFresh_nil]
  | written z c _ _ mode _ => exact absurd blank mode
  | cleared z act =>
    rw [act]
    refine ⟨fun j => ?_, by simp [State.clearZoneEntry, queue, withoutZone]⟩
    rw [State.clearZoneEntry_zone]
    split
    · rfl
    · exact vacant j
  | erased act => rw [act]; exact ⟨fun z => s.eraseAll_zone z, rfl⟩

/-- Nothing is loaded, table by table. -/
def State.Bare (s : State) : Prop :=
  s.AllStations (fun _ => False) ∧ s.AllLanes (fun _ => False) ∧ s.AllSectors (fun _ => False) ∧ s.NoZones

theorem allVacant_iff {α : Type} {n : Nat} (v : Vector (Option α) n) :
    (∀ i, i < n → entryAt v i = none) ↔ ∀ i x, entryAt v i = some x → False := by
  constructor
  · intro vacant i x found
    rw [vacant i (lt_of_entryAt found)] at found
    cases found
  · intro none i _
    exact Option.eq_none_iff_forall_ne_some.mpr fun x => none i x

theorem blankIsEmpty_iff {s : State} : BlankIsEmpty s ↔ (s.mode = .blank → s.Bare) := by
  refine imp_congr_right fun _ => ?_
  refine and_congr (allVacant_iff s.stations) (and_congr (allVacant_iff s.lanes) (and_congr (allVacant_iff s.sectors) ?_))
  refine and_congr_left fun _ => ⟨fun vacant z => ?_, fun vacant z _ => vacant z⟩
  exact Option.eq_none_iff_forall_ne_some.mpr ((allVacant_iff s.zones).mp vacant z)

theorem State.eraseAll_bare (s : State) : s.eraseAll.Bare :=
  ⟨fun i x found => Option.some_ne_none x (found.symm.trans (s.eraseAll_station i)),
    fun i x found => Option.some_ne_none x (found.symm.trans (s.eraseAll_lane i)),
    fun i x found => Option.some_ne_none x (found.symm.trans (s.eraseAll_sector i)), fun z => s.eraseAll_zone z, rfl⟩

theorem State.startEmpty_bare (v : State) : v.startPorts.startEmpty.Bare :=
  ⟨fun i x found => Option.some_ne_none x (found.symm.trans (State.startEmpty_station i v.startPorts)),
    fun i x found => Option.some_ne_none x (found.symm.trans (State.startEmpty_lane i v.startPorts)),
    fun i x found => Option.some_ne_none x (found.symm.trans (State.startEmpty_sector i v.startPorts)),
    fun z => State.startEmpty_zone z v.startPorts, rfl⟩

theorem Act.bare {s t : State} (h : Act s t) (bare : s.mode = .blank → s.Bare) (blank : t.mode = .blank) : t.Bare := by
  rcases h.blank blank with rfl | was
  · exact s.eraseAll_bare
  · obtain ⟨stations, lanes, sectors, zones⟩ := bare was
    exact ⟨h.stations_blank was stations, h.lanes_blank was lanes, h.sectors_blank was sectors, h.zones_blank was zones⟩

theorem State.restored_not_blank (m : Image) (v : State) : (v.restored m).mode ≠ .blank := by
  show (if m.watching then Mode.watching else .commissioning) ≠ .blank
  split <;> simp

/-- Settles O52: in BLANK no act loads an entry, and only the erasing of the tables and an empty start-up enter BLANK. -/
theorem everyStepKeepsBlankEmpty : Obligations.EveryStepKeepsBlankEmpty := by
  intro s t empty step
  rw [blankIsEmpty_iff] at empty ⊢
  exact step_keeps_tables (P := fun u => u.mode = .blank → u.Bare) (fun _ _ h => h) (fun _ _ h => h.bare)
    (fun m _ v _ _ _ _ blank => absurd blank (v.restored_not_blank m)) (fun _ v _ _ _ => v.startEmpty_bare) empty step

end Sys2Proof.Machine
end

section
/-! The order of the Dispatch Queue under the acts (O56). -/

namespace Sys2Proof.Machine

/-! ## Queue order (R122) -/

/-- The queue stands in stage order. -/
def StageSorted (q : List Entry) : Prop :=
  q.Pairwise (fun a b => b.stage.num ≤ a.stage.num)

/-- Placing an entry adds it and moves no other. -/
theorem insertEntry_perm (e : Entry) (q : List Entry) : (insertEntry e q).Perm (e :: q) := by
  unfold insertEntry
  refine List.perm_middle.trans ?_
  rw [List.takeWhile_append_dropWhile]

/-- Behind the entries of its stage or higher, before the lower ones. -/
theorem StageSorted.insertEntry {q : List Entry} (h : StageSorted q) (e : Entry) : StageSorted (insertEntry e q) := by
  induction q with
  | nil => exact List.pairwise_singleton _ e
  | cons a q ih =>
    obtain ⟨head, tail⟩ := List.pairwise_cons.mp h
    by_cases ahead : e.stage.num ≤ a.stage.num
    · have placed : Machine.insertEntry e (a :: q) = a :: Machine.insertEntry e q := by
        simp [Machine.insertEntry, ahead]
      rw [placed]
      refine List.pairwise_cons.mpr ⟨fun b member => ?_, ih tail⟩
      rcases List.mem_cons.mp ((insertEntry_perm e q).mem_iff.mp member) with rfl | old
      · exact ahead
      · exact head b old
    · have placed : Machine.insertEntry e (a :: q) = e :: a :: q := by simp [Machine.insertEntry, ahead]
      rw [placed]
      refine List.pairwise_cons.mpr ⟨fun b member => ?_, h⟩
      rcases List.mem_cons.mp member with rfl | old
      · omega
      · exact (head b old).trans (by omega)

theorem placeByZone_perm (e : Entry) (q : List Entry) : (placeByZone e q).Perm (e :: q) := by
  induction q with
  | nil => exact List.Perm.refl _
  | cons a q ih =>
    unfold placeByZone
    split
    · exact List.Perm.refl _
    · exact (ih.cons a).trans (List.Perm.swap e a q)

/-- A fold that puts each entry somewhere puts them all. -/
theorem foldl_place_perm {f : List Entry → Entry → List Entry} (place : ∀ q e, (f q e).Perm (e :: q)) (l q : List Entry) :
    (l.foldl f q).Perm (l ++ q) := by
  induction l generalizing q with
  | nil => exact List.Perm.refl q
  | cons e l ih => exact (ih (f q e)).trans (((place q e).append_left l).trans List.perm_middle)

/-- The order of fresh contents moves entries and changes none (log 18). -/
theorem orderFresh_perm (old new : List Entry) : (orderFresh old new).Perm new := by
  unfold orderFresh
  dsimp only
  refine (foldl_place_perm (fun q e => insertEntry_perm e q) _ _).trans ?_
  refine ((foldl_place_perm (fun q e => placeByZone_perm e q) _ []).append_right _).trans ?_
  rw [List.append_nil]
  exact List.perm_append_comm.trans (List.filter_append_perm (stoodBefore old) new)

theorem orderFresh_sorted {old new : List Entry} (h : StageSorted new) : StageSorted (orderFresh old new) := by
  unfold orderFresh
  exact foldl_keeps (P := StageSorted) (fun q e sorted => sorted.insertEntry e) _ _ (h.filter _)

/-- Records rewritten under the same zones and stages. -/
theorem StageSorted.map {q : List Entry} (h : StageSorted q) {f : Entry → Entry} (stage : ∀ e, (f e).stage = e.stage) :
    StageSorted (q.map f) := by
  refine List.pairwise_map.mpr (h.imp fun {a b} le => ?_)
  rw [stage, stage]
  exact le

theorem map_zone_map {f : Entry → Entry} (zone : ∀ e, (f e).zone = e.zone) (q : List Entry) :
    (q.map f).map Entry.zone = q.map Entry.zone := by
  rw [List.map_map]
  exact List.map_congr_left fun e _ => zone e

/-! ## What stands in the queue (R122, R123, R128, R130) -/

/-- A siren list is not empty and names no siren twice (R106). -/
def ZoneConfig.ListsSirens (c : ZoneConfig) : Prop :=
  c.sirens ≠ [] ∧ c.sirens.Nodup

/-- An entry is of a loaded zone, with one record for each address of its siren list and one of them PENDING. -/
def Entry.Fits (s : State) (e : Entry) : Prop :=
  e.zone < 12 ∧ e.active = true ∧ ∃ x ∈ s.zone e.zone, e.records.map SirenRecord.addr = x.cfg.sirens

/-- A queue in order, whose entries fit the zones of a state. -/
def QueueSound (s : State) (q : List Entry) : Prop :=
  StageSorted q ∧ (q.map Entry.zone).Nodup ∧ ∀ e ∈ q, e.Fits s

theorem dispatchOrdered_iff {s : State} : DispatchOrdered s ↔ QueueSound s s.dispatch.queue := Iff.rfl

theorem Entry.Fits.follows {s t : State} {e : Entry} (h : e.Fits s) (follows : ZonesFollow s t) : e.Fits t := by
  obtain ⟨place, active, x, found, addrs⟩ := h
  have cfg := (follows e.zone).cfg
  rw [Option.mem_def.mp found] at cfg
  obtain ⟨y, stands, same⟩ := Option.map_eq_some_iff.mp cfg
  exact ⟨place, active, y, stands, addrs.trans (congrArg ZoneConfig.sirens same).symm⟩

theorem QueueSound.follows {s t : State} {q : List Entry} (h : QueueSound s q) (follows : ZonesFollow s t) :
    QueueSound t q :=
  ⟨h.1, h.2.1, fun e member => (h.2.2 e member).follows follows⟩

theorem QueueSound.sublist {s : State} {p q : List Entry} (h : QueueSound s q) (sub : p.Sublist q) : QueueSound s p :=
  ⟨h.1.sublist sub, h.2.1.sublist (sub.map _), fun e member => h.2.2 e (sub.subset member)⟩

theorem QueueSound.insert {s : State} {q : List Entry} {e : Entry} (h : QueueSound s q) (fits : e.Fits s)
    (absent : ∀ x ∈ q, x.zone ≠ e.zone) : QueueSound s (insertEntry e q) := by
  obtain ⟨sorted, nodup, all⟩ := h
  have perm := insertEntry_perm e q
  refine ⟨sorted.insertEntry e, ((perm.map Entry.zone).nodup_iff).mpr (List.nodup_cons.mpr ⟨?_, nodup⟩), fun x member => ?_⟩
  · intro member
    obtain ⟨x, there, same⟩ := List.mem_map.mp member
    exact absent x there same
  · rcases List.mem_cons.mp (perm.mem_iff.mp member) with rfl | old
    · exact fits
    · exact all x old

theorem QueueSound.ordered {s : State} {q : List Entry} (h : QueueSound s q) (old : List Entry) :
    QueueSound s (orderFresh old q) :=
  ⟨orderFresh_sorted h.1, (((orderFresh_perm old q).map Entry.zone).nodup_iff).mpr h.2.1,
    fun e member => h.2.2 e ((orderFresh_perm old q).mem_iff.mp member)⟩

theorem mem_withoutZone {z : Nat} {q : List Entry} {e : Entry} : e ∈ withoutZone z q ↔ e ∈ q ∧ e.zone ≠ z := by
  simp [withoutZone]

theorem withoutZone_sublist (z : Nat) (q : List Entry) : (withoutZone z q).Sublist q := List.filter_sublist

theorem entryOf_none {z : Nat} {q : List Entry} (h : entryOf z q = none) : ∀ e ∈ q, e.zone ≠ z := by
  intro e member
  have := List.find?_eq_none.mp h e member
  simpa using this

theorem entryOf_some {z : Nat} {q : List Entry} {e : Entry} (h : entryOf z q = some e) : e ∈ q ∧ e.zone = z :=
  ⟨List.mem_of_find?_eq_some h, by simpa using List.find?_some h⟩

/-- The content an alert or a refresh sets fits its zone (R124). -/
theorem State.entryFor_fits {z : Nat} {x : Zone} {s : State} (found : s.zone z = some x) (sirens : x.cfg.ListsSirens)
    (refresh : Bool) : (s.entryFor z x refresh).Fits s := by
  refine ⟨lt_of_entryAt found, ?_, x, found, ?_⟩
  · obtain ⟨a, rest, some⟩ := List.exists_cons_of_ne_nil sirens.1
    simp [Entry.active, State.entryFor, some, SirenRecord.fresh]
  · show (x.cfg.sirens.map SirenRecord.fresh).map SirenRecord.addr = x.cfg.sirens
    rw [List.map_map]
    exact List.map_id _

/-! ## Zones and queue under the steps -/

/-- Every zone lists its sirens, and the Dispatch Queue is in order. -/
def State.DispatchSound (s : State) : Prop :=
  s.AllZones (fun x => x.cfg.ListsSirens) ∧ QueueSound s s.dispatch.queue

theorem ZonesFollow.listsSirens {s t : State} (h : ZonesFollow s t) (all : s.AllZones fun x => x.cfg.ListsSirens) :
    t.AllZones fun x => x.cfg.ListsSirens := by
  intro z y found
  obtain ⟨x, was, follows⟩ := PlaceFollows.of_some (found ▸ h z)
  exact follows.cfg.symm ▸ all z x was

theorem State.DispatchSound.follows {s t : State} (h : s.DispatchSound) (follows : ZonesFollow s t)
    (queue : t.dispatch.queue = s.dispatch.queue) : t.DispatchSound :=
  ⟨follows.listsSirens h.1, queue ▸ h.2.follows follows⟩

theorem State.alertRaised_sound {s : State} (h : s.DispatchSound) (z : Nat) : (s.alertRaised z).DispatchSound := by
  unfold State.alertRaised
  split
  · exact h
  · rename_i x found
    refine ⟨h.1, QueueSound.insert (s := s) (h.2.sublist (withoutZone_sublist z _)) (State.entryFor_fits found (h.1 z x found) _) ?_⟩
    exact fun e member => (mem_withoutZone.mp member).2

theorem State.refreshDue_sound {s : State} (h : s.DispatchSound) (z : Nat) : (s.refreshDue z).DispatchSound := by
  unfold State.refreshDue
  split
  · rename_i x none found
    exact ⟨h.1, QueueSound.insert (s := s) h.2 (State.entryFor_fits found (h.1 z x found) _) (entryOf_none none)⟩
  · exact h

theorem ZoneStep.sound {s t : State} (step : ZoneStep s t) (h : s.DispatchSound) : t.DispatchSound := by
  cases step with
  | put z x y found follows _ => exact h.follows (ZonesFollow.setZone found follows) rfl
  | raise d => exact h
  | alert z => exact State.alertRaised_sound h z
  | refresh z => exact State.refreshDue_sound h z

/-- Records of a queue rewritten with their addresses, and each entry still with a PENDING one. -/
theorem QueueSound.map {s : State} {q : List Entry} {f : Entry → Entry} (h : QueueSound s q)
    (zone : ∀ e, (f e).zone = e.zone) (stage : ∀ e, (f e).stage = e.stage)
    (addrs : ∀ e, (f e).records.map SirenRecord.addr = e.records.map SirenRecord.addr)
    (active : ∀ e, e.active = true → (f e).active = true) : QueueSound s (q.map f) := by
  refine ⟨h.1.map stage, (map_zone_map zone q) ▸ h.2.1, fun e member => ?_⟩
  obtain ⟨d, old, rfl⟩ := List.mem_map.mp member
  obtain ⟨place, pending, x, found, list⟩ := h.2.2 d old
  exact ⟨(zone d).symm ▸ place, active d pending, x, (zone d).symm ▸ found, (addrs d).trans list⟩

theorem Entry.active_of_states {e : Entry} {rs : List SirenRecord} (h : e.active = true)
    (states : rs.map SirenRecord.state = e.records.map SirenRecord.state) :
    ({ e with records := rs } : Entry).active = true := by
  have any (l : List SirenRecord) : l.any (fun r => decide (r.state = .pending)) =
      (l.map SirenRecord.state).any (fun d => decide (d = .pending)) := by rw [List.any_map]; rfl
  unfold Entry.active at h ⊢
  rw [any] at h ⊢
  rwa [states]

theorem updRecord_states {a : Byte} {f : SirenRecord → SirenRecord} (keep : ∀ r, (f r).state = r.state)
    (rs : List SirenRecord) : (updRecord a f rs).map SirenRecord.state = rs.map SirenRecord.state := by
  unfold updRecord
  rw [List.map_map]
  refine List.map_congr_left fun r _ => ?_
  rw [Function.comp_apply]
  split
  · exact keep r
  · rfl

theorem State.alertSent_sound {s : State} (h : s.DispatchSound) (z : Nat) (a : Byte) : (s.alertSent z a).DispatchSound := by
  refine ⟨h.1, QueueSound.map (s := s) h.2 (fun e => ?_) (fun e => ?_) (fun e => ?_) (fun e active => ?_)⟩
  · split <;> rfl
  · split <;> rfl
  · split
    · refine updRecord_addrs ?_ e.records
      exact fun _ => rfl
    · rfl
  · split
    · refine Entry.active_of_states active (updRecord_states ?_ e.records)
      exact fun _ => rfl
    · exact active

theorem Entry.second_addrs (e : Entry) : e.second.records.map SirenRecord.addr = e.records.map SirenRecord.addr := by
  unfold Entry.second
  rw [List.map_map]
  rfl

theorem Entry.second_active {e : Entry} (h : e.active = true) : e.second.active = true :=
  Entry.active_of_states h (by rw [List.map_map]; rfl)

/-- A zone's entry rewritten to match the zone as it stands, and judged for retirement; every other entry stands. -/
theorem State.updEntry_sound {s : State} {z : Nat} {f : List SirenRecord → List SirenRecord}
    (sorted : StageSorted s.dispatch.queue) (nodup : (s.dispatch.queue.map Entry.zone).Nodup)
    (others : ∀ e ∈ s.dispatch.queue, e.zone ≠ z → e.Fits s)
    (fits : ∀ e ∈ s.dispatch.queue, e.zone = z →
      z < 12 ∧ ∃ x ∈ s.zone z, (f e.records).map SirenRecord.addr = x.cfg.sirens) :
    QueueSound s (s.updEntry z f).dispatch.queue := by
  unfold State.updEntry
  have stage (e : Entry) : (if e.zone = z then { e with records := f e.records } else e).stage = e.stage := by
    split <;> rfl
  have zone (e : Entry) : (if e.zone = z then { e with records := f e.records } else e).zone = e.zone := by
    split <;> rfl
  refine ⟨(sorted.map stage).filter _, List.Nodup.sublist (List.filter_sublist.map _) ((map_zone_map zone _).symm ▸ nodup), ?_⟩
  intro e member
  obtain ⟨rewritten, stays⟩ := List.mem_filter.mp member
  obtain ⟨d, old, rfl⟩ := List.mem_map.mp rewritten
  by_cases here : d.zone = z
  · rw [if_pos here] at stays ⊢
    obtain ⟨place, x, found, addrs⟩ := fits d old here
    have active : ({ d with records := f d.records } : Entry).active = true := by simpa [here] using stays
    exact ⟨here.symm ▸ place, active, x, here.symm ▸ found, addrs⟩
  · rw [if_neg here]
    exact others d old here

theorem State.records_sound {s : State} (h : s.DispatchSound) {z : Nat} {f : List SirenRecord → List SirenRecord}
    (addrs : ∀ rs, (f rs).map SirenRecord.addr = rs.map SirenRecord.addr) : (s.updEntry z f).DispatchSound := by
  obtain ⟨lists, sorted, nodup, all⟩ := h
  refine ⟨lists, State.updEntry_sound sorted nodup (fun e member _ => all e member) (fun e member here => ?_)⟩
  obtain ⟨place, _, x, found, list⟩ := all e member
  exact ⟨here ▸ place, x, here ▸ found, (addrs e.records).trans list⟩

/-! ## Writing and clearing a zone (R118, R119, R130) -/

theorem SirenRecord.fitLimit_addr (n : Nat) (r : SirenRecord) : (r.fitLimit n).addr = r.addr := by
  unfold SirenRecord.fitLimit
  dsimp only
  split
  · rfl
  · split <;> rfl
  · split <;> rfl

theorem followSirens_addrs (sirens : List Byte) (rs : List SirenRecord) :
    (followSirens sirens rs).map SirenRecord.addr = sirens := by
  unfold followSirens
  rw [List.map_map]
  refine (List.map_congr_left fun a _ => ?_).trans (List.map_id sirens)
  rw [Function.comp_apply]
  cases found : rs.find? (fun r => decide (r.addr = a)) with
  | none => rfl
  | some r => simpa using List.find?_some found

theorem followSirens_fitted_addrs (n : Nat) (sirens : List Byte) (rs : List SirenRecord) :
    ((followSirens sirens rs).map (SirenRecord.fitLimit n)).map SirenRecord.addr = sirens := by
  rw [List.map_map]
  refine Eq.trans (List.map_congr_left fun r _ => ?_) (followSirens_addrs sirens rs)
  exact SirenRecord.fitLimit_addr n r

theorem Zone.loaded_cfg (c : ZoneConfig) (x : Option Zone) : (Zone.loaded c x).cfg = c := by
  unfold Zone.loaded
  split <;> rfl

theorem setZone_listsSirens {s : State} {z : Nat} {x : Option Zone} (all : s.AllZones fun y => y.cfg.ListsSirens)
    (new : ∀ y ∈ x, y.cfg.ListsSirens) : (s.setZone z x).AllZones fun y => y.cfg.ListsSirens := by
  intro j y found
  rw [setZone_zone] at found
  split at found
  · exact new y found
  · exact all j y found

theorem Entry.Fits.setZone {s : State} {z : Nat} {x : Option Zone} {e : Entry} (h : e.Fits s) (other : e.zone ≠ z) :
    e.Fits (s.setZone z x) := by
  obtain ⟨place, active, y, found, addrs⟩ := h
  refine ⟨place, active, y, ?_, addrs⟩
  rw [setZone_zone, if_neg fun same => other same.1.symm]
  exact found

/-- The zone written and its entry in flight followed (R118, R130). -/
theorem State.followZoneWrite_sound {s : State} (h : s.DispatchSound) {z : Nat} {c : ZoneConfig} {x : Zone} (place : z < 12)
    (cfg : x.cfg = c) (sirens : c.ListsSirens) : ((s.setZone z (some x)).followZoneWrite z c).DispatchSound := by
  obtain ⟨lists, sorted, nodup, all⟩ := h
  have written : (s.setZone z (some x)).zone z = some x := by rw [setZone_zone, if_pos ⟨rfl, place⟩]
  have zones : (s.setZone z (some x)).AllZones fun y => y.cfg.ListsSirens :=
    setZone_listsSirens lists fun y same => by cases same; exact cfg.symm ▸ sirens
  unfold State.followZoneWrite
  split
  · rename_i none
    exact ⟨zones, sorted, nodup, fun e member => (all e member).setZone (entryOf_none none e member)⟩
  · refine foldl_keeps (P := State.DispatchSound) (f := fun t d => t.raise d) (fun _ _ h => h) _ _ ⟨zones, ?_⟩
    refine State.updEntry_sound sorted nodup (fun e member other => (all e member).setZone other) (fun e _ here => ?_)
    exact ⟨place, x, written, (followSirens_fitted_addrs _ _ _).trans (congrArg ZoneConfig.sirens cfg).symm⟩

theorem State.writeZone_sound {s : State} (h : s.DispatchSound) {z : Nat} {c : ZoneConfig} (place : z < 12)
    (sirens : c.ListsSirens) : (s.writeZone z c).DispatchSound :=
  (State.writeZone_steps z c s).keeps (fun _ _ step => step.sound)
    (State.followZoneWrite_sound h place (Zone.loaded_cfg c _) sirens)

theorem State.clearZoneEntry_sound {s : State} (h : s.DispatchSound) (z : Nat) : (s.clearZoneEntry z).DispatchSound := by
  obtain ⟨lists, sound⟩ := h
  refine ⟨setZone_listsSirens lists (fun y none => nomatch none), ?_⟩
  have kept := sound.sublist (withoutZone_sublist z s.dispatch.queue)
  exact ⟨kept.1, kept.2.1, fun e member => (kept.2.2 e member).setZone (mem_withoutZone.mp member).2⟩

theorem State.noZones_sound {s : State} (h : s.NoZones) : s.DispatchSound := by
  obtain ⟨vacant, queue⟩ := h
  refine ⟨fun z x found => ?_, ?_⟩
  · rw [vacant] at found
    cases found
  · rw [queue]
    exact ⟨List.Pairwise.nil, List.nodup_nil, fun e member => nomatch member⟩

theorem Act.dispatchSound {s t : State} (h : Act s t) (sound : s.DispatchSound) : t.DispatchSound := by
  cases h.zonesMove with
  | same zones dispatch =>
    refine sound.follows (fun z => ?_) (by rw [dispatch])
    rw [State.zone, State.zone, zones]
    exact PlaceFollows.refl _
  | steps v run => exact run.keeps (fun _ _ step => step.sound) sound
  | forced z x f found run =>
    exact run.keeps (fun _ _ step => step.sound) (sound.follows (ZonesFollow.setZone found ⟨rfl, id, .inl⟩) rfl)
  | moved f move act => rw [act]; exact sound.follows (State.mapZones_follows move s) rfl
  | records z f addrs act => rw [act]; exact State.records_sound sound addrs
  | sent z a act => rw [act]; exact State.alertSent_sound sound z a
  | acks _ _ _ _ act => rw [act]; exact sound
  | second act =>
    rw [act]
    exact ⟨sound.1, QueueSound.map (s := s) sound.2 (fun _ => rfl) (fun _ => rfl) Entry.second_addrs
      (fun _ => Entry.second_active)⟩
  | ordered old act => rw [act]; exact ⟨sound.1, QueueSound.ordered (s := s) sound.2 _⟩
  | written z c act place _ sirens => rw [act]; exact State.writeZone_sound sound place sirens
  | cleared z act => rw [act]; exact State.clearZoneEntry_sound sound z
  | erased act => rw [act]; exact State.noZones_sound ⟨fun z => s.eraseAll_zone z, rfl⟩

theorem Act.keptSirens {s t : State} (h : Act s t) (all : s.AllZones fun x => x.cfg.ListsSirens)
    (stores : s.Stores Store.sirensListed) : t.Stores Store.sirensListed := by
  refine h.stores trivial ?_ stores
  unfold State.imageNow
  split
  · trivial
  · intro z _ c found
    rw [entryAt_mapEntries] at found
    obtain ⟨x, loaded, rfl⟩ := Option.map_eq_some_iff.mp found
    exact all z x loaded

theorem sirensListed_iff {s : State} :
    SirensListed s ↔ s.AllZones (fun x => x.cfg.ListsSirens) ∧ s.Stores Store.sirensListed :=
  and_congr_left fun _ => ⟨fun h z x found => h z (lt_of_entryAt found) x found, fun h z _ x found => h z x found⟩

theorem State.restored_sound {s v : State} {m : Image} (starts : StartsFrom s v) (stored : v.store = .image m)
    (stores : s.Stores Store.sirensListed) : (v.restored m).DispatchSound := by
  refine ⟨fun z x found => ?_, List.Pairwise.nil, List.nodup_nil, fun e member => nomatch member⟩
  rw [State.restored_zone] at found
  obtain ⟨c, loaded, rfl⟩ := Option.map_eq_some_iff.mp found
  have image := stores.1
  rw [← starts.store, stored] at image
  exact image z (lt_of_entryAt loaded) c loaded

/-- Settles O56: every rewriting of the Dispatch Queue keeps it in order and its entries in line with their zones. -/
theorem everyStepKeepsTheDispatchQueueOrdered : Obligations.EveryStepKeepsTheDispatchQueueOrdered := by
  intro s t sirens ordered step
  rw [sirensListed_iff, dispatchOrdered_iff] at *
  have kept : t.DispatchSound ∧ t.Stores Store.sirensListed :=
    step_keeps_tables (P := fun u => u.DispatchSound ∧ u.Stores Store.sirensListed) (fun _ _ h => h)
      (fun _ _ act h => ⟨act.dispatchSound h.1, act.keptSirens h.1.1 h.2⟩)
      (fun m _ v starts _ stored h => ⟨State.restored_sound starts stored h.2, starts.stores trivial h.2⟩)
      (fun _ v starts h => ⟨State.noZones_sound ⟨fun z => State.startEmpty_zone z v.startPorts, rfl⟩, starts.stores trivial h.2⟩)
      ⟨⟨sirens.1, ordered⟩, sirens.2⟩ step
  exact ⟨⟨kept.1.1, kept.2⟩, kept.1.2⟩

end Sys2Proof.Machine
end

section
/-! The consistency check (R145): each of its items finds its first failing place, and what the check depends on. -/

namespace Sys2Proof.Machine

/-! ## Searching in order -/

theorem find?_first {α : Type} {r : α → α → Prop} {l : List α} {p : α → Bool} {a : α} (sorted : l.Pairwise r) (member : a ∈ l)
    (holds : p a = true) (first : ∀ x ∈ l, r x a → p x = false) : l.find? p = some a := by
  obtain ⟨front, back, rfl⟩ := List.append_of_mem member
  have before := (List.pairwise_append.mp sorted).2.2
  refine List.find?_eq_some_iff_append.mpr ⟨holds, front, back, rfl, fun x there => ?_⟩
  rw [first x (List.mem_append_left _ there) (before x there a List.mem_cons_self)]
  rfl

theorem findSome?_first {α β : Type} {r : α → α → Prop} {l : List α} {g : α → Option β} {a : α} {b : β}
    (sorted : l.Pairwise r) (member : a ∈ l) (gives : g a = some b) (first : ∀ x ∈ l, r x a → g x = none) :
    l.findSome? g = some b := by
  obtain ⟨front, back, rfl⟩ := List.append_of_mem member
  have before := (List.pairwise_append.mp sorted).2.2
  refine List.findSome?_eq_some_iff.mpr ⟨front, a, back, rfl, gives, fun x there => ?_⟩
  exact first x (List.mem_append_left _ there) (before x there a List.mem_cons_self)

theorem mem_loadedOf {α : Type} {n : Nat} {v : Vector (Option α) n} {p : Nat × α} :
    p ∈ loadedOf v ↔ entryAt v p.1 = some p.2 := by
  obtain ⟨i, x⟩ := p
  simp only [loadedOf, List.mem_filterMap, List.mem_range, Option.map_eq_some_iff, Prod.mk.injEq]
  constructor
  · rintro ⟨j, _, y, found, rfl, rfl⟩
    exact found
  · intro found
    exact ⟨i, lt_of_entryAt found, x, found, rfl, rfl⟩

theorem loadedOf_sorted {α : Type} {n : Nat} (v : Vector (Option α) n) :
    (loadedOf v).Pairwise (fun p q => p.1 < q.1) := by
  refine List.pairwise_filterMap.mpr (List.pairwise_lt_range.imp fun {i j} lt p first q second => ?_)
  obtain ⟨x, _, rfl⟩ := Option.map_eq_some_iff.mp first
  obtain ⟨y, _, rfl⟩ := Option.map_eq_some_iff.mp second
  exact lt

theorem zipIdx_sorted {α : Type} (l : List α) : l.zipIdx.Pairwise (fun p q => p.2 < q.2) := by
  have indices := List.pairwise_lt_range' (s := 0) (n := l.length) 1
  rw [← List.zipIdx_map_snd 0 l] at indices
  exact List.pairwise_map.mp indices

/-! ## The seven items -/

/-- An item of the check finds the first place at which it fails. -/
structure Finds (n : Nat) (r : Option (List Byte)) (fails : Nat → Nat → Prop) : Prop where
  none : r = none ↔ ∀ a b, ¬ fails a b
  first : ∀ a b, fails a b → (∀ i j, fails i j → a < i ∨ (a = i ∧ b ≤ j)) → r = some (item n a b)

theorem State.configs_station (s : State) (i : Nat) : entryAt s.configs.stations i = (s.station i).map Station.cfg :=
  entryAt_mapEntries _ _ _
theorem State.configs_lane (s : State) (i : Nat) : entryAt s.configs.lanes i = (s.lane i).map Lane.cfg :=
  entryAt_mapEntries _ _ _
theorem State.configs_sector (s : State) (i : Nat) : entryAt s.configs.sectors i = (s.sector i).map Sector.cfg :=
  entryAt_mapEntries _ _ _
theorem State.configs_zone (s : State) (i : Nat) : entryAt s.configs.zones i = (s.zone i).map Zone.cfg :=
  entryAt_mapEntries _ _ _

theorem checkConsole_finds (s : State) : Finds 1 (checkConsole s.configs) (ItemFails s 1) := by
  have reads : checkConsole s.configs = if s.console = [] then some (item 1 0 0) else none := by
    unfold checkConsole
    simp [State.configs]
  rw [reads]
  refine ⟨?_, fun a b fails _ => ?_⟩
  · rw [ite_eq_right_iff]
    exact ⟨fun some a b fails => (nomatch some fails.1), fun none empty => absurd ⟨empty, rfl, rfl⟩ (none 0 0)⟩
  · obtain ⟨empty, rfl, rfl⟩ := fails
    rw [if_pos empty]

theorem loadedOf_isEmpty {α : Type} {n : Nat} (v : Vector (Option α) n) :
    (loadedOf v).isEmpty = true ↔ ∀ i, entryAt v i = none := by
  rw [List.isEmpty_iff, List.eq_nil_iff_forall_not_mem]
  constructor
  · exact fun none i => Option.eq_none_iff_forall_ne_some.mpr fun x found => none (i, x) (mem_loadedOf.mpr found)
  · intro vacant p member
    rw [mem_loadedOf, vacant] at member
    cases member

theorem checkZones_finds (s : State) : Finds 2 (checkZones s.configs) (ItemFails s 2) := by
  have empty : (loadedOf s.configs.zones).isEmpty = true ↔ ∀ z, s.zone z = none := by
    rw [loadedOf_isEmpty]
    exact forall_congr' fun z => by rw [State.configs_zone, Option.map_eq_none_iff]
  unfold checkZones
  refine ⟨?_, fun a b fails _ => ?_⟩
  · rw [ite_eq_right_iff]
    constructor
    · intro some a b fails
      obtain ⟨vacant, _⟩ := fails
      cases some (empty.mpr vacant)
    · exact fun none vacant => absurd ⟨empty.mp vacant, rfl, rfl⟩ (none 0 0)
  · obtain ⟨vacant, rfl, rfl⟩ := fails
    rw [if_pos (empty.mpr vacant)]

/-- An item that looks at one place of each loaded entry. -/
theorem Finds.of_find? {α : Type} {m n : Nat} {v : Vector (Option α) m} {p : Nat × α → Bool} {fails : Nat → Nat → Prop}
    (iff : ∀ a b, fails a b ↔ b = 0 ∧ ∃ x, entryAt v a = some x ∧ p (a, x) = true) :
    Finds n (((loadedOf v).find? p).map (fun q => item n q.1 0)) fails := by
  refine ⟨?_, fun a b found least => ?_⟩
  · rw [Option.map_eq_none_iff, List.find?_eq_none]
    constructor
    · intro none a b found
      obtain ⟨_, x, loaded, holds⟩ := (iff a b).mp found
      exact none (a, x) (mem_loadedOf.mpr loaded) holds
    · intro none q member holds
      exact none q.1 0 ((iff _ _).mpr ⟨rfl, q.2, mem_loadedOf.mp member, holds⟩)
  · obtain ⟨rfl, x, loaded, holds⟩ := (iff a b).mp found
    rw [find?_first (loadedOf_sorted v) (mem_loadedOf (p := (a, x)).mpr loaded) holds, Option.map_some]
    intro q member before
    by_contra other
    have := least q.1 0 ((iff _ _).mpr ⟨rfl, q.2, mem_loadedOf.mp member, by simpa using other⟩)
    dsimp only at before
    omega

/-- An item that looks at several places of each loaded entry, in their order. -/
theorem Finds.of_findSome? {α β : Type} {m n : Nat} {v : Vector (Option α) m} {l : α → List β} {place : β → Nat}
    {p : Nat × α → β → Bool} {fails : Nat → Nat → Prop} (sorted : ∀ x, (l x).Pairwise (fun b c => place b < place c))
    (iff : ∀ a b, fails a b ↔ ∃ x, entryAt v a = some x ∧ ∃ k ∈ l x, place k = b ∧ p (a, x) k = true) :
    Finds n ((loadedOf v).findSome? (fun q => ((l q.2).find? (p q)).map (fun k => item n q.1 (place k)))) fails := by
  refine ⟨?_, fun a b found least => ?_⟩
  · rw [List.findSome?_eq_none_iff]
    constructor
    · intro none a b found
      obtain ⟨x, loaded, k, there, _, holds⟩ := (iff a b).mp found
      have nowhere := none (a, x) (mem_loadedOf.mpr loaded)
      rw [Option.map_eq_none_iff, List.find?_eq_none] at nowhere
      exact nowhere k there holds
    · intro none q member
      rw [Option.map_eq_none_iff, List.find?_eq_none]
      exact fun k there holds => none q.1 (place k) ((iff _ _).mpr ⟨q.2, mem_loadedOf.mp member, k, there, rfl, holds⟩)
  · obtain ⟨x, loaded, k, there, rfl, holds⟩ := (iff a b).mp found
    refine findSome?_first (loadedOf_sorted v) (mem_loadedOf (p := (a, x)).mpr loaded) ?_ fun q member before => ?_
    · rw [find?_first (sorted x) there holds, Option.map_some]
      intro c other before
      by_contra fails
      have := least a (place c) ((iff _ _).mpr ⟨x, loaded, c, other, rfl, by simpa using fails⟩)
      omega
    · rw [Option.map_eq_none_iff, List.find?_eq_none]
      intro c other fails
      have := least q.1 (place c) ((iff _ _).mpr ⟨q.2, mem_loadedOf.mp member, c, other, rfl, fails⟩)
      dsimp only at before
      omega

theorem checkZoneSectors_finds (s : State) : Finds 3 (checkZoneSectors s.configs) (ItemFails s 3) := by
  refine Finds.of_find? fun a b => ?_
  simp only [ItemFails, State.configs_zone, State.configs_sector, Option.map_eq_some_iff, Option.isSome_map]
  constructor
  · rintro ⟨x, found, none, rfl⟩
    exact ⟨rfl, x.cfg, ⟨x, found, rfl⟩, by simpa using none⟩
  · rintro ⟨rfl, c, ⟨x, found, rfl⟩, none⟩
    exact ⟨x, found, by simpa using none, rfl⟩

theorem checkSectorLanes_finds (s : State) : Finds 4 (checkSectorLanes s.configs) (ItemFails s 4) := by
  refine Finds.of_findSome? (l := SectorConfig.range) (place := id) (fun x => List.pairwise_lt_range' 1) fun a b => ?_
  simp only [ItemFails, State.configs_sector, State.configs_lane, Option.map_eq_some_iff, Option.isNone_map, id_eq,
    SectorConfig.range, List.mem_range'_1, Option.isNone_iff_eq_none]
  constructor
  · rintro ⟨x, found, low, high, vacant⟩
    exact ⟨x.cfg, ⟨x, found, rfl⟩, b, ⟨low, high⟩, rfl, vacant⟩
  · rintro ⟨c, ⟨x, found, rfl⟩, k, ⟨low, high⟩, rfl, vacant⟩
    exact ⟨x, found, low, high, vacant⟩

theorem classAt_eq (s : State) (i : Nat) : classAt s.configs i = (s.station i).map (fun y => y.cfg.cls) := by
  unfold classAt
  rw [State.configs_station, Option.map_map]
  rfl

theorem candidateOk_iff (s : State) (c : Candidate) :
    candidateOk s.configs c = true ↔ ∃ y k, s.station c.station = some y ∧ y.cfg.cls = .sweep k ∧ c.sweepLane < k := by
  unfold candidateOk
  rw [classAt_eq]
  cases s.station c.station with
  | none => simp
  | some y => cases kind : y.cfg.cls <;> simp [kind]

theorem pulseOk_iff (s : State) (c : PulseLink) :
    pulseOk s.configs c = true ↔ ∃ y k, s.station c.station = some y ∧ y.cfg.cls = .pulse k ∧ c.channel < k := by
  unfold pulseOk
  rw [classAt_eq]
  cases s.station c.station with
  | none => simp
  | some y => cases kind : y.cfg.cls <;> simp [kind]

theorem tripLinkOk_iff (s : State) (c : TripLink) :
    tripLinkOk s.configs c = true ↔ ∃ y k, s.station c.station = some y ∧ y.cfg.cls = .trip k ∧ c.wire < k := by
  unfold tripLinkOk
  rw [classAt_eq]
  cases s.station c.station with
  | none => simp
  | some y => cases kind : y.cfg.cls <;> simp [kind]

theorem not_eq_true_iff {b : Bool} {p : Prop} (h : b = true ↔ p) : (!b) = true ↔ ¬ p := by
  rw [← h]
  cases b <;> simp

theorem checkCandidates_finds (s : State) : Finds 5 (checkCandidates s.configs) (ItemFails s 5) := by
  refine Finds.of_findSome? (l := fun (x : LaneConfig) => x.cands.zipIdx) (place := Prod.snd) (fun x => zipIdx_sorted _) fun a b => ?_
  simp only [ItemFails, State.configs_lane, Option.map_eq_some_iff, not_eq_true_iff (candidateOk_iff s _)]
  constructor
  · rintro ⟨l, c, found, candidate, fails⟩
    exact ⟨l.cfg, ⟨l, found, rfl⟩, (c, b), List.mem_zipIdx_iff_getElem?.mpr candidate, rfl, fails⟩
  · rintro ⟨_, ⟨l, found, rfl⟩, ⟨c, k⟩, candidate, rfl, fails⟩
    exact ⟨l, c, found, List.mem_zipIdx_iff_getElem?.mp candidate, fails⟩

theorem checkPulseLinks_finds (s : State) : Finds 6 (checkPulseLinks s.configs) (ItemFails s 6) := by
  refine Finds.of_find? fun a b => ?_
  simp only [ItemFails, State.configs_sector, Option.map_eq_some_iff, Option.any_eq_true, not_eq_true_iff (pulseOk_iff s _)]
  constructor
  · rintro ⟨x, c, found, link, rfl, fails⟩
    exact ⟨rfl, x.cfg, ⟨x, found, rfl⟩, c, link, fails⟩
  · rintro ⟨rfl, _, ⟨x, found, rfl⟩, c, link, fails⟩
    exact ⟨x, c, found, link, rfl, fails⟩

theorem checkTripLinks_finds (s : State) : Finds 7 (checkTripLinks s.configs) (ItemFails s 7) := by
  refine Finds.of_findSome? (l := fun (x : SectorConfig) => x.trips.zipIdx) (place := Prod.snd) (fun x => zipIdx_sorted _) fun a b => ?_
  simp only [ItemFails, State.configs_sector, Option.map_eq_some_iff, not_eq_true_iff (tripLinkOk_iff s _)]
  constructor
  · rintro ⟨x, c, found, link, fails⟩
    exact ⟨x.cfg, ⟨x, found, rfl⟩, (c, b), List.mem_zipIdx_iff_getElem?.mpr link, rfl, fails⟩
  · rintro ⟨_, ⟨x, found, rfl⟩, ⟨c, k⟩, link, rfl, fails⟩
    exact ⟨x, c, found, List.mem_zipIdx_iff_getElem?.mp link, fails⟩

/-! ## The check -/

/-- The item of a number. -/
def checkOf (c : Configs) : Nat → Option (List Byte)
  | 1 => checkConsole c
  | 2 => checkZones c
  | 3 => checkZoneSectors c
  | 4 => checkSectorLanes c
  | 5 => checkCandidates c
  | 6 => checkPulseLinks c
  | 7 => checkTripLinks c
  | _ => none

theorem checkOf_finds (s : State) (n : Nat) : Finds n (checkOf s.configs n) (ItemFails s n) := by
  unfold checkOf
  split
  · exact checkConsole_finds s
  · exact checkZones_finds s
  · exact checkZoneSectors_finds s
  · exact checkSectorLanes_finds s
  · exact checkCandidates_finds s
  · exact checkPulseLinks_finds s
  · exact checkTripLinks_finds s
  · rename_i n1 n2 n3 n4 n5 n6 n7
    have never (a b : Nat) : ¬ ItemFails s n a b := by
      unfold ItemFails
      split <;> first | exact not_false | contradiction
    exact ⟨iff_of_true rfl never, fun a b fails => absurd fails (never a b)⟩

theorem findSome?_cons_or {α β : Type} (f : α → Option β) (a : α) (l : List α) :
    (a :: l).findSome? f = (f a).or (l.findSome? f) := by
  rw [List.findSome?_cons]
  cases f a <;> rfl

/-- The check takes its items in the order of their numbers. -/
theorem firstFailure_eq_findSome (c : Configs) : c.firstFailure = [1, 2, 3, 4, 5, 6, 7].findSome? (checkOf c) := by
  simp only [Configs.firstFailure, findSome?_cons_or, List.findSome?_nil, Option.or_none, checkOf]

theorem ItemFails.number {s : State} {n a b : Nat} (h : ItemFails s n a b) : n ∈ [1, 2, 3, 4, 5, 6, 7] := by
  unfold ItemFails at h
  split at h <;> simp_all

theorem firstFailure_eq_none_iff (s : State) : s.firstFailure = none ↔ ∀ n a b, ¬ ItemFails s n a b := by
  rw [State.firstFailure, firstFailure_eq_findSome, List.findSome?_eq_none_iff]
  constructor
  · exact fun none n a b fails => (checkOf_finds s n).none.mp (none n fails.number) a b fails
  · exact fun none n _ => (checkOf_finds s n).none.mpr (none n)

theorem firstFailure_eq_some {s : State} {n a b : Nat} (fails : ItemFails s n a b)
    (least : ∀ m i j, ItemFails s m i j → n < m ∨ (n = m ∧ (a < i ∨ (a = i ∧ b ≤ j)))) :
    s.firstFailure = some (item n a b) := by
  rw [State.firstFailure, firstFailure_eq_findSome]
  refine findSome?_first (r := (· < ·)) (by decide) fails.number ((checkOf_finds s n).first a b fails fun i j other => ?_) ?_
  · rcases least n i j other with lt | ⟨_, le⟩
    · exact absurd lt (lt_irrefl n)
    · exact le
  · intro m _ before
    refine (checkOf_finds s m).none.mpr fun i j other => ?_
    have := least m i j other
    omega

/-! ## What the check depends on -/

/-- What the check sees of a sector: its range and its links. -/
def SectorConfig.seen (c : SectorConfig) : Nat × Nat × Option PulseLink × List TripLink :=
  (c.first, c.count, c.pulse, c.trips)

/-- Two states whose tables the check sees as the same. -/
structure SameCheck (s t : State) : Prop where
  console : t.console = s.console
  stations : ∀ i, (t.station i).map (fun y => y.cfg.cls) = (s.station i).map (fun y => y.cfg.cls)
  lanes : ∀ i, (t.lane i).map Lane.cfg = (s.lane i).map Lane.cfg
  sectors : ∀ i, (t.sector i).map (fun x => x.cfg.seen) = (s.sector i).map (fun x => x.cfg.seen)
  zones : ∀ z, (t.zone z).map Zone.cfg = (s.zone z).map Zone.cfg

theorem SameCheck.refl (s : State) : SameCheck s s := ⟨rfl, fun _ => rfl, fun _ => rfl, fun _ => rfl, fun _ => rfl⟩

theorem SameCheck.symm {s t : State} (h : SameCheck s t) : SameCheck t s :=
  ⟨h.console.symm, fun i => (h.stations i).symm, fun i => (h.lanes i).symm, fun i => (h.sectors i).symm,
    fun z => (h.zones z).symm⟩

theorem SameCheck.trans {s t u : State} (h : SameCheck s t) (k : SameCheck t u) : SameCheck s u :=
  ⟨k.console.trans h.console, fun i => (k.stations i).trans (h.stations i), fun i => (k.lanes i).trans (h.lanes i),
    fun i => (k.sectors i).trans (h.sectors i), fun z => (k.zones z).trans (h.zones z)⟩

theorem exists_of_map_eq {α β : Type} {f : α → β} {a b : Option α} (same : a.map f = b.map f) {x : α} (found : b = some x) :
    ∃ y, a = some y ∧ f y = f x := by
  rw [found] at same
  exact Option.map_eq_some_iff.mp same

theorem eq_none_of_map_eq {α β : Type} {f : α → β} {a b : Option α} (same : a.map f = b.map f) (vacant : b = none) :
    a = none := by
  rw [vacant] at same
  exact Option.map_eq_none_iff.mp same

theorem SameCheck.item {s t : State} (h : SameCheck s t) {n a b : Nat} (fails : ItemFails s n a b) : ItemFails t n a b := by
  have back (i : Nat) {k : StationClass} (cls : ∃ y, t.station i = some y ∧ y.cfg.cls = k) :
      ∃ y, s.station i = some y ∧ y.cfg.cls = k := by
    obtain ⟨y, found, rfl⟩ := cls
    exact exists_of_map_eq (h.symm.stations i) found
  unfold ItemFails at fails ⊢
  split at fails
  · exact ⟨h.console.trans fails.1, fails.2⟩
  · exact ⟨fun z => eq_none_of_map_eq (h.zones z) (fails.1 z), fails.2⟩
  · obtain ⟨x, found, none, zero⟩ := fails
    obtain ⟨y, there, cfg⟩ := exists_of_map_eq (h.zones a) found
    exact ⟨y, there, fun i listed => eq_none_of_map_eq (h.sectors i) (none i (cfg ▸ listed)), zero⟩
  · obtain ⟨x, found, low, high, vacant⟩ := fails
    obtain ⟨y, there, seen⟩ := exists_of_map_eq (h.sectors a) found
    obtain ⟨first, count, _, _⟩ : y.cfg.first = x.cfg.first ∧ y.cfg.count = x.cfg.count ∧ _ ∧ _ := by
      simpa [SectorConfig.seen] using seen
    exact ⟨y, there, by omega, by omega, eq_none_of_map_eq (h.lanes b) vacant⟩
  · obtain ⟨l, c, found, candidate, bad⟩ := fails
    obtain ⟨m, there, cfg⟩ := exists_of_map_eq (h.lanes a) found
    refine ⟨m, c, there, cfg ▸ candidate, fun ⟨y, k, station, cls, lane⟩ => bad ?_⟩
    obtain ⟨z, was, same⟩ := back c.station ⟨y, station, cls⟩
    exact ⟨z, k, was, same, lane⟩
  · obtain ⟨x, c, found, link, zero, bad⟩ := fails
    obtain ⟨w, there, seen⟩ := exists_of_map_eq (h.sectors a) found
    obtain ⟨_, _, pulse, _⟩ : _ ∧ _ ∧ w.cfg.pulse = x.cfg.pulse ∧ _ := by simpa [SectorConfig.seen] using seen
    refine ⟨w, c, there, pulse ▸ link, zero, fun ⟨y, k, station, cls, channel⟩ => bad ?_⟩
    obtain ⟨z, was, same⟩ := back c.station ⟨y, station, cls⟩
    exact ⟨z, k, was, same, channel⟩
  · obtain ⟨x, c, found, link, bad⟩ := fails
    obtain ⟨w, there, seen⟩ := exists_of_map_eq (h.sectors a) found
    obtain ⟨_, _, _, trips⟩ : _ ∧ _ ∧ _ ∧ w.cfg.trips = x.cfg.trips := by simpa [SectorConfig.seen] using seen
    refine ⟨w, c, there, trips ▸ link, fun ⟨y, k, station, cls, wire⟩ => bad ?_⟩
    obtain ⟨z, was, same⟩ := back c.station ⟨y, station, cls⟩
    exact ⟨z, k, was, same, wire⟩
  · exact fails

theorem SameCheck.firstFailure {s t : State} (h : SameCheck s t) (passes : s.firstFailure = none) : t.firstFailure = none := by
  rw [firstFailure_eq_none_iff] at passes ⊢
  exact fun n a b fails => passes n a b (h.symm.item fails)

end Sys2Proof.Machine
end

section
/-! The consistency check in WATCHING under the acts (O53). -/

namespace Sys2Proof.Machine

/-- In WATCHING the tables pass the consistency check. -/
def State.Watched (s : State) : Prop :=
  s.mode = .watching → s.firstFailure = none

theorem State.Watched.of_same {s t : State} (h : s.Watched) (same : SameCheck s t) (mode : t.mode = s.mode) : t.Watched :=
  fun watching => same.firstFailure (h (mode ▸ watching))

/-- The tables the check reads stand. -/
theorem SameCheck.of_tables {s t : State} (console : t.console = s.console) (stations : t.stations = s.stations)
    (lanes : t.lanes = s.lanes) (sectors : t.sectors = s.sectors) (zones : ∀ z, (t.zone z).map Zone.cfg = (s.zone z).map Zone.cfg) :
    SameCheck s t :=
  ⟨console, fun i => by rw [State.station, stations]; rfl, fun i => by rw [State.lane, lanes]; rfl,
    fun i => by rw [State.sector, sectors]; rfl, zones⟩

theorem ZonesFollow.cfgs {s t : State} (h : ZonesFollow s t) (z : Nat) : (t.zone z).map Zone.cfg = (s.zone z).map Zone.cfg :=
  (h z).cfg

theorem OnlyZones.sameCheck {s t : State} (h : OnlyZones s t) (zones : ∀ z, (t.zone z).map Zone.cfg = (s.zone z).map Zone.cfg) :
    SameCheck s t :=
  SameCheck.of_tables (by rw [h]) (by rw [h]) (by rw [h]) (by rw [h]) zones

theorem OnlyZones.mode {s t : State} (h : OnlyZones s t) : t.mode = s.mode := by rw [h]

/-! ## Zones -/

theorem State.writeZone_cfgs {z : Nat} (place : z < 12) (c : ZoneConfig) (s : State) (j : Nat) :
    ((s.writeZone z c).zone j).map Zone.cfg = ((s.setZone z (some (Zone.fresh c))).zone j).map Zone.cfg := by
  rw [State.writeZone_zone place, setZone_zone]
  dsimp only
  by_cases here : z = j
  · subst here
    rw [if_pos (rfl : z = z), if_pos (⟨rfl, place⟩ : z = z ∧ z < 12)]
    exact congrArg some ((Zone.evaluated_follows _ _ _).cfg.trans (Zone.loaded_cfg c _))
  · rw [if_neg here, if_neg fun h => here h.1]

theorem ZoneAct.watched {s t : State} (h : ZoneAct s t) (watched : s.Watched) : t.Watched := by
  cases h.table with
  | follows zones => exact watched.of_same (h.only.sameCheck zones.cfgs) h.only.mode
  | written z c act place _ _ _ consistent =>
    intro watching
    have only : OnlyZones (s.setZone z (some (Zone.fresh c))) t := by rw [act]; exact s.writeZone_layer z c
    refine (only.sameCheck fun j => ?_).firstFailure (consistent (h.only.mode ▸ watching))
    rw [act]
    exact State.writeZone_cfgs place c s j
  | cleared z act consistent =>
    intro watching
    have passes := consistent (h.only.mode ▸ watching)
    rw [act]
    exact passes

/-! ## Sectors -/

theorem OnlySectors.sameCheck {s t : State} (h : OnlySectors s t)
    (sectors : ∀ i, (t.sector i).map (fun x => x.cfg.seen) = (s.sector i).map (fun x => x.cfg.seen))
    (zones : ZonesFollow s t) : SameCheck s t :=
  ⟨by rw [h], fun i => by rw [h]; rfl, fun i => by rw [h]; rfl, sectors, zones.cfgs⟩

theorem Sector.atReset_config (s : State) (c : SectorConfig) (t : Option TripRecord) : (Sector.atReset s c t).cfg = c := by
  unfold Sector.atReset
  split
  · rename_i parked
    cases c
    cases parked
    rfl
  · rfl

/-- A write that the check sees as no change, or a LOAD or CLEAR that passes it. -/
theorem SectorWrite.check {s : State} {i : Nat} {y : Option Sector} (h : SectorWrite s i y) :
    y.map (fun x => x.cfg.seen) = (s.sector i).map (fun x => x.cfg.seen) ∨
      (s.mode = .watching → (s.setSector i y).firstFailure = none) := by
  cases h with
  | changed x y found cfg _ _ => exact .inl (by rw [found, Option.map_some, Option.map_some, cfg])
  | parked x found => exact .inl (by rw [found]; rfl)
  | unparked x u found => exact .inl (by rw [found]; rfl)
  | loaded c u _ _ _ consistent => exact .inr consistent
  | cleared consistent => exact .inr consistent

theorem State.putSector_follows (i : Nat) (x : Option Sector) (s : State) : ZonesFollow (s.setSector i x) (s.putSector i x) := by
  unfold State.putSector
  split
  · exact ZonesFollow.refl _
  · exact State.sectorChange_follows i (s.setSector i x)

theorem mapSectors_seen {s t : State} {f : Sector → Sector} (places : ∀ i, t.sector i = (s.sector i).map f)
    (keep : ∀ x, (f x).cfg = x.cfg) (i : Nat) :
    (t.sector i).map (fun x => x.cfg.seen) = (s.sector i).map (fun x => x.cfg.seen) := by
  rw [places, Option.map_map]
  exact congrArg (fun g => (s.sector i).map g) (funext fun x => by rw [Function.comp_apply, keep])

theorem SectorAct.watched {s t : State} (h : SectorAct s t) (watched : s.Watched) : t.Watched := by
  have mode : t.mode = s.mode := by rw [h.only]
  cases h with
  | put i y write =>
    have check : SameCheck (s.setSector i y) (s.putSector i y) :=
      (s.putSector_zones i y).sameCheck (s.putSector_follows i y).cfgs
    intro watching
    rw [mode] at watching
    refine check.firstFailure ?_
    rcases write.check with seen | consistent
    · refine SameCheck.firstFailure (s := s) ⟨rfl, fun _ => rfl, fun _ => rfl, fun j => ?_, fun _ => rfl⟩ (watched watching)
      rw [setSector_sector]
      split
      · rename_i here
        exact here.1 ▸ seen
      · rfl
    · exact consistent watching
  | second =>
    have only : OnlySectors s { s with sectors := mapEntries Sector.second s.sectors } := rfl
    exact watched.of_same (only.sameCheck (mapSectors_seen (f := Sector.second) (fun i => entryAt_mapEntries _ _ _) fun _ => rfl)
      (ZonesFollow.refl s)) rfl
  | restart =>
    refine watched.of_same (s.restartSectors_layer.sameCheck ?_ SectorAct.restart.zones) mode
    refine mapSectors_seen (f := fun y => Sector.atReset s y.cfg y.trip) (fun i => ?_) fun x => Sector.atReset_config _ _ _
    rw [s.restartSectors_zones.sector, State.sectorsAfresh_sector]

/-! ## Lanes, stations and what stands over the tables -/

theorem LaneSettles.cfg {a b : Option Lane} (h : LaneSettles a b) : b.map Lane.cfg = a.map Lane.cfg := by
  rcases h with rfl | ⟨l, m, rfl, rfl, cfg, _⟩
  · rfl
  · exact congrArg some cfg

theorem LaneAct.watched {s t : State} (h : LaneAct s t) (watched : s.Watched) : t.Watched := by
  cases h with
  | settled v each =>
    exact watched.of_same ⟨rfl, fun _ => rfl, fun i => (each i).cfg, fun _ => rfl, fun _ => rfl⟩ rfl
  | loaded i c _ consistent => exact consistent
  | cleared i consistent => exact consistent

theorem SameCheck.of_stations {s t : State} (only : t = { s with stations := t.stations })
    (cls : ∀ i, (t.station i).map (fun y => y.cfg.cls) = (s.station i).map (fun y => y.cfg.cls)) : SameCheck s t :=
  ⟨by rw [only], cls, fun i => by rw [only]; rfl, fun i => by rw [only]; rfl, fun z => by rw [only]; rfl⟩

theorem StationWrite.check {s : State} {i : Nat} {y : Option Station} (h : StationWrite s i y) :
    y.map (fun x => x.cfg.cls) = (s.station i).map (fun x => x.cfg.cls) ∨
      (s.mode = .watching → (s.setStation i y).firstFailure = none) := by
  cases h with
  | counted x c found _ _ => exact .inl (by rw [found]; rfl)
  | forwarded x n found => exact .inl (by rw [found]; rfl)
  | accepted x seq missed now got found _ => exact .inl (by rw [found]; rfl)
  | silent x found _ => exact .inl (by rw [found]; rfl)
  | reparked x b found => exact .inl (by rw [found]; rfl)
  | loaded c _ _ consistent => exact .inr consistent
  | cleared consistent => exact .inr consistent

theorem mapStations_check {s : State} {f : Station → Station} (keep : ∀ x, (f x).cfg = x.cfg) :
    SameCheck s { s with stations := mapEntries f s.stations } := by
  refine SameCheck.of_stations rfl fun i => ?_
  show (entryAt (mapEntries f s.stations) i).map _ = _
  rw [entryAt_mapEntries, Option.map_map]
  exact congrArg (fun g => (s.station i).map g) (funext fun x => by rw [Function.comp_apply, keep])

theorem Station.zeroCounts_cfg (x : Station) : x.zeroCounts.cfg = x.cfg := by
  unfold Station.zeroCounts
  split <;> rfl

theorem StationAct.watched {s t : State} (h : StationAct s t) (watched : s.Watched) : t.Watched := by
  cases h with
  | put i y write =>
    rcases write.check with cls | consistent
    · refine watched.of_same (SameCheck.of_stations rfl fun j => ?_) rfl
      rw [setStation_station]
      split
      · rename_i here
        exact here.1 ▸ cls
      · rfl
    · exact consistent
  | second => exact watched.of_same (mapStations_check (f := Station.second) fun _ => rfl) rfl
  | restart => exact watched.of_same (mapStations_check (f := fun y => Station.afresh y.cfg y.counts) fun _ => rfl) rfl
  | zeroCounts => exact watched.of_same (mapStations_check Station.zeroCounts_cfg) rfl

theorem ItemFails.console {s : State} {l : List Byte} (loaded : l ≠ []) {n a b : Nat}
    (fails : ItemFails { s with console := l } n a b) : ItemFails s n a b := by
  unfold ItemFails at fails ⊢
  split at fails
  · exact absurd fails.1 loaded
  all_goals exact fails

theorem ControlAct.watched {s t : State} (h : ControlAct s t) (watched : s.Watched) : t.Watched := by
  cases h with
  | console l loaded =>
    intro watching
    have passes := (firstFailure_eq_none_iff s).mp (watched watching)
    exact (firstFailure_eq_none_iff _).mpr fun n a b fails => passes n a b (fails.console (loaded watching))
  | leaveBlank =>
    unfold State.leaveBlank
    split
    · exact fun watching => nomatch watching
    · exact watched
  | completeSave => unfold State.completeSave; split <;> exact watched
  | watch consistent => exact fun _ => consistent
  | commission => exact fun watching => nomatch watching
  | erase _ => exact fun watching => nomatch watching
  | time b _ => exact watched
  | cause c => exact watched
  | startSave src tag _ _ => exact watched

theorem Act.watched {s t : State} (h : Act s t) (watched : s.Watched) : t.Watched := by
  have same (u : State) (mode : u.mode = s.mode) (console : u.console = s.console) (stations : u.stations = s.stations)
      (lanes : u.lanes = s.lanes) (sectors : u.sectors = s.sectors) (zones : u.zones = s.zones) : u.Watched :=
    watched.of_same (SameCheck.of_tables console stations lanes sectors fun z => by rw [State.zone, zones]; rfl) mode
  cases h with
  | port h => exact same t (by rw [h.only]) (by rw [h.only]) (by rw [h.only]) (by rw [h.only]) (by rw [h.only]) (by rw [h.only])
  | notice h => exact same t (by rw [h.only]) (by rw [h.only]) (by rw [h.only]) (by rw [h.only]) (by rw [h.only]) (by rw [h.only])
  | output h => exact same t (by rw [h.only]) (by rw [h.only]) (by rw [h.only]) (by rw [h.only]) (by rw [h.only]) (by rw [h.only])
  | zone h => exact h.watched watched
  | sector h => exact h.watched watched
  | lane h => exact h.watched watched
  | station h => exact h.watched watched
  | control h => exact h.watched watched

/-! ## The image -/

theorem State.imageNow_consistent {s : State} (watched : s.Watched) : s.imageNow.consistent := by
  unfold State.imageNow
  split
  · trivial
  · exact fun watching => watched (of_decide_eq_true watching)

theorem mapEntries_section {α β : Type} {n : Nat} {f : β → α} {g : α → β} (back : ∀ c, f (g c) = c) (v : Vector (Option α) n) :
    mapEntries f (mapEntries g v) = v := by
  refine Vector.ext fun j hj => Option.some.inj ?_
  rw [← Vector.getElem?_eq_getElem, ← Vector.getElem?_eq_getElem, mapEntries, mapEntries, mapTable_getElem?,
    mapTable_getElem?, Option.map_map]
  have inverse : Option.map f ∘ Option.map g = id := by
    funext x
    cases x with
    | none => rfl
    | some c => exact congrArg some (back c)
  rw [inverse, Option.map_id]
  rfl

theorem State.restored_configs (m : Image) (v : State) : (v.restored m).configs = m.configs := by
  unfold State.configs Image.configs
  congr 1
  · exact mapEntries_section (g := fun c => Station.afresh c StationCounts.zero) (fun _ => rfl) m.stations
  · exact mapEntries_section (fun _ => rfl) m.lanes
  · exact mapEntries_section (fun _ => Sector.atReset_config _ _ _) m.sectors
  · exact mapEntries_section (fun _ => rfl) m.zones

theorem State.restored_watched {s v : State} {m : Image} (starts : StartsFrom s v) (stored : v.store = .image m)
    (stores : s.Stores Store.consistent) : (v.restored m).Watched := by
  intro watching
  have image := stores.1
  rw [← starts.store, stored] at image
  have mode : m.watching = true := by
    by_contra off
    have commissioning : (v.restored m).mode = .commissioning := if_neg off
    rw [commissioning] at watching
    cases watching
  rw [State.firstFailure, State.restored_configs]
  exact image mode

/-- Settles O53: whatever a table or the console list becomes in WATCHING has been checked, or looks the same to the check. -/
theorem everyStepKeepsWatchingConsistent : Obligations.EveryStepKeepsWatchingConsistent := by
  intro s t consistent step
  exact step_keeps_tables (P := fun u => u.Watched ∧ u.Stores Store.consistent) (fun _ _ h => h)
    (fun _ _ act h => ⟨act.watched h.1, act.stores trivial (State.imageNow_consistent h.1) h.2⟩)
    (fun m _ v starts _ stored h => ⟨State.restored_watched starts stored h.2, starts.stores trivial h.2⟩)
    (fun _ v starts h => ⟨fun watching => Mode.noConfusion watching, starts.stores trivial h.2⟩) consistent step

end Sys2Proof.Machine
end

section
/-! The evaluation of the zones, place by place, and the zones covered by their sectors and their force (O55). -/

namespace Sys2Proof.Machine

/-! ## Passes, index by index -/

theorem eachBelow_succ (n : Nat) (f : Nat → State → State) (s : State) :
    eachBelow (n + 1) f s = f n (eachBelow n f s) := by
  unfold eachBelow
  rw [List.range_succ, List.foldl_append]
  rfl

/-- What each index of a pass brings about, the whole pass brings about. -/
theorem eachBelow_induct {P : Nat → State → Prop} {f : Nat → State → State} {s : State}
    (step : ∀ i t, P i t → P (i + 1) (f i t)) (start : P 0 s) (n : Nat) : P n (eachBelow n f s) := by
  induction n with
  | zero => exact start
  | succ n ih => rw [eachBelow_succ]; exact step n _ ih

/-- A pass that changes each place of the Zone Table in its turn, as it stood before the pass. -/
theorem eachBelow_zone {f : Nat → State → State} {g : Zone → Zone} {s : State} (layer : ∀ z t, OnlyZones t (f z t))
    (here : ∀ z t, OnlyZones s t → (f z t).zone z = (t.zone z).map g)
    (other : ∀ z t j, z ≠ j → (f z t).zone j = t.zone j) (z : Nat) : (eachBelow 12 f s).zone z = (s.zone z).map g := by
  have pass := eachBelow_induct (P := fun n t => OnlyZones s t ∧ ∀ j, t.zone j = if j < n then (s.zone j).map g else s.zone j)
    (f := f) (s := s) (fun i t h => ⟨h.1.trans (layer i t), fun j => ?_⟩) ⟨OnlyZones.refl s, fun j => rfl⟩ 12
  · rw [pass.2 z]
    split
    · rfl
    · rename_i big
      rw [show s.zone z = none from entryAt_none_of_le _ _ (by omega)]
      rfl
  · by_cases same : i = j
    · subst same
      rw [here i t h.1, h.2, if_neg (by omega), if_pos (by omega)]
    · rw [other i t j same, h.2]
      have : j < i ↔ j < i + 1 := by omega
      simp only [this]

theorem contributing_congr {s t : State} (sectors : ∀ i, t.sector i = s.sector i) (listed : List Nat) :
    contributing t listed = contributing s listed := by
  unfold contributing
  simp only [sectors]

theorem OnlyZones.contributing {s t : State} (h : OnlyZones s t) (listed : List Nat) :
    contributing t listed = Machine.contributing s listed :=
  contributing_congr h.sector listed

/-- A zone evaluated in a state (R110). -/
def State.evaluated (s : State) (x : Zone) : Zone :=
  x.evaluated (contributing s x.cfg.sectors) (decide (s.mode = .watching))

theorem OnlyZones.evaluated {s t : State} (h : OnlyZones s t) : t.evaluated = s.evaluated := by
  funext x
  unfold State.evaluated
  rw [h.contributing, h.mode]

theorem State.evaluateZone_same (z : Nat) (s : State) : (s.evaluateZone z).zone z = (s.zone z).map s.evaluated := by
  cases found : s.zone z with
  | none => rw [State.evaluateZone_vacant found, found]; rfl
  | some x =>
    rw [State.evaluateZone_zone found, setZone_zone, if_pos ⟨rfl, lt_of_entryAt found⟩]
    rfl

theorem State.evaluateZone_other {z j : Nat} (s : State) (h : z ≠ j) : (s.evaluateZone z).zone j = s.zone j := by
  cases found : s.zone z with
  | none => rw [State.evaluateZone_vacant found]
  | some x => rw [State.evaluateZone_zone found, setZone_zone, if_neg fun same => h same.1]

/-- The evaluation of every zone (R120). -/
theorem State.evaluateZones_zone (s : State) (z : Nat) :
    (eachBelow 12 State.evaluateZone s).zone z = (s.zone z).map s.evaluated :=
  eachBelow_zone (fun z t => t.evaluateZone_layer z) (fun z t h => by rw [State.evaluateZone_same, h.evaluated])
    (fun _ t _ h => t.evaluateZone_other h) z

/-- A zone as the change of a sector leaves it (R82). -/
def State.afterChange (s : State) (i : Nat) (x : Zone) : Zone :=
  if i ∈ x.cfg.sectors then s.evaluated x else x

/-- A sector's change evaluates the zones that list it, and no other (R82). -/
theorem State.sectorChange_zone (i : Nat) (s : State) (z : Nat) :
    (s.sectorChange i).zone z = (s.zone z).map (s.afterChange i) := by
  refine eachBelow_zone (fun z t => ?_) (fun z t h => ?_) (fun z t j h => ?_) z
  · split
    · split
      · exact t.evaluateZone_layer z
      · exact OnlyZones.refl t
    · exact OnlyZones.refl t
  · split
    · rename_i x found
      unfold State.afterChange
      split
      · rename_i listed
        rw [State.evaluateZone_same, found, h.evaluated]
        simp [listed]
      · rename_i unlisted
        rw [found]
        simp [unlisted]
    · rename_i vacant
      rw [vacant]
      rfl
  · split
    · split
      · exact t.evaluateZone_other h
      · rfl
    · rfl

/-! ## Covered zones (R108, R110, R112) -/

/-- A zone's target is the higher of its sectors' stage and its force, its stage is at or above the target, and its hold
runs exactly while the target is below the stage. -/
def Zone.Covered (cs : List (Nat × Sector)) (x : Zone) : Prop :=
  x.target = (computedStage cs).max x.forceStage ∧ x.target.num ≤ x.stage.num ∧
    (x.hold.isSome = true ↔ x.target.num < x.stage.num)

theorem Zone.numberChange_covered {cs : List (Nat × Sector)} {x : Zone} (w : Bool) (h : x.Covered cs) :
    (x.numberChange w).Covered cs := by
  unfold Zone.numberChange
  split <;> exact h

/-- An evaluated zone is covered, in each of the four cases (R110). -/
theorem Zone.evaluated_covered (cs : List (Nat × Sector)) (w : Bool) (x : Zone) : (x.evaluated cs w).Covered cs := by
  unfold Zone.evaluated
  dsimp only
  split
  case isTrue raised =>
    exact Zone.numberChange_covered w ⟨rfl, le_refl _, by simp [Zone.recause]⟩
  case isFalse notRaised =>
    split
    case isTrue same =>
      exact ⟨rfl, same.le, by simp [Zone.recause, same]⟩
    case isFalse other =>
      have below : (x.look cs).target.num < (x.look cs).stage.num := by omega
      exact ⟨rfl, below.le, by simp [Zone.recause, below]⟩

theorem Zone.released_covered (cs : List (Nat × Sector)) (x : Zone) : (x.released cs).Covered cs :=
  ⟨rfl, le_refl _, by simp [Zone.released, Zone.recause, Zone.look]⟩

/-- Every loaded zone is covered. -/
def State.Covered (s : State) : Prop :=
  s.AllZones fun x => x.Covered (contributing s x.cfg.sectors)

theorem zonesCovered_iff {s : State} : ZonesCovered s ↔ s.Covered :=
  ⟨fun h z x found => h z (lt_of_entryAt found) x found, fun h z _ x found => h z x found⟩

/-- One place of the Zone Table written with a covered zone. -/
theorem State.Covered.put {s t : State} (h : s.Covered) {z : Nat} {y : Zone} (sectors : ∀ i, t.sector i = s.sector i)
    (zones : ∀ j, t.zone j = (s.setZone z (some y)).zone j) (covered : y.Covered (contributing s y.cfg.sectors)) :
    t.Covered := by
  intro j x found
  rw [contributing_congr sectors]
  rw [zones, setZone_zone] at found
  split at found
  · cases found
    exact covered
  · exact h j x found

theorem State.Covered.same {s t : State} (h : s.Covered) (sectors : ∀ i, t.sector i = s.sector i)
    (zones : ∀ j, t.zone j = s.zone j) : t.Covered := by
  intro j x found
  rw [contributing_congr sectors]
  exact h j x (zones j ▸ found)

theorem State.evaluated_covered (s : State) (x : Zone) : (s.evaluated x).Covered (contributing s (s.evaluated x).cfg.sectors) := by
  unfold State.evaluated
  rw [(Zone.evaluated_follows _ _ x).cfg]
  exact Zone.evaluated_covered _ _ x

theorem State.evaluateZone_covered {s : State} (h : s.Covered) (z : Nat) : (s.evaluateZone z).Covered := by
  cases found : s.zone z with
  | none => rw [State.evaluateZone_vacant found]; exact h
  | some x =>
    exact h.put (s.evaluateZone_layer z).sector (State.evaluateZone_zone found) (s.evaluated_covered x)

theorem State.holdEnds_covered {s : State} (h : s.Covered) (z : Nat) : (s.holdEnds z).Covered := by
  have layer := s.holdEnds_layer z
  unfold State.holdEnds at layer ⊢
  split
  · exact h
  · rename_i x found
    rw [found] at layer
    refine h.put layer.sector (State.stageChanged_zone _ _ _ _ s) (Zone.numberChange_covered _ ?_)
    have released := Zone.released_covered (contributing s x.cfg.sectors) x
    unfold Zone.numberChange
    split <;> exact released

theorem State.setForce_covered {s : State} (h : s.Covered) (z : Nat) (f : Option Force) : (s.setForce z f).Covered := by
  unfold State.setForce
  split
  · exact h
  · rename_i x found
    have written : (s.setZone z (some { x with force := f })).zone z = some { x with force := f } := by
      rw [setZone_zone, if_pos ⟨rfl, lt_of_entryAt found⟩]
    refine h.put (z := z) (State.evaluateZone_layer z _).sector (fun j => ?_) (s.evaluated_covered { x with force := f })
    rw [State.evaluateZone_zone written, setZone_zone, setZone_zone, setZone_zone]
    split <;> rfl

theorem State.refreshRunsOut_covered {s : State} (h : s.Covered) (z : Nat) : (s.refreshRunsOut z).Covered := by
  have layer := s.refreshRunsOut_layer z
  unfold State.refreshRunsOut at layer ⊢
  split
  · exact h
  · rename_i x found
    rw [found] at layer
    refine h.put (y := { x with refreshCd := some x.cfg.refresh }) layer.sector (State.refreshDue_zone z _) ?_
    exact h z x found

theorem State.announce_covered {s : State} (h : s.Covered) (z : Nat) : (s.announce z).Covered := by
  have layer := s.announce_layer z
  unfold State.announce at layer ⊢
  split
  · exact h
  · rename_i x found
    rw [found] at layer
    dsimp only at layer
    split
    · exact h
    · rename_i loud
      rw [if_neg loud] at layer
      refine h.put (y := { x with serial := x.serial + 1, refreshCd := x.loadRefresh }) layer.sector (State.alertRaised_zone z _) ?_
      exact h z x found

theorem ZoneMove.covered {x y : Zone} (h : ZoneMove x y) {cs : List (Nat × Sector)} (covered : x.Covered cs) : y.Covered cs := by
  unfold Zone.Covered
  rw [h.target, h.force, h.stage, h.hold]
  exact covered

theorem State.writeZone_covered {s : State} (h : s.Covered) {z : Nat} (place : z < 12) (c : ZoneConfig) :
    (s.writeZone z c).Covered := by
  intro j y found
  rw [(s.writeZone_layer z c).contributing]
  rw [State.writeZone_zone place] at found
  dsimp only at found
  split at found
  · cases found
    have followed := State.followZoneWrite_layer z c (s.setZone z (some (Zone.loaded c (s.zone z))))
    have cfg := ((Zone.evaluated_follows (contributing s c.sectors)
      (decide (((s.setZone z (some (Zone.loaded c (s.zone z)))).followZoneWrite z c).mode = .watching))
      (Zone.loaded c (s.zone z))).cfg).trans (Zone.loaded_cfg c _)
    have same : contributing ((s.setZone z (some (Zone.loaded c (s.zone z)))).followZoneWrite z c) c.sectors =
        contributing s c.sectors := followed.contributing c.sectors
    rw [same]
    show Zone.Covered (contributing s (Zone.evaluated _ _ _).cfg.sectors) _
    rw [cfg]
    exact Zone.evaluated_covered _ _ _
  · exact h j y found

theorem State.clearZoneEntry_covered {s : State} (h : s.Covered) (z : Nat) : (s.clearZoneEntry z).Covered := by
  intro j x found
  rw [State.clearZoneEntry_zone] at found
  split at found
  · cases found
  · exact h j x found

theorem ZoneAct.covered {s t : State} (act : ZoneAct s t) (h : s.Covered) : t.Covered := by
  cases act with
  | evaluate z => exact State.evaluateZone_covered h z
  | holdEnds z => exact State.holdEnds_covered h z
  | force z f => exact State.setForce_covered h z f
  | refresh z _ => exact State.refreshRunsOut_covered h z
  | announce z => exact State.announce_covered h z
  | records z f _ => exact h
  | sent z a => exact h
  | acks _ _ _ _ => exact h
  | second => exact h
  | moved f move =>
    intro z y found
    replace found : entryAt (mapEntries f s.zones) z = some y := found
    rw [entryAt_mapEntries] at found
    obtain ⟨x, loaded, rfl⟩ := Option.map_eq_some_iff.mp found
    rw [(move x).cfg]
    exact (move x).covered (h z x loaded)
  | written z c place _ _ _ _ => exact State.writeZone_covered h place c
  | cleared z _ => exact State.clearZoneEntry_covered h z
  | ordered old => exact h

/-! ## What the zones see of the sectors -/

theorem Stage.max_quiet (m : Stage) : m.max .quiet = m := by
  cases m <;> rfl

theorem Sector.Staged.parked_stage {x : Sector} (h : x.Staged) (parked : x.cfg.parked = true) : x.stage = .quiet := by
  rw [h.2.2 parked]
  rfl

/-- The computed stage of a zone as the zones see the sectors: a VACANT or parked one is QUIET (R68, R85). -/
theorem computedStage_contributing {s : State} (staged : s.AllSectors Sector.Staged) (listed : List Nat) :
    computedStage (contributing s listed) =
      ((List.range 8).filter (· ∈ listed)).foldl (fun m i => m.max (sectorView (s.sector i)).1) .quiet := by
  unfold computedStage contributing
  generalize Stage.quiet = m
  generalize List.range 8 = l
  induction l generalizing m with
  | nil => rfl
  | cons i l ih =>
    rw [List.filterMap_cons, List.filter_cons]
    cases found : s.sector i with
    | none =>
      dsimp only
      split
      · rw [List.foldl_cons, found]
        show _ = List.foldl _ (m.max .quiet) _
        rw [Stage.max_quiet]
        exact ih m
      · exact ih m
    | some y =>
      dsimp only
      by_cases here : i ∈ listed
      · rw [if_pos (decide_eq_true here), List.foldl_cons, found]
        cases parked : y.cfg.parked with
        | true =>
          rw [if_neg (by simp)]
          show _ = List.foldl _ (m.max y.stage) _
          rw [(staged i y found).parked_stage parked, Stage.max_quiet]
          exact ih m
        | false =>
          rw [if_pos ⟨here, rfl⟩]
          exact ih (m.max y.stage)
      · rw [if_neg (by simp [here]), if_neg (by simp [here])]
        exact ih m

/-- The zones that list no sector whose view has changed compute the same stage. -/
theorem computedStage_eq_of_views {s t : State} (before : s.AllSectors Sector.Staged) (after : t.AllSectors Sector.Staged)
    {listed : List Nat} (views : ∀ i ∈ listed, sectorView (t.sector i) = sectorView (s.sector i)) :
    computedStage (contributing t listed) = computedStage (contributing s listed) := by
  rw [computedStage_contributing before, computedStage_contributing after]
  refine List.foldl_ext _ _ _ fun m i member => ?_
  have here : i ∈ listed := of_decide_eq_true (List.mem_filter.mp member).2
  rw [views i here]

/-- A zone is covered, or lists a sector whose change it has yet to be handed. -/
def State.Owing (s : State) (due : Nat → Prop) : Prop :=
  s.AllZones fun x => x.Covered (contributing s x.cfg.sectors) ∨ ∃ i ∈ x.cfg.sectors, due i

theorem State.Covered.owing {s t : State} (h : s.Covered) (before : s.AllSectors Sector.Staged)
    (after : t.AllSectors Sector.Staged) (zones : ∀ z, t.zone z = s.zone z) :
    t.Owing fun i => sectorView (t.sector i) ≠ sectorView (s.sector i) := by
  intro z x found
  by_cases changed : ∃ i ∈ x.cfg.sectors, sectorView (t.sector i) ≠ sectorView (s.sector i)
  · exact .inr changed
  · left
    have views : ∀ i ∈ x.cfg.sectors, sectorView (t.sector i) = sectorView (s.sector i) := by
      intro i listed
      by_contra other
      exact changed ⟨i, listed, other⟩
    have covered := h z x (zones z ▸ found)
    unfold Zone.Covered at covered ⊢
    rwa [computedStage_eq_of_views before after views]

/-- A sector's change handed on settles what its zones owed it. -/
theorem State.Owing.sectorChange {s : State} {due : Nat → Prop} (h : s.Owing due) (i : Nat) :
    (s.sectorChange i).Owing fun j => due j ∧ j ≠ i := by
  intro z y found
  rw [State.sectorChange_zone] at found
  obtain ⟨x, was, rfl⟩ := Option.map_eq_some_iff.mp found
  rw [(s.sectorChange_layer i).contributing]
  unfold State.afterChange
  split
  · exact .inl (s.evaluated_covered x)
  · rename_i unlisted
    refine (h z x was).imp id fun ⟨j, listed, owes⟩ => ⟨j, listed, owes, fun same => unlisted (same ▸ listed)⟩

theorem State.Owing.covered {s : State} {due : Nat → Prop} (h : s.Owing due) (none : ∀ i, ¬ due i) : s.Covered :=
  fun z x found => (h z x found).resolve_right fun ⟨i, _, owes⟩ => none i owes

theorem State.Owing.mono {s : State} {due due' : Nat → Prop} (h : s.Owing due) (weaker : ∀ i, due i → due' i) : s.Owing due' :=
  fun z x found => (h z x found).imp id fun ⟨i, listed, owes⟩ => ⟨i, listed, weaker i owes⟩

/-! ## The sectors' acts -/

theorem State.putSector_covered {s : State} (h : s.Covered) (before : s.AllSectors Sector.Staged) {i : Nat} {x : Option Sector}
    (after : (s.setSector i x).AllSectors Sector.Staged) : (s.putSector i x).Covered := by
  have owing := h.owing before after fun _ => rfl
  have others (j : Nat) (other : j ≠ i) : sectorView ((s.setSector i x).sector j) = sectorView (s.sector j) := by
    rw [setSector_sector, if_neg fun same => other same.1.symm]
  unfold State.putSector
  split
  · rename_i view
    refine owing.covered fun j changed => changed ?_
    by_cases here : j = i
    · subst here
      rw [setSector_sector]
      split
      · exact view
      · rfl
    · exact others j here
  · exact (State.Owing.sectorChange owing i).covered fun j changed => changed.1 (others j changed.2)

theorem State.sectorsAfresh_staged (s : State) : s.sectorsAfresh.AllSectors Sector.Staged := by
  intro i x found
  rw [State.sectorsAfresh_sector] at found
  obtain ⟨y, _, rfl⟩ := Option.map_eq_some_iff.mp found
  exact Sector.atReset_staged _ _ _

theorem State.restartSectors_covered {s : State} (h : s.Covered) (before : s.AllSectors Sector.Staged) :
    s.restartSectors.Covered := by
  have start := h.owing (t := s.sectorsAfresh) before s.sectorsAfresh_staged fun _ => rfl
  have pass := eachBelow_induct (P := fun n u => u.Owing fun i =>
      sectorView (s.sectorsAfresh.sector i) ≠ sectorView (s.sector i) ∧ n ≤ i)
    (f := fun i u => if sectorView (s.sector i) = sectorView (s.sectorsAfresh.sector i) then u else u.sectorChange i)
    (s := s.sectorsAfresh) (fun i u owing => ?_) (start.mono fun i changed => ⟨changed, Nat.zero_le i⟩) 8
  · refine State.Owing.covered pass fun i changed => changed.1 ?_
    rw [State.sector, State.sector, entryAt_none_of_le _ _ changed.2, entryAt_none_of_le _ _ changed.2]
  · split
    · rename_i same
      refine owing.mono fun j ⟨changed, later⟩ => ⟨changed, ?_⟩
      have : j ≠ i := fun here => changed (here ▸ same.symm)
      omega
    · exact (owing.sectorChange i).mono fun j ⟨⟨changed, later⟩, other⟩ => ⟨changed, by omega⟩

theorem SectorAct.covered {s t : State} (act : SectorAct s t) (before : s.AllSectors Sector.Staged)
    (after : t.AllSectors Sector.Staged) (h : s.Covered) : t.Covered := by
  cases act with
  | put i x _ =>
    refine State.putSector_covered h before fun j y found => after j y ?_
    rw [(s.putSector_zones i x).sector]
    exact found
  | second =>
    refine (h.owing before after fun _ => rfl).covered fun i changed => changed ?_
    show sectorView (entryAt (mapEntries Sector.second s.sectors) i) = sectorView (s.sector i)
    rw [entryAt_mapEntries]
    show sectorView ((s.sector i).map Sector.second) = _
    cases s.sector i <;> rfl
  | restart => exact State.restartSectors_covered h before

theorem Act.covered {s t : State} (act : Act s t) (before : s.AllSectors Sector.Staged) (h : s.Covered) : t.Covered := by
  have after := act.sectorsStaged before
  have same (sectors : t.sectors = s.sectors) (zones : t.zones = s.zones) : t.Covered :=
    h.same (fun i => by rw [State.sector, sectors]; rfl) fun z => by rw [State.zone, zones]; rfl
  cases act with
  | port k => exact same (by rw [k.only]) (by rw [k.only])
  | notice k => exact same (by rw [k.only]) (by rw [k.only])
  | zone k => exact k.covered h
  | sector k => exact k.covered before after h
  | lane k => cases k <;> exact h
  | station k => exact same (by rw [k.only]) (by rw [k.only])
  | output k => exact same (by rw [k.only]) (by rw [k.only])
  | control k =>
    rcases k.tables with ⟨_, _, sectors, zones, _, _⟩ | ⟨_, rfl⟩
    · exact same sectors zones
    · intro z x found
      rw [State.eraseAll_zone] at found
      cases found

theorem State.evaluateZones_covered (s : State) : (eachBelow 12 State.evaluateZone s).Covered := by
  intro z y found
  have layer : OnlyZones s (eachBelow 12 State.evaluateZone s) := OnlyZones.pass (fun z t => t.evaluateZone_layer z) s
  rw [layer.contributing]
  rw [State.evaluateZones_zone] at found
  obtain ⟨x, _, rfl⟩ := Option.map_eq_some_iff.mp found
  exact s.evaluated_covered x

theorem State.raiseClock_zones (power : Bool) (s : State) : OnlyZones s (s.raiseClock power) := by
  unfold State.raiseClock
  split
  · exact (s.raise_layer .clockUnset).zones
  · exact OnlyZones.refl s

theorem State.restored_staged (m : Image) (v : State) : (v.restored m).AllSectors Sector.Staged := by
  intro i x found
  rw [State.restored_sector] at found
  obtain ⟨c, _, rfl⟩ := Option.map_eq_some_iff.mp found
  exact Sector.atReset_staged _ _ _

/-- A start-up leaves its sectors staged and its zones covered: its last act on the tables evaluates every zone. -/
theorem State.startTables_covered (power : Bool) (v : State) :
    (v.startPorts.startTables power).AllSectors Sector.Staged ∧ (v.startPorts.startTables power).Covered := by
  rcases State.startTables_cases power v with ⟨m, _, _, eq⟩ | eq
  · rw [eq]
    refine ⟨fun i x found => ?_, State.evaluateZones_covered _⟩
    rw [(OnlyZones.pass (fun z t => t.evaluateZone_layer z) _).sector, (State.raiseClock_zones power _).sector] at found
    exact v.restored_staged m i x found
  · have layer : OnlyZones v.startPorts.startEmpty ((v.startPorts.startEmpty.raiseClock power).raise .storeFault) :=
      (State.raiseClock_zones power _).trans (State.raise_layer _ _).zones
    rw [eq]
    constructor
    · intro i x found
      rw [layer.sector, State.startEmpty_sector] at found
      cases found
    · intro z x found
      have vacant : ((v.startPorts.startEmpty.raiseClock power).raise .storeFault).zone z = none := by
        unfold State.raiseClock
        split <;> exact State.startEmpty_zone z v.startPorts
      rw [vacant] at found
      cases found

/-- Settles O55: a zone is evaluated whenever a sector it lists, its force, its hold or its configuration changes. -/
theorem everyStepKeepsZonesCovered : Obligations.EveryStepKeepsZonesCovered := by
  intro s t staged covered step
  rw [sectorsStaged_iff] at staged
  rw [zonesCovered_iff] at covered ⊢
  exact (step_keeps (P := fun u => u.AllSectors Sector.Staged ∧ u.Covered) (fun _ _ h => h)
    (fun power _ v _ _ => State.startTables_covered power v)
    (fun _ _ act h => ⟨act.sectorsStaged h.1, act.covered h.1 h.2⟩) ⟨staged, covered⟩ step).2

end Sys2Proof.Machine
end

section
/-! The periods under the acts (part of O50). -/

namespace Sys2Proof.Machine

/-! ## Stations and sectors -/

theorem StationWrite.limit {s : State} {i : Nat} {y : Station} (h : StationWrite s i (some y))
    (all : ∀ x, s.station i = some x → 1 ≤ x.cfg.limit) : 1 ≤ y.cfg.limit := by
  cases h with
  | counted x c found _ _ => exact all x found
  | forwarded x n found => exact all x found
  | accepted x seq missed now got found _ => exact all x found
  | silent x found _ => exact all x found
  | reparked x b found => exact all x found
  | loaded c periods _ _ => exact periods

theorem Act.stationPeriods {s t : State} (h : Act s t) :
    s.AllStations (fun x => 1 ≤ x.cfg.limit) → t.AllStations (fun x => 1 ≤ x.cfg.limit) :=
  h.allStations (fun _ _ w all => w.limit all) (fun _ => id) (fun _ => id) (fun x h => by rwa [Station.zeroCounts_cfg])

/-- The periods of a sector's countdowns are at least 1 (R66). -/
def SectorConfig.Periods (c : SectorConfig) : Prop :=
  1 ≤ c.blindDelay ∧ 1 ≤ c.binLength

theorem SectorWrite.periods {s : State} {i : Nat} {y : Sector} (h : SectorWrite s i (some y))
    (all : ∀ x, s.sector i = some x → x.cfg.Periods) : y.cfg.Periods := by
  cases h with
  | changed x y found cfg _ _ => rw [cfg]; exact all x found
  | parked x found => exact all x found
  | unparked x u found => exact all x found
  | loaded c u _ periods _ _ => exact periods

theorem Act.sectorPeriods {s t : State} (h : Act s t) :
    s.AllSectors (fun x => x.cfg.Periods) → t.AllSectors (fun x => x.cfg.Periods) :=
  h.allSectors (fun _ _ w all => w.periods all) (fun _ => id) (fun x h => by rwa [Sector.atReset_config])

/-! ## Zones -/

/-- The periods of a zone's countdowns are at least 1, and its refresh countdown runs only over a refresh that is (R106,
R116). -/
def Zone.Periods (x : Zone) : Prop :=
  1 ≤ x.cfg.holdDown ∧ 1 ≤ x.cfg.repeatInterval ∧ (x.refreshCd ≠ none → 1 ≤ x.cfg.refresh)

theorem ZoneFollows.periods {x y : Zone} (h : ZoneFollows x y) (periods : x.Periods) : y.Periods := by
  obtain ⟨hold, again, refresh⟩ := periods
  unfold Zone.Periods
  rw [h.cfg]
  exact ⟨hold, again, fun runs => (h.refresh runs).elim refresh id⟩

theorem ZonesFollow.periods {s t : State} (h : ZonesFollow s t) (all : s.AllZones Zone.Periods) : t.AllZones Zone.Periods := by
  intro z y found
  obtain ⟨x, was, follows⟩ := PlaceFollows.of_some (found ▸ h z)
  exact follows.periods (all z x was)

theorem Act.zonePeriods {s t : State} (h : Act s t) (all : s.AllZones Zone.Periods) : t.AllZones Zone.Periods := by
  rcases h.zones_cases with table | ⟨_, rfl⟩
  · cases table with
    | follows h => exact h.periods all
    | written z c act place _ _ periods _ =>
      intro j y found
      rw [act, State.writeZone_zone place] at found
      dsimp only at found
      split at found
      · cases found
        generalize ((s.setZone z (some (Zone.loaded c (s.zone z)))).followZoneWrite z c) = t
        generalize written : Zone.evaluated _ _ (Zone.loaded c (s.zone z)) = y
        have cfg : y.cfg = c := by
          rw [← written]
          exact (Zone.evaluated_follows _ _ _).cfg.trans (Zone.loaded_cfg c _)
        refine ⟨cfg ▸ periods.1, cfg ▸ periods.2, fun runs => ?_⟩
        dsimp only at runs
        split at runs
        · exact Zone.loadRefresh_pos runs
        · exact absurd rfl runs
      · exact all j y found
    | cleared z act _ =>
      intro j y found
      rw [act, State.clearZoneEntry_zone] at found
      split at found
      · cases found
      · exact all j y found
  · intro z x found
    rw [State.eraseAll_zone] at found
    cases found

/-! ## Outputs -/

/-- Every output. -/
def State.AllOutputs (P : Output → Prop) (s : State) : Prop :=
  ∀ (i : Nat) (o : Output), s.outputs[i]? = some o → P o

theorem allOutputs_iff {P : Output → Prop} {s : State} :
    (∀ k, 1 ≤ k → k ≤ 6 → ∀ o ∈ s.output k, P o) ↔ s.AllOutputs P := by
  constructor
  · intro h i o found
    obtain ⟨small, _⟩ := Vector.getElem?_eq_some_iff.mp found
    exact h (i + 1) (by omega) (by omega) o (by simpa [State.output] using found)
  · intro h k low _ o found
    rw [Option.mem_def, State.output, if_neg (by omega)] at found
    exact h (k - 1) o found

/-- Both the written and the working cadences of an output run (R133). -/
def Output.Periods (o : Output) : Prop :=
  o.cfg.written.run ∧ o.working.run

theorem OutputMove.periods {o p : Output} (h : OutputMove o p) (periods : o.Periods) : p.Periods := by
  obtain ⟨cfg, working⟩ := h
  unfold Output.Periods
  rw [cfg]
  refine ⟨periods.1, ?_⟩
  rcases working with same | written
  · rw [same]; exact periods.2
  · rw [written]; exact periods.1

theorem Output.write_periods {s : State} {c : OutputConfig} {o : Output} (h : o.Periods) (run : c.written.run) :
    (o.write s c).Periods := by
  unfold Output.write
  split
  · exact ⟨run, h.2⟩
  · dsimp only
    split
    · exact ⟨run, run⟩
    · exact ⟨run, h.2⟩

theorem setOutput_all {P : Output → Prop} {k : Nat} {o : Output} {s : State} (h : s.AllOutputs P) (new : P o) :
    (s.setOutput k o).AllOutputs P := by
  intro i p found
  rw [State.setOutput_outputs, Vector.getElem?_setIfInBounds] at found
  split at found
  · split at found
    · cases found
      exact new
    · cases found
  · exact h i p found

theorem mapTable_all {α β : Type} {n : Nat} {P : β → Prop} {f : α → β} {v : Vector α n}
    (h : ∀ (i : Nat) (x : α), v[i]? = some x → P (f x)) (i : Nat) (y : β) (found : (mapTable f v)[i]? = some y) : P y := by
  rw [mapTable_getElem?] at found
  obtain ⟨p, there, rfl⟩ := Option.map_eq_some_iff.mp found
  exact h i p there

theorem State.output_all {P : Output → Prop} {s : State} (h : s.AllOutputs P) {k : Nat} {o : Output}
    (found : s.output k = some o) : P o := by
  have range := State.output_range found
  exact allOutputs_iff.mpr h k range.1 range.2 o found

theorem OutputConfig.unset_run : OutputConfig.unset.written.run := by
  intro d member
  simp only [OutputConfig.unset, List.mem_cons, List.not_mem_nil, or_false, or_self] at member
  rw [member]
  decide

theorem Output.idle_periods {c : OutputConfig} (run : c.written.run) : (Output.idle c).Periods := ⟨run, run⟩

theorem State.emptyTables_outputs (s : State) : s.emptyTables.AllOutputs Output.Periods := by
  intro i o found
  replace found : (Vector.replicate 6 (Output.idle OutputConfig.unset))[i]? = some o := found
  rw [Vector.getElem?_replicate] at found
  split at found
  · cases found
    exact Output.idle_periods OutputConfig.unset_run
  · cases found

theorem OutputAct.periods {s t : State} (act : OutputAct s t) (h : s.AllOutputs Output.Periods) :
    t.AllOutputs Output.Periods := by
  cases act with
  | written k c run =>
    unfold State.writeOutput
    split
    · exact h
    · rename_i o found
      exact setOutput_all h (Output.write_periods (State.output_all h found) run)
  | each f move => exact mapTable_all fun i o there => (move o).periods (h i o there)
  | one k f move =>
    unfold State.updOutput
    split
    · exact h
    · rename_i o found
      exact setOutput_all h ((move o).periods (State.output_all h found))

theorem Act.outputs_cases {s t : State} (h : Act s t) :
    t.outputs = s.outputs ∨ OutputAct s t ∨ (s.mode ≠ .watching ∧ t = s.eraseAll) := by
  rcases h.cases_layer with port | output | control | tables
  · exact .inl (by rw [port.only])
  · exact .inr (.inl output)
  · exact control.tables.imp (fun same => same.2.2.2.2.1) .inr
  · exact .inl (by rw [tables])

theorem Act.outputPeriods {s t : State} (h : Act s t) (all : s.AllOutputs Output.Periods) : t.AllOutputs Output.Periods := by
  rcases h.outputs_cases with same | act | ⟨_, rfl⟩
  · unfold State.AllOutputs
    rw [same]
    exact all
  · exact act.periods all
  · exact s.emptyTables_outputs

/-! ## The part and its store -/

/-- Every period of the tables and the outputs, table by table. -/
def State.Periods (s : State) : Prop :=
  s.AllStations (fun x => 1 ≤ x.cfg.limit) ∧ s.AllSectors (fun x => x.cfg.Periods) ∧ s.AllZones Zone.Periods ∧
    s.AllOutputs Output.Periods

theorem periodsRun_iff {s : State} : PeriodsRun s ↔ s.Periods ∧ s.Stores Store.periodsRun := by
  unfold PeriodsRun State.Periods State.Stores
  rw [show (∀ k, 1 ≤ k → k ≤ 6 → ∀ o ∈ s.output k, o.cfg.written.run ∧ o.working.run) ↔ s.AllOutputs Output.Periods from
    allOutputs_iff]
  constructor
  · rintro ⟨stations, sectors, zones, outputs, stores⟩
    exact ⟨⟨fun i x found => stations i (lt_of_entryAt found) x found, fun i x found => sectors i (lt_of_entryAt found) x found,
      fun z x found => zones z (lt_of_entryAt found) x found, outputs⟩, stores⟩
  · rintro ⟨⟨stations, sectors, zones, outputs⟩, stores⟩
    exact ⟨fun i _ x found => stations i x found, fun i _ x found => sectors i x found, fun z _ x found => zones z x found,
      outputs, stores⟩

theorem Act.periods {s t : State} (h : Act s t) (periods : s.Periods) : t.Periods := by
  obtain ⟨stations, sectors, zones, outputs⟩ := periods
  exact ⟨h.stationPeriods stations, h.sectorPeriods sectors, h.zonePeriods zones, h.outputPeriods outputs⟩

theorem Acts.periods {s t : State} (h : Acts s t) : s.Periods → t.Periods :=
  h.keeps fun _ _ act => act.periods

theorem mem_mapTable {α β : Type} {n : Nat} {f : α → β} {v : Vector α n} {y : β} (h : y ∈ mapTable f v) :
    ∃ (i : Nat) (x : α), v[i]? = some x ∧ f x = y := by
  obtain ⟨i, small, here⟩ := Vector.mem_iff_getElem.mp h
  have found := Vector.getElem?_eq_some_iff.mpr ⟨small, here⟩
  rw [mapTable_getElem?] at found
  obtain ⟨x, there, rfl⟩ := Option.map_eq_some_iff.mp found
  exact ⟨i, x, there, rfl⟩

theorem State.imageNow_periods {s : State} (h : s.Periods) : s.imageNow.periodsRun := by
  obtain ⟨stations, sectors, zones, outputs⟩ := h
  unfold State.imageNow
  split
  · trivial
  · refine ⟨fun i _ c found => ?_, fun i _ c found => ?_, fun z _ c found => ?_, fun c member => ?_⟩
    · rw [entryAt_mapEntries] at found
      obtain ⟨x, loaded, rfl⟩ := Option.map_eq_some_iff.mp found
      exact stations i x loaded
    · rw [entryAt_mapEntries] at found
      obtain ⟨x, loaded, rfl⟩ := Option.map_eq_some_iff.mp found
      exact sectors i x loaded
    · rw [entryAt_mapEntries] at found
      obtain ⟨x, loaded, rfl⟩ := Option.map_eq_some_iff.mp found
      exact ⟨(zones z x loaded).1, (zones z x loaded).2.1⟩
    · obtain ⟨i, o, there, rfl⟩ := mem_mapTable member
      exact (outputs i o there).1

theorem State.restored_periods {s v : State} {m : Image} (starts : StartsFrom s v) (stored : v.store = .image m)
    (stores : s.Stores Store.periodsRun) : (v.restored m).Periods := by
  have image := stores.1
  rw [← starts.store, stored] at image
  obtain ⟨stations, sectors, zones, outputs⟩ := image
  refine ⟨fun i x found => ?_, fun i x found => ?_, fun z x found => ?_, ?_⟩
  · rw [State.restored_station] at found
    obtain ⟨c, loaded, rfl⟩ := Option.map_eq_some_iff.mp found
    exact stations i (lt_of_entryAt loaded) c loaded
  · rw [State.restored_sector] at found
    obtain ⟨c, loaded, rfl⟩ := Option.map_eq_some_iff.mp found
    rw [Sector.atReset_config]
    exact sectors i (lt_of_entryAt loaded) c loaded
  · rw [State.restored_zone] at found
    obtain ⟨c, loaded, rfl⟩ := Option.map_eq_some_iff.mp found
    have periods := zones z (lt_of_entryAt loaded) c loaded
    exact ⟨periods.1, periods.2, fun runs => absurd rfl runs⟩
  · intro i o found
    exact mapTable_all (fun i c there => Output.idle_periods (outputs c (Vector.mem_of_getElem? there))) i o found

theorem State.startEmpty_periods (v : State) : v.startPorts.startEmpty.Periods := by
  refine ⟨fun i x found => ?_, fun i x found => ?_, fun z x found => ?_, v.startPorts.emptyTables_outputs⟩
  · rw [State.startEmpty_station] at found; cases found
  · rw [State.startEmpty_sector] at found; cases found
  · rw [State.startEmpty_zone] at found; cases found

theorem periodsRun_step {s t : State} (periods : PeriodsRun s) (step : Machine.step s = .next t) : PeriodsRun t := by
  rw [periodsRun_iff] at periods ⊢
  exact step_keeps_tables (P := fun u => u.Periods ∧ u.Stores Store.periodsRun) (fun _ _ h => h)
    (fun _ _ act h => ⟨act.periods h.1, act.stores trivial (State.imageNow_periods h.1) h.2⟩)
    (fun m _ v starts _ stored h => ⟨State.restored_periods starts stored h.2, starts.stores trivial h.2⟩)
    (fun _ v starts h => ⟨v.startEmpty_periods, starts.stores trivial h.2⟩) periods step

end Sys2Proof.Machine
end

section
/-! Settling settles (O50): a running out is taken once, and taking it brings no other to its moment. -/

namespace Sys2Proof.Machine

/-! ## What has run out -/

/-- A countdown stands at 0, or a cadence phase at its moment, whether or not another must be taken first. -/
def State.Out (s : State) : RunningOut → Prop
  | .onTime k => ∃ o, s.output k = some o ∧ o.onTimeDue = true
  | .cycle k => ∃ o, s.output k = some o ∧ o.cycleDue = true
  | .silence i => ∃ x, s.station i = some x ∧ x.silence = some 0
  | .blind i => ∃ x, s.sector i = some x ∧ x.cfg.parked = false ∧ x.blindCd = some 0
  | .bin i => ∃ x, s.sector i = some x ∧ x.cfg.parked = false ∧ x.binCd = some 0
  | .again z a => ∃ e ∈ s.dispatch.queue, e.zone = z ∧ ∃ r ∈ e.records, r.addr = a ∧ r.cd = some 0
  | .status => s.notices.statusCd = some 0
  | .force z => ∃ x, s.zone z = some x ∧ x.forceOut = true
  | .hold z => ∃ x, s.zone z = some x ∧ x.hold = some 0
  | .refresh z => ∃ x, s.zone z = some x ∧ x.refreshCd = some 0

/-- Nothing has run out but what a set allows, and the periods of the sectors and the zones are at least 1. -/
structure Within (allowed : RunningOut → Prop) (s : State) : Prop where
  sectorPeriods : s.AllSectors fun x => x.cfg.Periods
  zonePeriods : s.AllZones Zone.Periods
  outs : ∀ q, s.Out q → allowed q

theorem Within.remove {allowed : RunningOut → Prop} {s : State} (h : Within allowed s) {r : RunningOut} (gone : ¬ s.Out r) :
    Within (fun q => allowed q ∧ q ≠ r) s :=
  ⟨h.sectorPeriods, h.zonePeriods, fun q out => ⟨h.outs q out, fun same => gone (same ▸ out)⟩⟩

theorem Output.before_cycle {o : Output} (h : o.cycleDue ≠ true) {c : Cadence} {p : Nat} (cadence : o.cadence = some c)
    (phase : o.phase = some p) : p < c.cycle := by
  unfold Output.cycleDue at h
  rw [cadence, phase] at h
  simpa using h

theorem Output.before_onTime {o : Output} (h : o.onTimeDue ≠ true) {c : Cadence} {p : Nat} (cadence : o.cadence = some c)
    (phase : o.phase = some p) (early : p < c.cycle) (closed : o.closed = true) : p < c.onTime := by
  unfold Output.onTimeDue at h
  rw [cadence, phase, closed] at h
  by_contra late
  exact h (by simp; omega)

/-- Where nothing at all has run out, the part is settled. -/
theorem settled_of_none_out {s : State} (none : ∀ q, ¬ s.Out q) : Settled s := by
  refine ⟨fun k _ _ o found c cadence p phase => ?_, fun i _ x found zero => none (.silence i) ⟨x, found, zero⟩,
    fun i _ x found unparked => ⟨fun zero => none (.blind i) ⟨x, found, unparked, zero⟩,
      fun zero => none (.bin i) ⟨x, found, unparked, zero⟩⟩,
    fun e member r listed zero => none (.again e.zone r.addr) ⟨e, member, rfl, r, listed, rfl, zero⟩, none .status,
    fun z _ x found => ⟨fun f force zero => none (.force z) ⟨x, found, ?_⟩, fun zero => none (.hold z) ⟨x, found, zero⟩,
      fun zero => none (.refresh z) ⟨x, found, zero⟩⟩⟩
  · have early := Output.before_cycle (fun due => none (.cycle k) ⟨o, found, due⟩) cadence phase
    exact ⟨early, Output.before_onTime (fun due => none (.onTime k) ⟨o, found, due⟩) cadence phase early⟩
  · unfold Zone.forceOut
    rw [Option.mem_def.mp force, Option.map_some, zero]
    rfl

/-! ## Changes that bring nothing to its moment -/

/-- A sector goes on, and no countdown of it comes to 0 but one that is loaded with 0. -/
structure Sector.Calm (x y : Sector) : Prop where
  cfg : y.cfg = x.cfg
  blind : y.blindCd = some 0 → x.blindCd = some 0 ∨ x.cfg.blindDelay = 0
  bin : y.binCd = some 0 → x.binCd = some 0 ∨ x.cfg.binLength = 0

/-- One write of a zone, a sector or lanes that brings nothing to its moment. -/
inductive CalmStep (s : State) : State → Prop
  | zone {t : State} (step : ZoneStep s t) : CalmStep s t
  | sector (i : Nat) (x y : Sector) (found : s.sector i = some x) (calm : x.Calm y) : CalmStep s (s.setSector i (some y))
  | lanes (v : Vector (Option Lane) 32) : CalmStep s { s with lanes := v }

/-- A run of such writes. -/
def CalmSteps : State → State → Prop :=
  Relation.ReflTransGen CalmStep

theorem CalmSteps.refl (s : State) : CalmSteps s s := Relation.ReflTransGen.refl

theorem CalmSteps.trans {s t u : State} (h : CalmSteps s t) (k : CalmSteps t u) : CalmSteps s u :=
  Relation.ReflTransGen.trans h k

theorem CalmStep.run {s t : State} (h : CalmStep s t) : CalmSteps s t := Relation.ReflTransGen.single h

theorem ZoneSteps.calm {s t : State} (h : ZoneSteps s t) : CalmSteps s t :=
  h.keeps (P := fun u => CalmSteps s u) (fun _ _ step k => k.trans (CalmStep.zone step).run) (CalmSteps.refl s)

theorem CalmSteps.keeps {s t : State} {P : State → Prop} (steps : CalmSteps s t)
    (one : ∀ u v, CalmStep u v → P u → P v) (start : P s) : P t := by
  induction steps with
  | refl => exact start
  | tail _ step ih => exact one _ _ step ih

theorem CalmSteps.pass {n : Nat} {f : Nat → State → State} (each : ∀ i t, CalmSteps t (f i t)) (s : State) :
    CalmSteps s (eachBelow n f s) :=
  eachBelow_keeps (P := fun t => CalmSteps s t) (fun i _ t h => h.trans (each i t)) (CalmSteps.refl s)

theorem CalmSteps.raise (d : Detail) (s : State) : CalmSteps s (s.raise d) := (CalmStep.zone (ZoneStep.raise d)).run

theorem CalmSteps.raises (l : List Detail) (s : State) : CalmSteps s (l.foldl (fun u d => u.raise d) s) :=
  foldl_keeps (P := fun t => CalmSteps s t) (f := fun u d => u.raise d) (fun t d h => h.trans (CalmSteps.raise d t)) l s
    (CalmSteps.refl s)

/-- A raising touches no status countdown. -/
theorem NoticeUnit.enqueueNotices_statusCd (c : NoticeClass) (l : List Byte) (u : NoticeUnit) :
    (u.enqueueNotices c l).statusCd = u.statusCd := by
  rw [NoticeUnit.enqueueNotices_only c l u]

theorem NoticeUnit.raise_statusCd (d : Detail) (l : List Byte) (u : NoticeUnit) : (u.raise d l).statusCd = u.statusCd := by
  unfold NoticeUnit.raise
  dsimp only
  split
  · rw [NoticeUnit.set_statusCd]
  · split
    · rw [NoticeUnit.enqueueNotices_statusCd, NoticeUnit.set_statusCd]
    · rw [NoticeUnit.set_statusCd]

/-- The contents an alert or a refresh sets have no countdown running. -/
theorem State.entryFor_rests (z : Nat) (x : Zone) (b : Bool) (s : State) : ∀ r ∈ (s.entryFor z x b).records, r.cd = none := by
  intro r member
  obtain ⟨a, _, rfl⟩ := List.mem_map.mp member
  rfl

/-- The queue with a fresh entry put into it: a record whose countdown is at 0 stood there before. -/
theorem insertEntry_outs {e : Entry} {q : List Entry} (rests : ∀ r ∈ e.records, r.cd = none) {d : Entry}
    (member : d ∈ insertEntry e q) {r : SirenRecord} (listed : r ∈ d.records) (zero : r.cd = some 0) : d ∈ q := by
  rcases List.mem_cons.mp ((insertEntry_perm e q).mem_iff.mp member) with rfl | old
  · rw [rests r listed] at zero
    cases zero
  · exact old

theorem Zone.Calm.outs {x y : Zone} (h : x.Calm y) (follows : ZoneFollows x y) (periods : x.Periods) :
    (y.forceOut = true → x.forceOut = true) ∧ (y.hold = some 0 → x.hold = some 0) ∧
      (y.refreshCd = some 0 → x.refreshCd = some 0) := by
  refine ⟨fun out => ?_, fun out => (h.hold out).resolve_right fun zero => ?_,
    fun out => (h.refresh out).resolve_right fun zero => ?_⟩
  · unfold Zone.forceOut at out ⊢
    rwa [h.force] at out
  · have := periods.1
    omega
  · have := (follows.refresh (by rw [out]; exact Option.some_ne_none 0)).elim periods.2.2 id
    omega

/-- One place of the Zone Table written with a zone at which no more has run out. -/
theorem Within.setZone {allowed : RunningOut → Prop} {s : State} (h : Within allowed s) {z : Nat} {x y : Zone}
    (found : s.zone z = some x) (periods : y.Periods)
    (outs : (y.forceOut = true → x.forceOut = true) ∧ (y.hold = some 0 → x.hold = some 0) ∧
      (y.refreshCd = some 0 → x.refreshCd = some 0)) : Within allowed (s.setZone z (some y)) := by
  have place (j : Nat) (w : Zone) (there : (s.setZone z (some y)).zone j = some w) : z = j ∧ w = y ∨ s.zone j = some w := by
    rw [setZone_zone] at there
    split at there
    · rename_i here
      exact .inl ⟨here.1, (Option.some.inj there).symm⟩
    · exact .inr there
  refine ⟨h.sectorPeriods, fun j w there => ?_, fun q out => ?_⟩
  · rcases place j w there with ⟨_, rfl⟩ | old
    · exact periods
    · exact h.zonePeriods j w old
  · obtain ⟨force, hold, refresh⟩ := outs
    cases q with
    | force j =>
      obtain ⟨w, there, zero⟩ := out
      rcases place j w there with ⟨rfl, rfl⟩ | old
      · exact h.outs _ ⟨x, found, force zero⟩
      · exact h.outs _ ⟨w, old, zero⟩
    | hold j =>
      obtain ⟨w, there, zero⟩ := out
      rcases place j w there with ⟨rfl, rfl⟩ | old
      · exact h.outs _ ⟨x, found, hold zero⟩
      · exact h.outs _ ⟨w, old, zero⟩
    | refresh j =>
      obtain ⟨w, there, zero⟩ := out
      rcases place j w there with ⟨rfl, rfl⟩ | old
      · exact h.outs _ ⟨x, found, refresh zero⟩
      · exact h.outs _ ⟨w, old, zero⟩
    | onTime k => exact h.outs _ out
    | cycle k => exact h.outs _ out
    | silence i => exact h.outs _ out
    | blind i => exact h.outs _ out
    | bin i => exact h.outs _ out
    | again z a => exact h.outs _ out
    | status => exact h.outs _ out

/-- The Dispatch Queue rewritten so that no more records have run out. -/
theorem Within.withQueue {allowed : RunningOut → Prop} {s : State} (h : Within allowed s) {q : List Entry}
    (outs : ∀ e ∈ q, ∀ r ∈ e.records, r.cd = some 0 → s.Out (.again e.zone r.addr)) :
    Within allowed { s with dispatch := { s.dispatch with queue := q } } := by
  refine ⟨h.sectorPeriods, h.zonePeriods, fun p out => ?_⟩
  cases p with
  | again z a =>
    obtain ⟨e, member, rfl, r, listed, rfl, zero⟩ := out
    exact h.outs _ (outs e member r listed zero)
  | onTime k => exact h.outs _ out
  | cycle k => exact h.outs _ out
  | silence i => exact h.outs _ out
  | blind i => exact h.outs _ out
  | bin i => exact h.outs _ out
  | status => exact h.outs _ out
  | force z => exact h.outs _ out
  | hold z => exact h.outs _ out
  | refresh z => exact h.outs _ out

theorem State.out_again {s : State} {e : Entry} (member : e ∈ s.dispatch.queue) {r : SirenRecord} (listed : r ∈ e.records)
    (zero : r.cd = some 0) : s.Out (.again e.zone r.addr) :=
  ⟨e, member, rfl, r, listed, rfl, zero⟩

/-- The notice unit rewritten with its status countdown not newly at 0. -/
theorem Within.withNotices {allowed : RunningOut → Prop} {s : State} (h : Within allowed s) {u : NoticeUnit}
    (status : u.statusCd = some 0 → s.notices.statusCd = some 0) : Within allowed { s with notices := u } := by
  refine ⟨h.sectorPeriods, h.zonePeriods, fun p out => ?_⟩
  cases p with
  | status => exact h.outs .status (status out)
  | again z a => exact h.outs _ out
  | onTime k => exact h.outs _ out
  | cycle k => exact h.outs _ out
  | silence i => exact h.outs _ out
  | blind i => exact h.outs _ out
  | bin i => exact h.outs _ out
  | force z => exact h.outs _ out
  | hold z => exact h.outs _ out
  | refresh z => exact h.outs _ out

theorem ZoneStep.within {allowed : RunningOut → Prop} {s t : State} (step : ZoneStep s t) (h : Within allowed s) :
    Within allowed t := by
  cases step with
  | put z x y found follows calm =>
    have periods := h.zonePeriods z x found
    exact h.setZone found (follows.periods periods) (calm.outs follows periods)
  | raise d => exact h.withNotices fun zero => by rwa [NoticeUnit.raise_statusCd] at zero
  | alert z =>
    unfold State.alertRaised
    split
    · exact h
    · refine h.withQueue fun e member r listed zero => ?_
      have old := insertEntry_outs (State.entryFor_rests z _ _ s) member listed zero
      exact State.out_again (mem_withoutZone.mp old).1 listed zero
  | refresh z =>
    unfold State.refreshDue
    split
    · refine h.withQueue fun e member r listed zero => ?_
      exact State.out_again (insertEntry_outs (State.entryFor_rests z _ _ s) member listed zero) listed zero
    · exact h

theorem Sector.Calm.outs {x y : Sector} (h : x.Calm y) (periods : x.cfg.Periods) :
    (y.blindCd = some 0 → x.blindCd = some 0) ∧ (y.binCd = some 0 → x.binCd = some 0) := by
  obtain ⟨blind, bin⟩ := periods
  exact ⟨fun out => (h.blind out).resolve_right (by omega), fun out => (h.bin out).resolve_right (by omega)⟩

theorem Within.setSector {allowed : RunningOut → Prop} {s : State} (h : Within allowed s) {i : Nat} {x y : Sector}
    (found : s.sector i = some x) (calm : x.Calm y) : Within allowed (s.setSector i (some y)) := by
  have place (j : Nat) (w : Sector) (there : (s.setSector i (some y)).sector j = some w) :
      i = j ∧ w = y ∨ s.sector j = some w := by
    rw [setSector_sector] at there
    split at there
    · rename_i here
      exact .inl ⟨here.1, (Option.some.inj there).symm⟩
    · exact .inr there
  have periods := h.sectorPeriods i x found
  obtain ⟨blind, bin⟩ := calm.outs periods
  refine ⟨fun j w there => ?_, h.zonePeriods, fun q out => ?_⟩
  · rcases place j w there with ⟨_, rfl⟩ | old
    · rw [calm.cfg]; exact periods
    · exact h.sectorPeriods j w old
  · cases q with
    | blind j =>
      obtain ⟨w, there, unparked, zero⟩ := out
      rcases place j w there with ⟨rfl, rfl⟩ | old
      · exact h.outs _ ⟨x, found, calm.cfg ▸ unparked, blind zero⟩
      · exact h.outs _ ⟨w, old, unparked, zero⟩
    | bin j =>
      obtain ⟨w, there, unparked, zero⟩ := out
      rcases place j w there with ⟨rfl, rfl⟩ | old
      · exact h.outs _ ⟨x, found, calm.cfg ▸ unparked, bin zero⟩
      · exact h.outs _ ⟨w, old, unparked, zero⟩
    | onTime k => exact h.outs _ out
    | cycle k => exact h.outs _ out
    | silence i => exact h.outs _ out
    | again z a => exact h.outs _ out
    | status => exact h.outs _ out
    | force z => exact h.outs _ out
    | hold z => exact h.outs _ out
    | refresh z => exact h.outs _ out

theorem CalmStep.within {allowed : RunningOut → Prop} {s t : State} (step : CalmStep s t) (h : Within allowed s) :
    Within allowed t := by
  cases step with
  | zone step => exact step.within h
  | sector i x y found calm => exact h.setSector found calm
  | lanes v =>
    refine ⟨h.sectorPeriods, h.zonePeriods, fun q out => h.outs q ?_⟩
    cases q <;> exact out

theorem CalmSteps.within {allowed : RunningOut → Prop} {s t : State} (steps : CalmSteps s t) :
    Within allowed s → Within allowed t :=
  steps.keeps fun _ _ step => step.within

/-! ## Calm operations -/

theorem Sector.restage_calm {x y : Sector} (h : x.Calm y) : x.Calm y.restage := ⟨h.cfg, h.blind, h.bin⟩

theorem blindStep_zero {delay : Nat} {quorate blind : Bool} {cd : Option Nat} (h : blindStep delay quorate blind cd = some 0) :
    cd = some 0 ∨ delay = 0 := by
  unfold blindStep at h
  split at h
  · cases h
  · split at h
    · cases h
    · have loaded : cd.getD delay = 0 := Option.some.inj h
      cases cd with
      | none => exact .inr loaded
      | some n => exact .inl (congrArg some loaded)

theorem Sector.laneUpdate_calm (s : State) (x : Sector) : x.Calm (x.laneUpdate s) :=
  Sector.restage_calm ⟨rfl, blindStep_zero, .inl⟩

theorem Sector.goBlind_calm (x : Sector) : x.Calm x.goBlind := ⟨rfl, fun zero => (nomatch zero), .inl⟩

theorem Sector.advanceBin_calm (x : Sector) : x.Calm x.advanceBin := ⟨rfl, .inl, fun zero => .inr (Option.some.inj zero)⟩

theorem Sector.Calm.refl (x : Sector) : x.Calm x := ⟨rfl, .inl, .inl⟩

/-- A sector's change handed on, once it is written. -/
theorem State.putSector_after (i : Nat) (x : Option Sector) (s : State) : CalmSteps (s.setSector i x) (s.putSector i x) := by
  unfold State.putSector
  split
  · exact CalmSteps.refl _
  · exact (State.sectorChange_steps i _).calm

theorem State.updSector_calm {i : Nat} {f : Sector → Sector} (calm : ∀ x : Sector, x.Calm (f x)) (s : State) :
    CalmSteps s (s.updSector i f) := by
  unfold State.updSector
  split
  · exact CalmSteps.refl s
  · rename_i x found
    split
    · exact CalmSteps.refl s
    · exact (CalmStep.sector i x _ found (calm x)).run.trans (State.putSector_after i _ s)

theorem State.laneUpdates_calm (l : List Nat) (s : State) : CalmSteps s (s.laneUpdates l) := by
  unfold State.laneUpdates
  refine CalmSteps.pass (fun i t => ?_) s
  split
  · split
    · exact State.updSector_calm (Sector.laneUpdate_calm t) t
    · exact CalmSteps.refl t
  · exact CalmSteps.refl t

theorem State.tripHandoff_calm (station : Nat) (s : State) : CalmSteps s (s.tripHandoff station) := by
  refine CalmSteps.pass (fun i t => State.updSector_calm (fun x => ?_) t) s
  split
  · exact Sector.restage_calm ⟨rfl, .inl, .inl⟩
  · exact Sector.Calm.refl x

theorem State.laneEvent_calm (station : Nat) (f : Lane → LaneStep) (s : State) : CalmSteps s (s.laneEvent station f) := by
  have settled : CalmSteps s (s.writeSettled (settledLanes s station f)) := by
    rw [State.writeSettled_eq]
    exact (CalmStep.lanes _).run
  exact (settled.trans (State.laneUpdates_calm _ _)).trans (CalmSteps.raises _ _)

/-! ## Each running out, taken -/

/-- What a running out leaves: the same, but for itself. -/
def Takes (allowed : RunningOut → Prop) (r : RunningOut) (t : State) : Prop :=
  Within (fun q => allowed q ∧ q ≠ r) t

theorem Within.setStation {allowed : RunningOut → Prop} {s : State} (h : Within allowed s) {i : Nat} {y : Station}
    (rests : y.silence = none) : Within allowed (s.setStation i (some y)) := by
  refine ⟨h.sectorPeriods, h.zonePeriods, fun q out => ?_⟩
  cases q with
  | silence j =>
    obtain ⟨w, there, zero⟩ := out
    rw [setStation_station] at there
    split at there
    · cases there
      rw [rests] at zero
      cases zero
    · exact h.outs _ ⟨w, there, zero⟩
  | onTime k => exact h.outs _ out
  | cycle k => exact h.outs _ out
  | blind i => exact h.outs _ out
  | bin i => exact h.outs _ out
  | again z a => exact h.outs _ out
  | status => exact h.outs _ out
  | force z => exact h.outs _ out
  | hold z => exact h.outs _ out
  | refresh z => exact h.outs _ out

theorem State.takeSilence_takes {allowed : RunningOut → Prop} {s : State} (h : Within allowed s) (i : Nat)
    (due : s.due (.silence i) = true) : Takes allowed (.silence i) (s.takeSilence i) := by
  have ranOut : (s.station i).bind (fun x => x.silence) = some 0 := of_decide_eq_true due
  obtain ⟨x, found, zero⟩ := Option.bind_eq_some_iff.mp ranOut
  unfold State.takeSilence
  rw [found]
  dsimp only
  rw [if_pos zero]
  unfold State.stationSilent
  have raised : Within allowed (s.raiseSilence i x .silent) := (CalmSteps.raise _ s).within h
  have written := raised.setStation (i := i) (y := { x with live := .silent, silence := none }) rfl
  have taken : Takes allowed (.silence i)
      ((s.raiseSilence i x .silent).setStation i (some { x with live := .silent, silence := none })) := by
    refine written.remove fun ⟨w, there, zero⟩ => ?_
    rw [setStation_station, if_pos ⟨rfl, lt_of_entryAt found⟩] at there
    cases there
    cases zero
  exact ((State.laneEvent_calm i _ _).trans (State.tripHandoff_calm i _)).within taken

/-- A sector's countdown taken, the sector's change handed on after. -/
theorem State.takeSector_takes {allowed : RunningOut → Prop} {s : State} (h : Within allowed s) {i : Nat} {x y : Sector}
    (found : s.sector i = some x) (calm : x.Calm y) {r : RunningOut} (gone : ¬ (s.setSector i (some y)).Out r) :
    Takes allowed r (s.putSector i (some y)) :=
  (State.putSector_after i _ s).within ((h.setSector found calm).remove gone)

theorem State.takeBlind_takes {allowed : RunningOut → Prop} {s : State} (h : Within allowed s) (i : Nat)
    (due : s.due (.blind i) = true) : Takes allowed (.blind i) (s.takeBlind i) := by
  unfold State.due at due
  dsimp only at due
  cases found : s.sector i with
  | none => rw [found] at due; cases due
  | some x =>
    rw [found] at due
    obtain ⟨unparked, zero⟩ : x.cfg.parked = false ∧ x.blindCd = some 0 := by simpa using due
    unfold State.takeBlind State.updSector
    rw [found]
    dsimp only
    rw [if_neg (by simp [unparked]), if_pos zero]
    refine State.takeSector_takes h found x.goBlind_calm fun ⟨w, there, _, again⟩ => ?_
    rw [setSector_sector, if_pos ⟨rfl, lt_of_entryAt found⟩] at there
    cases there
    cases again

theorem State.takeBin_takes {allowed : RunningOut → Prop} {s : State} (h : Within allowed s) (i : Nat)
    (due : s.due (.bin i) = true) : Takes allowed (.bin i) (s.takeBin i) := by
  unfold State.due at due
  dsimp only at due
  cases found : s.sector i with
  | none => rw [found] at due; cases due
  | some x =>
    rw [found] at due
    obtain ⟨unparked, zero⟩ : x.cfg.parked = false ∧ x.binCd = some 0 := by simpa using due
    unfold State.takeBin State.updSector
    rw [found]
    dsimp only
    rw [if_neg (by simp [unparked]), if_pos zero]
    refine State.takeSector_takes h found x.advanceBin_calm fun ⟨w, there, _, again⟩ => ?_
    rw [setSector_sector, if_pos ⟨rfl, lt_of_entryAt found⟩] at there
    cases there
    have length : x.cfg.binLength = 0 := Option.some.inj again
    have := (h.sectorPeriods i x found).2
    omega

theorem mem_updRecord {a : Byte} {f : SirenRecord → SirenRecord} {rs : List SirenRecord} {r : SirenRecord}
    (h : r ∈ updRecord a f rs) : ∃ w ∈ rs, w.addr = a ∧ r = f w ∨ w.addr ≠ a ∧ r = w := by
  obtain ⟨w, member, rfl⟩ := List.mem_map.mp h
  by_cases same : w.addr = a
  · exact ⟨w, member, .inl ⟨same, if_pos same⟩⟩
  · exact ⟨w, member, .inr ⟨same, if_neg same⟩⟩

theorem SirenRecord.judge_rests (n : Nat) (r : SirenRecord) : (r.judge n).cd = none := by
  unfold SirenRecord.judge
  split <;> rfl

/-- The entries a rewriting of a zone's records leaves. -/
theorem mem_updEntry {z : Nat} {f : List SirenRecord → List SirenRecord} {s : State} {e : Entry}
    (h : e ∈ (s.updEntry z f).dispatch.queue) :
    ∃ d ∈ s.dispatch.queue, e.zone = d.zone ∧ (d.zone = z ∧ e.records = f d.records ∨ d.zone ≠ z ∧ e.records = d.records) := by
  obtain ⟨d, member, rfl⟩ := List.mem_map.mp (List.mem_filter.mp h).1
  by_cases here : d.zone = z
  · rw [if_pos here]
    exact ⟨d, member, rfl, .inl ⟨here, rfl⟩⟩
  · rw [if_neg here]
    exact ⟨d, member, rfl, .inr ⟨here, rfl⟩⟩

/-- A record judged in every entry of its zone: those of its address rest, the others stand. -/
theorem State.judged_record {s : State} {z : Nat} {a : Byte} {n : Nat} {e : Entry} {r : SirenRecord}
    (member : e ∈ (s.updEntry z (updRecord a (SirenRecord.judge n))).dispatch.queue) (listed : r ∈ e.records)
    (zero : r.cd = some 0) : s.Out (.again e.zone r.addr) ∧ ¬ (e.zone = z ∧ r.addr = a) := by
  obtain ⟨d, old, zone, ⟨here, records⟩ | ⟨other, records⟩⟩ := mem_updEntry member
  · rw [records] at listed
    obtain ⟨w, was, ⟨_, rfl⟩ | ⟨addr, rfl⟩⟩ := mem_updRecord listed
    · rw [SirenRecord.judge_rests] at zero
      cases zero
    · exact ⟨zone ▸ State.out_again old was zero, fun same => addr same.2⟩
  · exact ⟨zone ▸ State.out_again old (records ▸ listed) zero, fun same => other (zone ▸ same.1)⟩

theorem State.takeRepeat_takes {allowed : RunningOut → Prop} {s : State} (h : Within allowed s) (z : Nat) (a : Byte)
    (due : s.due (.again z a) = true) : Takes allowed (.again z a) (s.takeRepeat z a) := by
  unfold State.due at due
  dsimp only at due
  obtain ⟨⟨e, r⟩, found⟩ := Option.isSome_iff_exists.mp due
  unfold State.takeRepeat
  rw [found]
  dsimp only
  have judged : Takes allowed (.again z a) (s.updEntry z (updRecord a (SirenRecord.judge (s.triesLimit z)))) := by
    refine (h.withQueue fun e member r listed zero => (State.judged_record member listed zero).1).remove ?_
    rintro ⟨e, member, zone, r, listed, addr, zero⟩
    exact (State.judged_record (s := s) member listed zero).2 ⟨zone, addr⟩
  split
  · exact judged
  · exact (CalmSteps.raise _ _).within judged

theorem NoticeUnit.enqueueStatuses_statusCd (l : List Byte) (u : NoticeUnit) : (u.enqueueStatuses l).statusCd = u.statusCd := by
  rw [NoticeUnit.enqueueStatuses_only l u]

theorem loadStatus_ne_zero (p : Nat) : loadStatus p ≠ some 0 := by
  unfold loadStatus
  split
  · exact nofun
  · rename_i loads
    exact fun zero => loads (Option.some.inj zero)

theorem State.takeStatus_takes {allowed : RunningOut → Prop} {s : State} (h : Within allowed s)
    (due : s.due .status = true) : Takes allowed .status s.takeStatus := by
  have zero : s.notices.statusCd = some 0 := of_decide_eq_true due
  unfold State.takeStatus
  rw [if_pos zero]
  refine (h.withNotices fun _ => zero).remove fun out => loadStatus_ne_zero s.notices.period ?_
  replace out : (NoticeUnit.enqueueStatuses s.console
    { s.notices with statusCd := loadStatus s.notices.period }).statusCd = some 0 := out
  rwa [NoticeUnit.enqueueStatuses_statusCd] at out

theorem State.takeForce_takes {allowed : RunningOut → Prop} {s : State} (h : Within allowed s) (z : Nat)
    (due : s.due (.force z) = true) : Takes allowed (.force z) (s.takeForce z) := by
  unfold State.due at due
  dsimp only at due
  unfold State.takeForce
  cases found : s.zone z with
  | none => rw [found] at due; cases due
  | some x =>
    rw [found] at due
    have out : x.forceOut = true := by simpa using due
    dsimp only
    rw [if_pos out]
    have ended := h.setZone (y := { x with force := none }) found (h.zonePeriods z x found) ⟨fun none => (nomatch none), id, id⟩
    refine (State.setForce_steps found none).calm.within (ended.remove fun ⟨w, there, again⟩ => ?_)
    rw [setZone_zone, if_pos ⟨rfl, lt_of_entryAt found⟩] at there
    cases there
    cases again

theorem Zone.numberChange_hold (w : Bool) (x : Zone) : (x.numberChange w).hold = x.hold := by
  unfold Zone.numberChange
  split <;> rfl

theorem State.takeHold_takes {allowed : RunningOut → Prop} {s : State} (h : Within allowed s) (z : Nat)
    (due : s.due (.hold z) = true) : Takes allowed (.hold z) (s.takeHold z) := by
  unfold State.due at due
  dsimp only at due
  unfold State.takeHold
  cases found : s.zone z with
  | none => rw [found] at due; cases due
  | some x =>
    rw [found] at due
    dsimp only
    rw [if_pos (by simpa using due)]
    unfold State.holdEnds
    rw [found]
    dsimp only
    refine (State.stageChanged_after z _ _ _ s).calm.within (Within.remove ?_ fun ⟨w, there, again⟩ => ?_)
    · have follows : ZoneFollows x (x.released (contributing s x.cfg.sectors)) := ⟨rfl, id, .inl⟩
      have calm : x.Calm (x.released (contributing s x.cfg.sectors)) := ⟨rfl, fun out => (nomatch out), .inl⟩
      have numbered := follows.trans (Zone.numberChange_follows (decide (s.mode = .watching)) _)
      exact h.setZone found (numbered.periods (h.zonePeriods z x found))
        ((calm.trans follows.cfg (Zone.numberChange_calm _ _)).outs numbered (h.zonePeriods z x found))
    · rw [setZone_zone, if_pos ⟨rfl, lt_of_entryAt found⟩] at there
      cases there
      rw [Zone.numberChange_hold] at again
      cases again

theorem State.takeRefresh_takes {allowed : RunningOut → Prop} {s : State} (h : Within allowed s) (z : Nat)
    (due : s.due (.refresh z) = true) : Takes allowed (.refresh z) (s.takeRefresh z) := by
  unfold State.due at due
  dsimp only at due
  unfold State.takeRefresh
  cases found : s.zone z with
  | none => rw [found] at due; cases due
  | some x =>
    rw [found] at due
    obtain ⟨⟨zero, hold⟩, force⟩ : (x.refreshCd = some 0 ∧ x.hold ≠ some 0) ∧ x.forceOut = false := by simpa using due
    dsimp only
    rw [if_pos ⟨zero, hold, force⟩]
    unfold State.refreshRunsOut
    rw [found]
    dsimp only
    have periods := h.zonePeriods z x found
    have loaded := h.setZone (y := { x with refreshCd := some x.cfg.refresh }) found
      ⟨periods.1, periods.2.1, fun _ => periods.2.2 (by rw [zero]; exact Option.some_ne_none 0)⟩ ⟨id, id, fun _ => zero⟩
    refine (ZoneStep.refresh z).run.calm.within (loaded.remove fun ⟨w, there, again⟩ => ?_)
    rw [setZone_zone, if_pos ⟨rfl, lt_of_entryAt found⟩] at there
    cases there
    have refresh : x.cfg.refresh = 0 := Option.some.inj again
    have := periods.2.2 (by rw [zero]; exact Option.some_ne_none 0)
    omega

/-! ## Outputs -/

theorem setOutput_output {k : Nat} (low : 1 ≤ k) (o : Output) (s : State) (j : Nat) :
    (s.setOutput k o).output j = if k = j ∧ j ≤ 6 then some o else s.output j := by
  unfold State.output
  rw [State.setOutput_outputs, Vector.getElem?_setIfInBounds]
  by_cases zero : j = 0
  · subst zero
    rw [if_pos rfl, if_pos rfl, if_neg (by omega)]
  · rw [if_neg zero, if_neg zero]
    by_cases same : k = j
    · subst same
      rw [if_pos rfl]
      by_cases small : k ≤ 6
      · rw [if_pos (by omega), if_pos ⟨rfl, small⟩]
      · rw [if_neg (by omega), if_neg (by omega), Vector.getElem?_eq_none (by omega)]
    · rw [if_neg (by omega), if_neg (by omega)]

/-- The outputs rewritten so that no more of their phases stand at a moment. -/
theorem Within.withOutputs {allowed : RunningOut → Prop} {s : State} (h : Within allowed s) {v : Vector Output 6}
    (outs : ∀ k p, ({ s with outputs := v } : State).output k = some p → ∃ o, s.output k = some o ∧
      (p.onTimeDue = true → o.onTimeDue = true) ∧ (p.cycleDue = true → o.cycleDue = true)) :
    Within allowed { s with outputs := v } := by
  refine ⟨h.sectorPeriods, h.zonePeriods, fun q out => ?_⟩
  cases q with
  | onTime k =>
    obtain ⟨p, there, due⟩ := out
    obtain ⟨o, found, onTime, _⟩ := outs k p there
    exact h.outs _ ⟨o, found, onTime due⟩
  | cycle k =>
    obtain ⟨p, there, due⟩ := out
    obtain ⟨o, found, _, cycle⟩ := outs k p there
    exact h.outs _ ⟨o, found, cycle due⟩
  | silence i => exact h.outs _ out
  | blind i => exact h.outs _ out
  | bin i => exact h.outs _ out
  | again z a => exact h.outs _ out
  | status => exact h.outs _ out
  | force z => exact h.outs _ out
  | hold z => exact h.outs _ out
  | refresh z => exact h.outs _ out

/-- A taking at one output. -/
theorem State.updOutput_takes {allowed : RunningOut → Prop} {s : State} (h : Within allowed s) {k : Nat} {o : Output}
    (found : s.output k = some o) {f : Output → Output} {r : RunningOut}
    (outs : ((f o).onTimeDue = true → o.onTimeDue = true) ∧ ((f o).cycleDue = true → o.cycleDue = true))
    (gone : ¬ (s.setOutput k (f o)).Out r) : Takes allowed r (s.updOutput k f) := by
  unfold State.updOutput
  rw [found]
  refine Within.remove (h.withOutputs fun j p there => ?_) gone
  have place : (s.setOutput k (f o)).output j = some p := there
  rw [setOutput_output (State.output_range found).1] at place
  split at place
  · rename_i here
    cases place
    exact ⟨o, here.1 ▸ found, outs⟩
  · exact ⟨p, place, id, id⟩

theorem Output.cadence_get {o : Output} {c : Cadence} (h : o.cadence = some c) : ∃ n, o.inUse = some n ∧ o.working.get n = c :=
  Option.map_eq_some_iff.mp h

theorem Cadences.run_get {c : Cadences} (h : c.run) (n : Nat) : 1 ≤ (c.get n).cycle ∧ 1 ≤ (c.get n).onTime := by
  unfold Cadences.get
  split
  · exact h _ (by simp)
  · exact h _ (by simp)
  · exact h _ (by simp)

theorem Output.open_rests (o : Output) : ({ o with closed := false } : Output).onTimeDue = false := by
  unfold Output.onTimeDue
  split <;> rfl

theorem Output.reachOnTime_rests (o : Output) : o.reachOnTime.onTimeDue = false ∧ o.reachOnTime.cycleDue = o.cycleDue := by
  unfold Output.reachOnTime
  split
  · rename_i c p cadence phase
    split
    · exact ⟨o.open_rests, rfl⟩
    · rename_i early
      refine ⟨?_, rfl⟩
      unfold Output.onTimeDue
      rw [cadence, phase]
      simp [early]
  · rename_i idle
    refine ⟨?_, rfl⟩
    unfold Output.onTimeDue
    split
    · rename_i c p cadence phase
      exact absurd phase (idle c p cadence)
    · rfl

/-- A phase at 0 of a cadence that runs stands before both of its moments. -/
theorem Output.rests_at_start {o : Output} (run : o.working.run) (phase : o.phase = some 0) :
    o.onTimeDue = false ∧ o.cycleDue = false := by
  unfold Output.onTimeDue Output.cycleDue
  rw [phase]
  cases cadence : o.cadence with
  | none => exact ⟨rfl, rfl⟩
  | some c =>
    obtain ⟨n, _, rfl⟩ := Output.cadence_get cadence
    have := Cadences.run_get run n
    simp only [Bool.and_eq_false_iff, decide_eq_false_iff_not]
    omega

/-- A cycle that has come to its end starts over (R135). -/
theorem Output.boundary_due {o : Output} (due : o.cycleDue = true) :
    o.boundary = { o with working := o.cfg.written, phase := some 0, closed := true } := by
  unfold Output.cycleDue at due
  split at due
  case h_1 c p cadence phase =>
    unfold Output.boundary
    rw [cadence, phase]
    exact if_pos (of_decide_eq_true due)
  case h_2 => cases due

theorem Output.boundary_rests {o : Output} (due : o.cycleDue = true) (run : o.cfg.written.run) :
    o.boundary.onTimeDue = false ∧ o.boundary.cycleDue = false := by
  rw [Output.boundary_due due]
  exact Output.rests_at_start run rfl

theorem State.onTime_takes {allowed : RunningOut → Prop} {s : State} (h : Within allowed s) (k : Nat)
    (due : s.due (.onTime k) = true) : Takes allowed (.onTime k) (s.updOutput k Output.reachOnTime) := by
  unfold State.due at due
  dsimp only at due
  cases found : s.output k with
  | none => rw [found] at due; cases due
  | some o =>
    obtain ⟨onTime, cycle⟩ := o.reachOnTime_rests
    refine State.updOutput_takes h found ⟨fun again => ?_, fun again => cycle ▸ again⟩ fun ⟨p, there, again⟩ => ?_
    · rw [onTime] at again; cases again
    · have range := State.output_range found
      rw [setOutput_output range.1, if_pos ⟨rfl, range.2⟩] at there
      cases there
      rw [onTime] at again
      cases again

theorem State.cycle_takes {allowed : RunningOut → Prop} {s : State} (h : Within allowed s) (periods : s.AllOutputs Output.Periods)
    (k : Nat) (due : s.due (.cycle k) = true) : Takes allowed (.cycle k) (s.updOutput k Output.boundary) := by
  unfold State.due at due
  dsimp only at due
  cases found : s.output k with
  | none => rw [found] at due; cases due
  | some o =>
    rw [found] at due
    obtain ⟨onTime, cycle⟩ := Output.boundary_rests (by simpa using due) (State.output_all periods found).1
    refine State.updOutput_takes h found ⟨fun again => ?_, fun again => ?_⟩ fun ⟨p, there, again⟩ => ?_
    · rw [onTime] at again; cases again
    · rw [cycle] at again; cases again
    · have range := State.output_range found
      rw [setOutput_output range.1, if_pos ⟨rfl, range.2⟩] at there
      cases there
      rw [cycle] at again
      cases again

/-- A running out that has come is taken, and brings no other to its moment. -/
theorem State.runOut_takes {allowed : RunningOut → Prop} {s : State} (h : Within allowed s) (periods : s.AllOutputs Output.Periods)
    (r : RunningOut) (due : s.due r = true) : Takes allowed r (s.runOut r) := by
  cases r with
  | onTime k => exact State.onTime_takes h k due
  | cycle k => exact State.cycle_takes h periods k due
  | silence i => exact State.takeSilence_takes h i due
  | blind i => exact State.takeBlind_takes h i due
  | bin i => exact State.takeBin_takes h i due
  | again z a => exact State.takeRepeat_takes h z a due
  | status => exact State.takeStatus_takes h due
  | force z => exact State.takeForce_takes h z due
  | hold z => exact State.takeHold_takes h z due
  | refresh z => exact State.takeRefresh_takes h z due

/-! ## The end of an event -/

theorem Output.evaluate_rests {s : State} {o : Output} (run : o.cfg.written.run) :
    ((o.evaluate s).onTimeDue = true → o.onTimeDue = true) ∧ ((o.evaluate s).cycleDue = true → o.cycleDue = true) := by
  unfold Output.evaluate
  split
  · split
    · exact ⟨id, id⟩
    · obtain ⟨onTime, cycle⟩ := Output.rests_at_start (o := o.start (cadenceFor s o.cfg)) run rfl
      rw [onTime, cycle]
      exact ⟨nofun, nofun⟩
  · split
    · exact ⟨nofun, nofun⟩
    · exact ⟨id, id⟩

theorem mapOutputs_output (f : Output → Output) (s : State) (k : Nat) :
    ({ s with outputs := mapTable f s.outputs } : State).output k = (s.output k).map f := by
  unfold State.output
  split
  · rfl
  · exact mapTable_getElem? _ _ _

theorem State.reevaluate_within {allowed : RunningOut → Prop} {s : State} (h : Within allowed s)
    (periods : s.AllOutputs Output.Periods) (old : State) : Within allowed (s.reevaluate old) := by
  refine h.withOutputs fun k p there => ?_
  rw [mapOutputs_output] at there
  obtain ⟨o, found, rfl⟩ := Option.map_eq_some_iff.mp there
  refine ⟨o, found, ?_⟩
  split
  · exact ⟨id, id⟩
  · exact Output.evaluate_rests (State.output_all periods found).1

/-- Changes that no running out is read from. -/
theorem Within.of_same {allowed : RunningOut → Prop} {s t : State} (h : Within allowed s) (outputs : t.outputs = s.outputs)
    (stations : t.stations = s.stations) (sectors : t.sectors = s.sectors) (zones : t.zones = s.zones)
    (queue : t.dispatch.queue = s.dispatch.queue) (status : t.notices.statusCd = s.notices.statusCd) : Within allowed t := by
  have output (k : Nat) : t.output k = s.output k := by unfold State.output; rw [outputs]
  have station (i : Nat) : t.station i = s.station i := by unfold State.station; rw [stations]
  have sector (i : Nat) : t.sector i = s.sector i := by unfold State.sector; rw [sectors]
  have zone (z : Nat) : t.zone z = s.zone z := by unfold State.zone; rw [zones]
  refine ⟨fun i x found => h.sectorPeriods i x (sector i ▸ found), fun z x found => h.zonePeriods z x (zone z ▸ found),
    fun q out => h.outs q ?_⟩
  cases q <;> simpa only [State.Out, output, station, sector, zone, queue, status] using out

theorem State.alertSent_within {allowed : RunningOut → Prop} {s : State} (h : Within allowed s) (z : Nat) (a : Byte) :
    Within allowed (s.alertSent z a) := by
  refine h.withQueue fun e member r listed zero => ?_
  obtain ⟨d, old, rfl⟩ := List.mem_map.mp member
  by_cases here : d.zone = z
  · rw [if_pos here] at listed ⊢
    obtain ⟨w, was, ⟨_, rfl⟩ | ⟨_, rfl⟩⟩ := mem_updRecord listed
    · obtain ⟨x, found, interval⟩ := Option.map_eq_some_iff.mp zero
      have := (h.zonePeriods z x found).2.1
      omega
    · exact State.out_again (e := d) old was zero
  · rw [if_neg here] at listed ⊢
    exact State.out_again old listed zero

theorem State.takeValley_within {allowed : RunningOut → Prop} {s : State} (h : Within allowed s) :
    Within allowed s.takeValley := by
  unfold State.takeValley
  split
  · exact (State.alertSent_within h _ _).of_same rfl rfl rfl rfl rfl rfl
  · split
    · exact h.of_same rfl rfl rfl rfl rfl rfl
    · split
      · unfold State.takeNotice
        dsimp only
        split
        · exact h.of_same rfl rfl rfl rfl rfl rfl
        · exact h.of_same rfl rfl rfl rfl rfl rfl
      · split
        · exact h.of_same rfl rfl rfl rfl rfl rfl
        · exact h

theorem State.kick_within {allowed : RunningOut → Prop} {s : State} (h : Within allowed s) : Within allowed s.kick := by
  have crests : Within allowed ((s.kickCrest .a).kickCrest .b) := h.of_same rfl rfl rfl rfl rfl rfl
  unfold State.kick State.kickValley
  split
  · exact crests
  · exact State.takeValley_within crests

theorem State.finish_within {allowed : RunningOut → Prop} {s : State} (h : Within allowed s)
    (periods : s.AllOutputs Output.Periods) (old : State) : Within allowed (State.finish old s) := by
  have ordered : Within allowed (s.orderAlerts old) :=
    h.withQueue fun e member r listed zero => State.out_again ((orderFresh_perm _ _).mem_iff.mp member) listed zero
  exact State.kick_within (State.reevaluate_within ordered periods old)

/-! ## Settling -/

/-- At a zone a force is taken before a hold, and both before a refresh (R113, log 22). -/
def RunningOut.blocks : RunningOut → List RunningOut
  | .hold z => [.force z]
  | .refresh z => [.force z, .hold z]
  | _ => []

/-- What has run out is due, unless another must be taken first. -/
theorem State.due_of_out {s : State} (sound : s.DispatchSound) {r : RunningOut} (out : s.Out r)
    (clear : ∀ q ∈ r.blocks, ¬ s.Out q) : s.due r = true := by
  unfold State.due
  cases r with
  | onTime k => obtain ⟨o, found, due⟩ := out; simp [found, due]
  | cycle k => obtain ⟨o, found, due⟩ := out; simp [found, due]
  | silence i => obtain ⟨x, found, zero⟩ := out; simp [found, zero]
  | blind i => obtain ⟨x, found, unparked, zero⟩ := out; simp [found, unparked, zero]
  | bin i => obtain ⟨x, found, unparked, zero⟩ := out; simp [found, unparked, zero]
  | again z a =>
    obtain ⟨e, member, rfl, r, listed, rfl, zero⟩ := out
    obtain ⟨lists, _, nodup, fits⟩ := sound
    obtain ⟨_, _, x, found, addrs⟩ := fits e member
    have entry : entryOf e.zone s.dispatch.queue = some e := by
      refine find?_first (r := fun a b => a.zone ≠ b.zone) (List.pairwise_map.mp nodup) member (by simp) ?_
      intro d _ other
      simpa using other
    have distinct : (e.records.map SirenRecord.addr).Nodup := addrs ▸ (lists e.zone x found).2
    have record : e.records.find? (fun w => decide (w.addr = r.addr)) = some r := by
      refine find?_first (r := fun a b => a.addr ≠ b.addr) (List.pairwise_map.mp distinct) listed (by simp) ?_
      intro d _ other
      simpa using other
    simp [State.ranOut, entry, record, zero]
  | status => exact decide_eq_true out
  | force z => obtain ⟨x, found, zero⟩ := out; simp [found, zero]
  | hold z =>
    obtain ⟨x, found, zero⟩ := out
    have force : x.forceOut = false := by
      by_contra other
      exact clear (.force z) (by simp [RunningOut.blocks]) ⟨x, found, by simpa using other⟩
    simp [found, zero, force]
  | refresh z =>
    obtain ⟨x, found, zero⟩ := out
    have force : x.forceOut = false := by
      by_contra other
      exact clear (.force z) (by simp [RunningOut.blocks]) ⟨x, found, by simpa using other⟩
    have hold : x.hold ≠ some 0 := fun other => clear (.hold z) (by simp [RunningOut.blocks]) ⟨x, found, other⟩
    simp [found, zero, force, hold]

/-- What settling relies on at each of its steps. -/
structure Settling (allowed : RunningOut → Prop) (s : State) : Prop where
  within : Within allowed s
  periods : s.Periods
  sound : s.DispatchSound

theorem State.settleOne_acts (s : State) (r : RunningOut) : Acts s (s.settleOne r) := by
  unfold State.settleOne
  split
  · exact (s.runOut_acts r).trans (State.finish_acts s _)
  · exact Acts.refl s

theorem Settling.one {allowed : RunningOut → Prop} {s : State} (h : Settling allowed s) {r : RunningOut}
    (clear : ∀ q ∈ r.blocks, ¬ allowed q) : Settling (fun q => allowed q ∧ q ≠ r) (s.settleOne r) := by
  have acts := s.settleOne_acts r
  refine ⟨?_, acts.periods h.periods, acts.keeps (fun _ _ act => act.dispatchSound) h.sound⟩
  unfold State.settleOne
  split
  · rename_i due
    exact State.finish_within (State.runOut_takes h.within h.periods.2.2.2 r due)
      ((s.runOut_acts r).periods h.periods).2.2.2 s
  · rename_i idle
    exact h.within.remove fun out => idle (State.due_of_out h.sound out fun q member other =>
      clear q member (h.within.outs q other))

/-- Runnings out in an order that takes each of them after those that must be taken first. -/
def Ordered (l : List RunningOut) : Prop :=
  ∀ front r back, l = front ++ r :: back → ∀ q ∈ r.blocks, q ∈ front

theorem Settling.fold {s : State} {l : List RunningOut} (ordered : Ordered l) (h : Settling (· ∈ l) s) :
    Settling (fun _ => False) (l.foldl State.settleOne s) := by
  have all : ∀ (back front : List RunningOut) (t : State), l = front ++ back →
      Settling (fun q => q ∈ l ∧ q ∉ front) t → Settling (fun q => q ∈ l ∧ q ∉ l) (back.foldl State.settleOne t) := by
    intro back
    induction back with
    | nil =>
      intro front t split h
      rw [List.append_nil] at split
      exact split ▸ h
    | cons r back ih =>
      intro front t split h
      refine ih (front ++ [r]) (t.settleOne r) (by simp [split]) ?_
      have taken := h.one (r := r) fun q member allowed => allowed.2 (ordered front r back split q member)
      refine ⟨⟨taken.within.sectorPeriods, taken.within.zonePeriods, fun q out => ?_⟩, taken.periods, taken.sound⟩
      obtain ⟨⟨listed, before⟩, other⟩ := taken.within.outs q out
      refine ⟨listed, fun member => ?_⟩
      rcases List.mem_append.mp member with early | here
      · exact before early
      · exact other (List.mem_singleton.mp here)
  have start := all l [] s rfl ⟨⟨h.within.sectorPeriods, h.within.zonePeriods, fun q out => ⟨h.within.outs q out, List.not_mem_nil⟩⟩,
    h.periods, h.sound⟩
  exact ⟨⟨start.within.sectorPeriods, start.within.zonePeriods, fun q out => (start.within.outs q out).2 (start.within.outs q out).1⟩,
    start.periods, start.sound⟩

end Sys2Proof.Machine
end

section
/-! Settling as a whole (O50). -/

namespace Sys2Proof.Machine

theorem Ordered.of_free {l : List RunningOut} (free : ∀ r ∈ l, r.blocks = []) : Ordered l := by
  rintro front r back rfl q member
  rw [free r (by simp)] at member
  cases member

theorem Ordered.append {l m : List RunningOut} (h : Ordered l) (k : Ordered m) : Ordered (l ++ m) := by
  intro front r back split q member
  rcases List.append_eq_append_iff.mp split with ⟨rest, rfl, tail⟩ | ⟨rest, rfl, tail⟩
  · exact List.mem_append_right l (k rest r back tail q member)
  · cases rest with
    | nil => exact absurd (k [] r back tail.symm q member) List.not_mem_nil
    | cons a rest =>
      obtain ⟨rfl, _⟩ := List.cons.inj tail
      exact h front r rest rfl q member

theorem Ordered.flatMap {α : Type} {f : α → List RunningOut} (each : ∀ a, Ordered (f a)) (l : List α) : Ordered (l.flatMap f) := by
  induction l with
  | nil => exact Ordered.of_free fun r member => nomatch member
  | cons a l ih => exact (each a).append ih

/-- A zone's three runnings out stand in the order of R113. -/
theorem Ordered.zone (z : Nat) : Ordered [.force z, .hold z, .refresh z] := by
  intro front r back split q member
  match front, split with
  | [], split =>
    obtain ⟨rfl, _⟩ := List.cons.inj split
    exact absurd member List.not_mem_nil
  | [a], split =>
    simp only [List.cons_append, List.nil_append, List.cons.injEq] at split
    obtain ⟨rfl, rfl, _⟩ := split
    exact member
  | [a, b], split =>
    simp only [List.cons_append, List.nil_append, List.cons.injEq] at split
    obtain ⟨rfl, rfl, rfl, _⟩ := split
    exact member
  | a :: b :: c :: front, split =>
    have length := congrArg List.length split
    simp at length

theorem State.runningsOut_ordered (s : State) : Ordered s.runningsOut := by
  unfold State.runningsOut
  refine Ordered.append (Ordered.of_free fun r member => ?_) (Ordered.flatMap Ordered.zone _)
  simp only [List.mem_append, List.mem_flatMap, List.mem_map, List.mem_range, List.mem_cons, List.not_mem_nil, or_false] at member
  rcases member with ((((⟨k, _, rfl | rfl⟩ | ⟨i, _, rfl⟩) | ⟨i, _, rfl⟩) | ⟨i, _, rfl⟩) | ⟨e, _, r, _, rfl⟩) | rfl <;> rfl

/-- Whatever has run out is listed. -/
theorem State.mem_runningsOut {s : State} {q : RunningOut} (out : s.Out q) : q ∈ s.runningsOut := by
  simp only [State.runningsOut, List.mem_append, List.mem_flatMap, List.mem_map, List.mem_range, List.mem_cons,
    List.not_mem_nil, or_false]
  cases q with
  | onTime k =>
    obtain ⟨o, found, _⟩ := out
    have range := State.output_range found
    exact .inl (.inl (.inl (.inl (.inl (.inl ⟨k - 1, by omega, .inl (by rw [Nat.sub_add_cancel range.1])⟩)))))
  | cycle k =>
    obtain ⟨o, found, _⟩ := out
    have range := State.output_range found
    exact .inl (.inl (.inl (.inl (.inl (.inl ⟨k - 1, by omega, .inr (by rw [Nat.sub_add_cancel range.1])⟩)))))
  | silence i =>
    obtain ⟨x, found, _⟩ := out
    exact .inl (.inl (.inl (.inl (.inl (.inr ⟨i, lt_of_entryAt found, rfl⟩)))))
  | blind i =>
    obtain ⟨x, found, _⟩ := out
    exact .inl (.inl (.inl (.inl (.inr ⟨i, lt_of_entryAt found, rfl⟩))))
  | bin i =>
    obtain ⟨x, found, _⟩ := out
    exact .inl (.inl (.inl (.inr ⟨i, lt_of_entryAt found, rfl⟩)))
  | again z a =>
    obtain ⟨e, member, rfl, r, listed, rfl, _⟩ := out
    exact .inl (.inl (.inr ⟨e, member, r, listed, rfl⟩))
  | status => exact .inl (.inr rfl)
  | force z =>
    obtain ⟨x, found, _⟩ := out
    exact .inr ⟨z, lt_of_entryAt found, .inl rfl⟩
  | hold z =>
    obtain ⟨x, found, _⟩ := out
    exact .inr ⟨z, lt_of_entryAt found, .inr (.inl rfl)⟩
  | refresh z =>
    obtain ⟨x, found, _⟩ := out
    exact .inr ⟨z, lt_of_entryAt found, .inr (.inr rfl)⟩

theorem settled_settle {s : State} (periods : s.Periods) (sound : s.DispatchSound) : Settled s.settle := by
  have start : Settling (· ∈ s.runningsOut) s :=
    ⟨⟨periods.2.1, periods.2.2.1, fun _ out => State.mem_runningsOut out⟩, periods, sound⟩
  exact settled_of_none_out (start.fold s.runningsOut_ordered).within.outs

/-- Settles O50: acts keep the time base legal and the periods at least 1, and settling takes whatever has run out. -/
theorem everyStepKeepsTheTimeLegal : Obligations.EveryStepKeepsTheTimeLegal := by
  refine ⟨fun s t legal step => timeLegal_step legal step, fun s t periods step => periodsRun_step periods step,
    fun s periods sirens ordered => ?_⟩
  exact settled_settle (periodsRun_iff.mp periods).1 ⟨(sirensListed_iff.mp sirens).1, ordered⟩

end Sys2Proof.Machine
end

section
/-! O59 fails, and the facts about reset (O3, O4). -/

namespace Sys2Proof.Machine

/-! ## An output that stops following (O59)

FRAME_RECEIVED feeds its characters one after another (log 10), so several COMMAND frames can end within one event. The
first clears the FAULT class, LOAD OUTPUT then writes K1 with select code 7 while the flag is clear, and a command that
finds the reply queue full raises FAULT again (R140, R189). The event's end compares the flag with that of before the
event, finds no change, and leaves K1 with its condition false (R134, log 8). -/

/-- LOAD OUTPUT of K1 with select code 7, the pending flag of FAULT, under tag 0. -/
def loadFaultOutput : List Byte :=
  frameWire (composeFrame 1 9 kindCommand 0 (0x38 :: 0 :: outputBlock 1 { OutputConfig.unset with code := 7 }))

/-- READ IDENT under tag 0. -/
def readIdentFrame : List Byte :=
  frameWire (composeFrame 1 9 kindCommand 0 [0x01, 0])

/-- A frame whose payload spells two whole COMMAND frames; the SYNC byte before it is the last CRC byte of another. -/
def nestedFrame : Frame :=
  { dst := 2, src := 9, kind := kindCommand, seq := 0, payload := loadFaultOutput ++ readIdentFrame, crc := 0 }

/-- A reply that waits. -/
def waitingReply : Reply :=
  { dst := 9, payload := [], effect := .nothing }

/-- CLEAR NOTICES of the class FAULT up to its first CRC byte, with two of the four reply places held. -/
def beforeNested : State :=
  { State.reset with
    replies := [waitingReply, waitingReply]
    valley := { State.reset.valley with port := { State.reset.valley.port with
      rx := .check 7 [1, 9, kindCommand, 171, 0x42, 0, 0x20] (some 0xAD) } } }

/-- What the event leaves. -/
def afterNested : State :=
  State.finish beforeNested.settle (State.feed .valley nestedFrame beforeNested.settle)

theorem beforeNested_follows : OutputsFollow beforeNested := by
  unfold OutputsFollow
  decide +kernel

theorem beforeNested_step :
    step { beforeNested with pending := [.frameReceived .valley nestedFrame] } = .next afterNested := rfl

theorem afterNested_output : (afterNested.output 1).map (fun o => (o.cfg.code, o.condition)) = some (7, false) := by
  decide +kernel

theorem afterNested_flag : afterNested.notices.fault.flag = true := by
  decide +kernel

/-- Refutes O59: an event that clears and raises the FAULT class around a LOAD OUTPUT leaves K1 behind its reading. -/
theorem not_everyStepKeepsOutputsFollowing : ¬ Obligations.EveryStepKeepsOutputsFollowing := by
  intro kept
  have follows := kept { beforeNested with pending := [.frameReceived .valley nestedFrame] } afterNested
    beforeNested_follows beforeNested_step
  obtain ⟨o, found, seen⟩ := Option.map_eq_some_iff.mp afterNested_output
  obtain ⟨code, condition⟩ := Prod.mk.inj seen
  have reads := (follows 1 (by decide) (by decide) o found).1
  have set : conditionOf afterNested o.cfg = true := by
    unfold conditionOf
    rw [code]
    exact afterNested_flag
  rw [condition, set] at reads
  cases reads

/-! ## Reset -/

theorem reset_output {k : Nat} (low : 1 ≤ k) (high : k ≤ 6) : State.reset.output k = some (Output.idle OutputConfig.unset) := by
  unfold State.output
  rw [if_neg (by omega)]
  show (Vector.replicate 6 (Output.idle OutputConfig.unset))[k - 1]? = _
  rw [Vector.getElem?_replicate, if_pos (by omega)]

/-- Settles O3: reset is spelled out field by field. -/
theorem resetLeavesTheStartUpValues : Obligations.ResetLeavesTheStartUpValues := by
  have port (p : PortId) : (State.reset.port p).rx = .hunt ∧ (State.reset.port p).tx = none ∧
      ∀ n ∈ portCounts p State.reset, n = 0 := by
    cases p <;> exact ⟨rfl, rfl, by decide⟩
  refine ⟨rfl, fun i => entryAt_empty, fun i => entryAt_empty, fun i => entryAt_empty, fun i => entryAt_empty, rfl, fun k low high => reset_output low high, rfl, rfl,
    rfl, rfl, rfl, rfl, port, rfl, rfl, rfl, rfl, rfl, rfl, rfl, rfl, by decide, rfl, rfl, ?_⟩
  have restarted : State.finish (State.reset.powerUp.startUp true) (State.reset.powerUp.startUp true) = State.reset := by
    decide +kernel
  exact congrArg Host.Outcome.next restarted

/-- No entry of any table is loaded at reset. -/
theorem reset_bare : State.reset.Bare :=
  ⟨fun _ _ found => Option.some_ne_none _ (found.symm.trans entryAt_empty),
    fun _ _ found => Option.some_ne_none _ (found.symm.trans entryAt_empty),
    fun _ _ found => Option.some_ne_none _ (found.symm.trans entryAt_empty), fun _ => entryAt_empty, rfl⟩

/-- Nothing has run out at reset. -/
theorem reset_settled : Settled State.reset := by
  obtain ⟨stations, _, sectors, vacant, queue⟩ := reset_bare
  have zone (z : Nat) (x : Zone) (found : State.reset.zone z = some x) : False := by
    rw [vacant] at found
    cases found
  refine settled_of_none_out fun q out => ?_
  cases q with
  | onTime k =>
    obtain ⟨o, found, due⟩ := out
    have range := State.output_range found
    cases (reset_output range.1 range.2).symm.trans found
    cases due
  | cycle k =>
    obtain ⟨o, found, due⟩ := out
    have range := State.output_range found
    cases (reset_output range.1 range.2).symm.trans found
    cases due
  | silence i => obtain ⟨x, found, _⟩ := out; exact stations i x found
  | blind i => obtain ⟨x, found, _⟩ := out; exact sectors i x found
  | bin i => obtain ⟨x, found, _⟩ := out; exact sectors i x found
  | again z a => obtain ⟨e, member, _⟩ := out; rw [queue] at member; cases member
  | status => cases out
  | force z => obtain ⟨x, found, _⟩ := out; exact zone z x found
  | hold z => obtain ⟨x, found, _⟩ := out; exact zone z x found
  | refresh z => obtain ⟨x, found, _⟩ := out; exact zone z x found

theorem reset_periods : State.reset.Periods := by
  obtain ⟨stations, _, sectors, vacant, _⟩ := reset_bare
  refine ⟨fun i x found => (stations i x found).elim, fun i x found => (sectors i x found).elim, fun z x found => ?_,
    State.emptyTables_outputs State.reset⟩
  rw [vacant] at found
  cases found

/-- Settles O4: at reset the tables are empty and every count and countdown rests. -/
theorem keptPropertiesHoldAtReset : Obligations.KeptPropertiesHoldAtReset := by
  obtain ⟨stations, lanes, sectors, zones⟩ := reset_bare
  have dispatch := State.noZones_sound zones
  have follows : OutputsFollow State.reset := by unfold OutputsFollow; decide +kernel
  refine ⟨by unfold TimeLegal; decide, by unfold QueuesBounded; decide, by unfold CountersBounded; decide +kernel,
    blankIsEmpty_iff.mpr fun _ => reset_bare, ⟨fun watching => absurd watching (by decide), trivial, fun j saved => absurd saved (Option.not_mem_none j)⟩,
    sectorsStaged_iff.mpr fun i x found => (sectors i x found).elim, zonesCovered_iff.mpr fun z x found => ?covered,
    sirensListed_iff.mpr ⟨dispatch.1, trivial, fun j saved => absurd saved (Option.not_mem_none j)⟩, dispatch.2,
    stationsLegal_iff.mpr fun i x found => (stations i x found).elim,
    lanesLegal_iff.mpr fun i x found => (lanes i x found).elim, follows, by unfold NoticesLegal; decide +kernel,
    binsBounded_iff.mpr fun i x found => (sectors i x found).elim,
    periodsRun_iff.mpr ⟨reset_periods, trivial, fun j saved => absurd saved (Option.not_mem_none j)⟩, reset_settled⟩
  rw [zones.1] at found
  cases found

end Sys2Proof.Machine
end

section
/-! Proofs of the statements on receiving and on the forwarding decisions (chapter 1). -/

namespace Sys2Proof.Machine

/-! ## The check code (R2, R203) -/

/-- The bits of a byte, the most significant first. -/
def bitsOf (b : Byte) : List Bool :=
  (List.range 8).map (fun k => b.getLsbD (7 - k))

/-- The check code of some bytes takes them bit after bit. -/
theorem crc16_bits (bytes : List Byte) : crc16 bytes = (bytes.flatMap bitsOf).foldl crcShift 0xFFFF := by
  rw [List.foldl_flatMap]
  exact congrArg (fun f => bytes.foldl f 0xFFFF) (funext fun c => funext fun b => crcByte_bits c b)

/-! ## A receiver that waits for mark (R5) -/

theorem State.receive_of_not_mark {p : PortId} {b : Byte} {s : State} (line : (s.port p).line ≠ .mark) :
    s.receive p b = s := if_neg line

theorem State.feed_of_not_mark {p : PortId} {f : Frame} {s : State} (line : (s.port p).line ≠ .mark) :
    s.feed p f = s := by
  unfold State.feed
  induction frameWire f with
  | nil => rfl
  | cons b rest ih => rw [List.foldl_cons, State.receive_of_not_mark line, ih]

/-- Settles O6: a whole frame comes to its judgement, and the check code judged by is taken bit after bit. -/
theorem wholeFrameIsJudgedByItsCheckCode : Obligations.WholeFrameIsJudgedByItsCheckCode := by
  unfold Obligations.WholeFrameIsJudgedByItsCheckCode
  refine ⟨?code, ?good, ?differs, ?notMark⟩
  case code => exact fun f => crc16_bits (frameLen f :: frameBody f)
  case good =>
    intro p f s₀ s good
    rw [exec_frameReceived, State.feed_goodArrival good]
  case differs =>
    intro p f s₀ s arrives differs
    have judged : judgeFrame (frameLen f) (frameBody f) f.crc = .crcError := judgeFrame_differs (Ne.symm differs)
    rw [exec_frameReceived, State.feed_arrives arrives, judged]
    rfl
  case notMark =>
    intro p f s₀ s line
    rw [exec_frameReceived, State.feed_of_not_mark line]

/-! ## Gaps and broken characters (R5) -/

theorem Port.endFrame_hunt {q : Port} (rx : q.rx = .hunt) : q.endFrame = q := by
  simp [Port.endFrame, Receiver.busy, rx]

theorem Port.endFrame_busy {q : Port} (rx : q.rx ≠ .hunt) :
    q.endFrame = { q with rx := .hunt, framing := satInc q.framing } := by
  have busy : q.rx.busy = true := by
    cases h : q.rx with
    | hunt => exact absurd h rx
    | length | body | check => rfl
  unfold Port.endFrame
  rw [if_pos busy]
  rfl

theorem Port.breakChar_busy {q : Port} (line : q.line = .mark) (rx : q.rx ≠ .hunt) :
    q.breakChar = { q with rx := .hunt, framing := satInc q.framing, line := .space } := by
  unfold Port.breakChar
  rw [if_pos line, Port.endFrame_busy rx]

theorem Port.breakChar_of_not_mark {q : Port} (line : q.line ≠ .mark) : q.breakChar = q := if_neg line

theorem exec_idleGap {p : PortId} {s t : State} (h : s.settle.updPort p Port.endFrame = t) :
    exec (.idleGap p) s = .next (State.finish s.settle t) := by
  subst h
  rfl

/-- A change of one port that leaves that port as it is changes nothing. -/
theorem State.updPort_of_self {p : PortId} {f : Port → Port} {s : State} (h : f (s.port p) = s.port p) :
    s.updPort p f = s :=
  (State.updPort_congr h).trans (s.updPort_id p)

/-- Settles O7: one rule for a frame in progress, one for HUNT, and one for a line at space. -/
theorem gapsAndBrokenCharactersEndFrames : Obligations.GapsAndBrokenCharactersEndFrames := by
  unfold Obligations.GapsAndBrokenCharactersEndFrames
  intro p s₀ s
  refine ⟨?gapHunt, ?gapBusy, ?broken, ?space, rfl⟩
  case gapHunt => exact fun rx => exec_idleGap (State.updPort_of_self (Port.endFrame_hunt rx))
  case gapBusy => exact fun rx => exec_idleGap (State.updPort_congr (Port.endFrame_busy rx))
  case broken => exact fun line rx => exec_brokenCharacter (State.updPort_congr (Port.breakChar_busy line rx))
  case space =>
    intro line
    exact ⟨exec_brokenCharacter (State.updPort_of_self (Port.breakChar_of_not_mark line)),
      fun b => exec_characterReceived (State.receive_of_not_mark line)⟩

/-! ## Finding the loaded station of an address (R9, R14) -/

theorem State.stationAt_of_only {a : Byte} {i : Nat} {s : State} {x : Station} (loaded : s.station i = some x)
    (addr : x.cfg.addr = a) (only : OnlyStation i a s) : s.stationAt a = some i := by
  refine List.find?_range_eq_some.mpr ⟨by simp [loaded, addr], List.mem_range.mpr (lt_of_entryAt loaded), ?_⟩
  intro j before
  have inTable : i < 16 := lt_of_entryAt loaded
  have other := only j (by omega) (by omega)
  cases h : s.station j with
  | none => simp
  | some y => simpa using other y h

theorem State.stationAt_of_none {a : Byte} {s : State} (none : NoStation a s) : s.stationAt a = .none := by
  refine List.find?_eq_none.mpr fun j inTable => ?_
  cases h : s.station j with
  | none => simp
  | some y => simpa using none j (List.mem_range.mp inTable) y h

theorem State.sourceOf_of_only {f : Frame} {i : Nat} {s : State} {x : Station} (loaded : s.station i = some x)
    (addr : x.cfg.addr = f.src) (only : OnlyStation i f.src s) : s.sourceOf f = some (i, x) := by
  unfold State.sourceOf
  rw [State.stationAt_of_only loaded addr only, Option.bind_some, loaded]
  rfl

theorem State.sourceOf_of_none {f : Frame} {s : State} (none : NoStation f.src s) : s.sourceOf f = .none := by
  unfold State.sourceOf
  rw [State.stationAt_of_none none]
  rfl

theorem State.arrived_stations (p : PortId) (s : State) : (s.arrived p).stations = s.stations := by
  cases p <;> rfl

theorem State.arrived_station (p : PortId) (i : Nat) (s : State) : (s.arrived p).station i = s.station i :=
  congrArg (entryAt · i) (s.arrived_stations p)

theorem OnlyStation.arrived {i : Nat} {a : Byte} {s : State} (h : OnlyStation i a s) (p : PortId) :
    OnlyStation i a (s.arrived p) := by
  simpa only [OnlyStation, State.arrived_station] using h

theorem NoStation.arrived {a : Byte} {s : State} (h : NoStation a s) (p : PortId) : NoStation a (s.arrived p) := by
  simpa only [NoStation, State.arrived_station] using h

theorem AddressesOk.passed {node : Byte} {f : Frame} (h : AddressesOk node f) : badAddress node f = false := by
  obtain ⟨dst, src, broadcast, self⟩ := h
  rw [← Bool.not_eq_true, badAddress_iff]
  exact fun bad => bad.elim dst (fun bad => bad.elim src (fun bad => bad.elim broadcast self))

/-- A good arrival takes its port's decision on the state that has counted it. -/
theorem exec_goodArrival {p : PortId} {f : Frame} {s t : State} (good : GoodArrival p f s.settle)
    (decision : (s.settle.arrived p).decideFrame p f = t) :
    exec (.frameReceived p f) s = .next (State.finish s.settle t) := by
  rw [exec_frameReceived, State.feed_goodArrival good, decision]

/-! ## Crest frames (R8, R9, R11) -/

/-- A frame that R7 passes, at a crest port. -/
theorem State.decideFrame_crest {d : Side} {f : Frame} {s : State} (ok : AddressesOk s.node f) :
    s.decideFrame d.portId f =
      if f.kind = 0x20 ∧ f.dst = s.node then s.updCrest d CrestPort.countWrongSide
      else match s.sourceOf f with
        | some (i, x) => s.loadedStationFrame d i x f
        | none => s.otherCrestFrame d f := by
  cases d <;> exact if_neg (by simp [ok.passed])

theorem State.decideFrame_command {d : Side} {f : Frame} {s : State} (ok : AddressesOk s.node f)
    (kind : f.kind = 0x20) (dst : f.dst = s.node) :
    s.decideFrame d.portId f = s.updCrest d CrestPort.countWrongSide := by
  rw [State.decideFrame_crest ok, if_pos ⟨kind, dst⟩]

theorem State.decideFrame_unknown {d : Side} {f : Frame} {s : State} (ok : AddressesOk s.node f)
    (other : ¬ (f.kind = 0x20 ∧ f.dst = s.node)) (none : NoStation f.src s) :
    s.decideFrame d.portId f = s.otherCrestFrame d f := by
  rw [State.decideFrame_crest ok, if_neg other, State.sourceOf_of_none none]

theorem State.decideFrame_loaded {d : Side} {f : Frame} {s : State} {i : Nat} {x : Station}
    (ok : AddressesOk s.node f) (other : f.kind ≠ 0x20 ∨ f.dst ≠ s.node) (loaded : s.station i = some x)
    (addr : x.cfg.addr = f.src) (only : OnlyStation i f.src s) :
    s.decideFrame d.portId f = s.loadedStationFrame d i x f := by
  rw [State.decideFrame_crest ok, if_neg (not_and_or.mpr other), State.sourceOf_of_only loaded addr only]

theorem stationKind_iff {k : Byte} : stationKind k = true ↔ k = 0x11 ∨ k = 0x12 ∨ k = 0x13 := by
  simp only [stationKind, Bool.or_eq_true, decide_eq_true_eq, or_assoc]
  exact Iff.rfl

theorem State.otherCrestFrame_stationKind {d : Side} {f : Frame} {s : State}
    (kind : f.kind = 0x11 ∨ f.kind = 0x12 ∨ f.kind = 0x13) :
    s.otherCrestFrame d f = (s.updCrest d CrestPort.countUnknown).appendForward f :=
  if_pos (stationKind_iff.mpr kind)

theorem State.otherCrestFrame_forPart {d : Side} {f : Frame} {s : State} (kind : stationKind f.kind = false)
    (dst : f.dst = s.node) : s.otherCrestFrame d f = s.updCrest d CrestPort.countWrongSide := by
  unfold State.otherCrestFrame
  rw [if_neg (by simp [kind]), if_pos dst]

theorem State.otherCrestFrame_forOther {d : Side} {f : Frame} {s : State} (kind : stationKind f.kind = false)
    (dst : f.dst ≠ s.node) : s.otherCrestFrame d f = s.appendForward f := by
  unfold State.otherCrestFrame
  rw [if_neg (by simp [kind]), if_neg dst]

theorem stationKind_eq_false {k : Byte} (sample : k ≠ 0x11) (pulse : k ≠ 0x12) (trip : k ≠ 0x13) :
    stationKind k = false := by
  rw [← Bool.not_eq_true, stationKind_iff]
  exact fun h => h.elim sample (fun h => h.elim pulse trip)

theorem State.countStation_of_loaded {i : Nat} {f : StationCounts → StationCounts} {s : State} {x : Station}
    (loaded : s.station i = some x) : s.countStation i f = s.setStation i (some { x with counts := f x.counts }) := by
  unfold State.countStation
  rw [loaded]

theorem State.loadedStationFrame_parked {d : Side} {i : Nat} {x : Station} {f : Frame} {s : State}
    (parked : x.cfg.parked = true) :
    s.loadedStationFrame d i x f = (s.updCrest d CrestPort.countParked).appendForward f := if_pos parked

theorem State.loadedStationFrame_wrongPort {d : Side} {i : Nat} {x : Station} {f : Frame} {s : State}
    (loaded : s.station i = some x) (parked : x.cfg.parked = false) (port : x.cfg.port ≠ d) :
    s.loadedStationFrame d i x f =
      (s.setStation i (some { x with counts := { x.counts with wrongPort := satInc x.counts.wrongPort } })).appendForward
        f := by
  unfold State.loadedStationFrame
  rw [if_neg (by simp [parked]), if_pos port, State.countStation_of_loaded loaded]

theorem State.loadedStationFrame_wrongKind {d : Side} {i : Nat} {x : Station} {f : Frame} {s : State}
    (loaded : s.station i = some x) (parked : x.cfg.parked = false) (port : x.cfg.port = d)
    (kind : f.kind ≠ x.cfg.cls.kind) :
    s.loadedStationFrame d i x f =
      (s.setStation i (some { x with counts := { x.counts with wrongKind := satInc x.counts.wrongKind } })).appendForward
        f := by
  unfold State.loadedStationFrame
  rw [if_neg (by simp [parked]), if_neg (not_not.mpr port), if_pos kind, State.countStation_of_loaded loaded]

theorem State.loadedStationFrame_candidate {d : Side} {i : Nat} {x : Station} {f : Frame} {s : State}
    (parked : x.cfg.parked = false) (port : x.cfg.port = d) (kind : f.kind = x.cfg.cls.kind) :
    s.loadedStationFrame d i x f = s.stationFrame i x f := by
  unfold State.loadedStationFrame
  rw [if_neg (by simp [parked]), if_neg (not_not.mpr port), if_neg (not_not.mpr kind)]

/-- Settles O9: the order of R8, R9 and R11, one rule for each class of frame. -/
theorem crestFramesAreDecided : Obligations.CrestFramesAreDecided := by
  unfold Obligations.CrestFramesAreDecided
  refine ⟨fun n => ⟨rfl, rfl, rfl⟩, ?unknown, ?loaded⟩
  case unknown =>
    intro d f s₀ s good ok
    have node : (s.arrived d.portId).node = s.node := State.arrived_node ..
    have passed : AddressesOk (s.arrived d.portId).node f := node.symm ▸ ok
    refine ⟨?command, ?stationKind, ?forPart, ?forOther⟩
    case command => exact fun kind dst => exec_goodArrival good (State.decideFrame_command passed kind (dst.trans node.symm))
    case stationKind =>
      intro none kind
      have notCommand : f.kind ≠ 0x20 := by
        rintro command
        simp [command] at kind
      exact exec_goodArrival good
        ((State.decideFrame_unknown passed (fun h => notCommand h.1) (none.arrived _)).trans
          (State.otherCrestFrame_stationKind kind))
    case forPart =>
      intro none sample pulse trip dst
      by_cases command : f.kind = 0x20
      · exact exec_goodArrival good (State.decideFrame_command passed command (dst.trans node.symm))
      · exact exec_goodArrival good
          ((State.decideFrame_unknown passed (fun h => command h.1) (none.arrived _)).trans
            (State.otherCrestFrame_forPart (stationKind_eq_false sample pulse trip) (dst.trans node.symm)))
    case forOther =>
      intro none sample pulse trip dst
      have elsewhere : f.dst ≠ (s.arrived d.portId).node := node.symm ▸ dst
      exact exec_goodArrival good
        ((State.decideFrame_unknown passed (fun h => elsewhere h.2) (none.arrived _)).trans
          (State.otherCrestFrame_forOther (stationKind_eq_false sample pulse trip) elsewhere))
  case loaded =>
    intro d f s₀ i x s good ok other loaded addr only
    have node : (s.arrived d.portId).node = s.node := State.arrived_node ..
    have passed : AddressesOk (s.arrived d.portId).node f := node.symm ▸ ok
    have found : (s.arrived d.portId).station i = some x := (State.arrived_station ..).trans loaded
    have decided : (s.arrived d.portId).decideFrame d.portId f = (s.arrived d.portId).loadedStationFrame d i x f :=
      State.decideFrame_loaded passed (node.symm ▸ other) found addr (only.arrived _)
    refine ⟨fun parked => ?_, fun parked port => ?_, fun parked port kind => ?_, fun parked port kind => ?_⟩
    · exact exec_goodArrival good (decided.trans (State.loadedStationFrame_parked parked))
    · exact exec_goodArrival good (decided.trans (State.loadedStationFrame_wrongPort found parked port))
    · exact exec_goodArrival good (decided.trans (State.loadedStationFrame_wrongKind found parked port kind))
    · exact exec_goodArrival good (decided.trans (State.loadedStationFrame_candidate parked port kind))

/-! ## Valley frames (R12, R13, R14) -/

/-- A frame that R7 passes, at the Valley port. -/
theorem State.decideFrame_valley {f : Frame} {s : State} (ok : AddressesOk s.node f) :
    s.decideFrame .valley f =
      if f.dst = s.node then s.frameForPart f else if f.dst = 255 then s.broadcastFrame f else s.forwardCrest f :=
  if_neg (by simp [ok.passed])

theorem State.decideFrame_forPart {f : Frame} {s : State} (ok : AddressesOk s.node f) (dst : f.dst = s.node) :
    s.decideFrame .valley f = s.frameForPart f := by
  rw [State.decideFrame_valley ok, if_pos dst]

theorem State.decideFrame_broadcast {f : Frame} {s : State} (ok : AddressesOk s.node f) (dst : f.dst ≠ s.node)
    (broadcast : f.dst = 255) : s.decideFrame .valley f = s.broadcastFrame f := by
  rw [State.decideFrame_valley ok, if_neg dst, if_pos broadcast]

theorem State.decideFrame_other {f : Frame} {s : State} (ok : AddressesOk s.node f) (dst : f.dst ≠ s.node)
    (single : f.dst ≠ 255) : s.decideFrame .valley f = s.forwardCrest f := by
  rw [State.decideFrame_valley ok, if_neg dst, if_neg single]

theorem State.frameForPart_command {f : Frame} {s : State} (kind : f.kind = 0x20) :
    s.frameForPart f = s.takePayload f.src f.payload := if_pos kind

theorem State.frameForPart_ack {f : Frame} {s : State} (kind : f.kind = 0x31) :
    s.frameForPart f = s.takeAck f.src f.payload := by
  unfold State.frameForPart
  rw [if_neg (by rw [kind]; decide), if_pos (show f.kind = kindAck from kind)]

theorem State.frameForPart_other {f : Frame} {s : State} (command : f.kind ≠ 0x20) (ack : f.kind ≠ 0x31) :
    s.frameForPart f = { s with valley := s.valley.countNotForPart } := by
  unfold State.frameForPart
  rw [if_neg (show f.kind ≠ kindCommand from command), if_neg (show f.kind ≠ kindAck from ack)]

theorem broadcastIdent_iff {f : Frame} :
    broadcastIdent f = true ↔ f.kind = 0x20 ∧ f.payload.head? = some 0x01 := by
  simp only [broadcastIdent, Bool.and_eq_true, decide_eq_true_eq]
  exact Iff.rfl

theorem State.broadcastFrame_ident {f : Frame} {s : State} (ident : broadcastIdent f = true) :
    s.broadcastFrame f = (s.appendBoth f).takePayload f.src f.payload := if_pos ident

theorem State.broadcastFrame_other {f : Frame} {s : State} (other : broadcastIdent f = false) :
    s.broadcastFrame f = s.appendBoth f := if_neg (by simp [other])

theorem State.forwardCrest_of_only {f : Frame} {i : Nat} {s : State} {x : Station} (loaded : s.station i = some x)
    (addr : x.cfg.addr = f.dst) (only : OnlyStation i f.dst s) : s.forwardCrest f = s.appendCrest x.cfg.port f := by
  unfold State.forwardCrest
  rw [State.stationAt_of_only loaded addr only, Option.bind_some, loaded]

theorem State.forwardCrest_of_none {f : Frame} {s : State} (none : NoStation f.dst s) :
    s.forwardCrest f = s.appendBoth f := by
  unfold State.forwardCrest
  rw [State.stationAt_of_none none]
  rfl

theorem State.arrived_notForPart (s : State) : (s.arrived .valley).valley.notForPart = s.valley.notForPart := rfl

/-- Settles O10: the part's own address first, then the broadcast, then the crest-ward side of the station. -/
theorem valleyFramesGoToTheirTaker : Obligations.ValleyFramesGoToTheirTaker := by
  unfold Obligations.ValleyFramesGoToTheirTaker
  intro f s₀ s good ok
  have node : (s.arrived .valley).node = s.node := State.arrived_node ..
  have passed : AddressesOk (s.arrived .valley).node f := node.symm ▸ ok
  rw [← node]
  refine ⟨?command, ?ack, ?neither, ?ident, ?broadcast, ?loaded, ?unknown⟩
  case command =>
    intro dst kind
    exact exec_goodArrival good ((State.decideFrame_forPart passed dst).trans (State.frameForPart_command kind))
  case ack =>
    intro dst kind
    exact exec_goodArrival good ((State.decideFrame_forPart passed dst).trans (State.frameForPart_ack kind))
  case neither =>
    intro dst command ack
    rw [← State.arrived_notForPart]
    exact exec_goodArrival good ((State.decideFrame_forPart passed dst).trans (State.frameForPart_other command ack))
  case ident =>
    intro dst broadcast kind head
    exact exec_goodArrival good ((State.decideFrame_broadcast passed dst broadcast).trans
      (State.broadcastFrame_ident (broadcastIdent_iff.mpr ⟨kind, head⟩)))
  case broadcast =>
    intro dst broadcast other
    have notIdent : broadcastIdent f = false := by
      rw [← Bool.not_eq_true, broadcastIdent_iff]
      exact not_and_or.mpr other
    exact exec_goodArrival good ((State.decideFrame_broadcast passed dst broadcast).trans
      (State.broadcastFrame_other notIdent))
  case loaded =>
    intro i x dst single loaded addr only
    exact exec_goodArrival good ((State.decideFrame_other passed dst single).trans
      (State.forwardCrest_of_only ((State.arrived_station ..).trans loaded) addr (only.arrived _)))
  case unknown =>
    intro dst single none
    exact exec_goodArrival good ((State.decideFrame_other passed dst single).trans
      (State.forwardCrest_of_none (none.arrived _)))

end Sys2Proof.Machine

end

section
/-! Proofs of the statements on the queues and on sending (chapter 1): what a queue takes or sheds, what a completion
frees, and what an idle transmitter takes. -/

namespace Sys2Proof.Machine

/-! ## The crest-ward queues and the valley forward queue (R14, R15) -/

/-- Only the crest port as it stands matters to a change of it. -/
theorem State.updCrest_congr {d : Side} {f g : CrestPort → CrestPort} {s : State} (h : f (s.crest d) = g (s.crest d)) :
    s.updCrest d f = s.updCrest d g := by
  cases d with
  | a => exact congrArg (fun c => { s with crestA := c }) h
  | b => exact congrArg (fun c => { s with crestB := c }) h

/-- A change that leaves a crest port as it is changes nothing. -/
theorem State.updCrest_of_self {d : Side} {f : CrestPort → CrestPort} {s : State} (h : f (s.crest d) = s.crest d) :
    s.updCrest d f = s := by
  rw [State.updCrest_congr (g := fun c => c) h]
  cases d <;> rfl

theorem CrestPort.append_below {f : Frame} {c : CrestPort} (h : c.queue.length < 8) :
    c.append f = { c with queue := c.queue ++ [f] } := if_pos h

theorem CrestPort.append_full {f : Frame} {c : CrestPort} (h : 8 ≤ c.queue.length) :
    c.append f = { c with crestDrop := satInc c.crestDrop } := if_neg (by omega)

theorem State.appendForward_below {f : Frame} {s : State} (h : s.valley.forward.length < 32) :
    s.appendForward f = { s with valley := { s.valley with forward := s.valley.forward ++ [f] } } := if_pos h

theorem isSample_iff {f : Frame} : isSample f = true ↔ f.kind = 0x11 := by
  simp only [isSample, decide_eq_true_eq]
  exact Iff.rfl

/-- A full forward queue sheds its oldest SAMPLE for the frame that arrives. -/
theorem State.appendForward_sheds {f old : Frame} {before after : List Frame} {s : State}
    (full : 32 ≤ s.valley.forward.length) (queue : s.valley.forward = before ++ old :: after)
    (first : ∀ g ∈ before, g.kind ≠ 0x11) (sample : old.kind = 0x11) :
    s.appendForward f =
      ({ s with valley := { s.valley with forward := before ++ after ++ [f] } }).forwardDropped old := by
  have old_sample : isSample old = true := isSample_iff.mpr sample
  have none_before : ∀ g ∈ before, ¬ isSample g = true := fun g there => mt isSample_iff.mp (first g there)
  have found : s.valley.forward.find? isSample = some old :=
    List.find?_eq_some_iff_append.mpr ⟨old_sample, before, after, queue, by simpa using none_before⟩
  have shed : s.valley.forward.eraseP isSample = before ++ after := by
    rw [queue, List.eraseP_append_right _ none_before, List.eraseP_cons_of_pos old_sample]
  unfold State.appendForward
  rw [if_neg (by omega), found, shed]

/-- A full forward queue that holds no SAMPLE drops the frame that arrives. -/
theorem State.appendForward_drops {f : Frame} {s : State} (full : 32 ≤ s.valley.forward.length)
    (noSample : ∀ g ∈ s.valley.forward, g.kind ≠ 0x11) : s.appendForward f = s.forwardDropped f := by
  have found : s.valley.forward.find? isSample = none :=
    List.find?_eq_none.mpr fun g there => mt isSample_iff.mp (noSample g there)
  unfold State.appendForward
  rw [if_neg (by omega), found]

/-- Settles O11: one rule for a queue below its limit and one for each way a full queue sheds. -/
theorem queuesTakeOrShedFrames : Obligations.QueuesTakeOrShedFrames := by
  unfold Obligations.QueuesTakeOrShedFrames
  intro f s
  refine ⟨fun d below => ?_, fun d full => ?_, State.appendForward_below, fun before old after full queue first sample => ?_,
    State.appendForward_drops⟩
  · exact State.updCrest_congr (CrestPort.append_below below)
  · exact State.updCrest_congr (CrestPort.append_full full)
  · exact State.appendForward_sheds full queue first sample

/-! ## Transmit completions (R17) -/

theorem State.completeTransmit_nothing {p : PortId} {f : Frame} {s : State}
    (sending : (s.port p).tx = some { frame := f, effect := .nothing }) :
    s.completeTransmit p = s.updPort p (fun q => { q with tx := none, sent := satInc q.sent }) := by
  unfold State.completeTransmit
  rw [sending]
  rfl

theorem eventStep_eq (f : State → State) (s : State) : eventStep f s = .next (State.finish s.settle (f s.settle)) := rfl

theorem exec_transmitCompletion (p : PortId) (s : State) : exec (.transmitCompletion p) s = execTransmitCompletion p s := rfl

theorem exec_transmitCompletion_idle {p : PortId} {s : State} (idle : (s.port p).tx = none) :
    exec (.transmitCompletion p) s = .next (State.finish s.settle s.settle) := by
  rw [exec_transmitCompletion, execTransmitCompletion, if_pos idle, eventStep_eq, id]

theorem exec_transmitCompletion_nothing {p : PortId} {f : Frame} {s : State}
    (sending : (s.port p).tx = some { frame := f, effect := .nothing }) :
    exec (.transmitCompletion p) s = .next (State.finish s.settle (s.settle.completeTransmit p)) := by
  have busy : (s.port p).tx ≠ none := by simp [sending]
  have noReset : ¬ s.completesReset p = true := by simp [State.completesReset, sending]
  rw [exec_transmitCompletion, execTransmitCompletion, if_neg busy, if_neg noReset, eventStep_eq]

/-- Settles O12: a port that is sending keeps its frame through the settling, and its completion frees it. -/
theorem transmitCompletionFreesThePort : Obligations.TransmitCompletionFreesThePort := by
  unfold Obligations.TransmitCompletionFreesThePort
  refine ⟨fun n k => ⟨rfl, rfl⟩, ?_⟩
  intro p s₀ s
  refine ⟨exec_transmitCompletion_idle, fun f sending => ?_⟩
  have kept : s.port p = s₀.port p := State.settle_port (by simp [sending])
  rw [exec_transmitCompletion_nothing sending, State.completeTransmit_nothing (by rw [kept, sending])]

/-! ## The due siren an idle Valley transmitter takes (R126) -/

/-- A change made by key, where keys are distinct, changes the one member it names. -/
theorem map_at {α κ : Type} [DecidableEq κ] {key : α → κ} (g : α → α) {before after : List α} {a : α}
    (distinct : ((before ++ a :: after).map key).Nodup) :
    (before ++ a :: after).map (fun x => if key x = key a then g x else x) = before ++ g a :: after := by
  rw [List.map_append, List.map_cons, List.nodup_middle, List.nodup_cons, List.mem_append] at distinct
  have apart : ∀ x, x ∈ before ∨ x ∈ after → key x ≠ key a := fun x there same =>
    distinct.1 (there.imp (fun there => same ▸ List.mem_map_of_mem there) (fun there => same ▸ List.mem_map_of_mem there))
  have stay : ∀ l : List α, (∀ x ∈ l, key x ≠ key a) → l.map (fun x => if key x = key a then g x else x) = l :=
    fun l h => (List.map_congr_left fun x there => if_neg (h x there)).trans (List.map_id l)
  rw [List.map_append, List.map_cons, if_pos rfl, stay before (fun x there => apart x (.inl there)),
    stay after (fun x there => apart x (.inr there))]

theorem SirenRecord.due_iff {r : SirenRecord} : r.due = true ↔ r.state = .pending ∧ r.cd = none := by
  simp [SirenRecord.due]

theorem SirenRecord.not_due {r : SirenRecord} (h : r.state ≠ .pending ∨ r.cd ≠ none) : ¬ r.due = true :=
  fun due => h.elim (fun h => h (SirenRecord.due_iff.mp due).1) (fun h => h (SirenRecord.due_iff.mp due).2)

theorem firstDue_eq_none {rs : List SirenRecord} (h : ∀ q ∈ rs, q.state ≠ .pending ∨ q.cd ≠ none) : firstDue rs = none :=
  List.find?_eq_none.mpr fun q there => SirenRecord.not_due (h q there)

theorem firstDue_eq_some {waiting rest : List SirenRecord} {r : SirenRecord}
    (wait : ∀ q ∈ waiting, q.state ≠ .pending ∨ q.cd ≠ none) (pending : r.state = .pending) (cd : r.cd = none) :
    firstDue (waiting ++ r :: rest) = some r :=
  List.find?_eq_some_iff_append.mpr ⟨SirenRecord.due_iff.mpr ⟨pending, cd⟩, waiting, rest, rfl,
    fun q there => by simpa using SirenRecord.not_due (wait q there)⟩

theorem dueRecord_eq_none {q : List Entry} (h : ∀ y ∈ q, ∀ r ∈ y.records, r.state ≠ .pending ∨ r.cd ≠ none) :
    dueRecord q = none :=
  List.findSome?_eq_none_iff.mpr fun y there => by rw [firstDue_eq_none (h y there)]; rfl

theorem dueRecord_eq_some {before after : List Entry} {e : Entry} {r : SirenRecord}
    (none_before : ∀ y ∈ before, ∀ q ∈ y.records, q.state ≠ .pending ∨ q.cd ≠ none) (due : firstDue e.records = some r) :
    dueRecord (before ++ e :: after) = some (e, r) :=
  List.findSome?_eq_some_iff.mpr ⟨before, e, after, rfl, by rw [due]; rfl,
    fun y there => by rw [firstDue_eq_none (none_before y there)]; rfl⟩

/-- The sending of an ALERT rewrites the one record of the one entry it is sent for. -/
theorem State.alertSent_at {before after : List Entry} {e : Entry} {waiting rest : List SirenRecord} {r : SirenRecord}
    {s : State} (queue : s.dispatch.queue = before ++ e :: after) (records : e.records = waiting ++ r :: rest)
    (zones : (s.dispatch.queue.map Entry.zone).Nodup) (addrs : (e.records.map SirenRecord.addr).Nodup) :
    s.alertSent e.zone r.addr = { s with dispatch := { s.dispatch with
      queue := before ++ { e with
        records := waiting ++ { r with
          tries := r.tries + 1
          cd := (s.zone e.zone).map (fun (x : Zone) => x.cfg.repeatInterval) } :: rest } :: after } } := by
  rw [queue] at zones
  rw [records] at addrs
  have sent := map_at (key := Entry.zone)
    (fun x => { x with records := updRecord r.addr (fun y => { y with
      tries := y.tries + 1, cd := (s.zone e.zone).map (fun (x : Zone) => x.cfg.repeatInterval) }) x.records }) zones
  unfold updRecord at sent
  rw [records, map_at (key := SirenRecord.addr) _ addrs, ← queue] at sent
  exact congrArg (fun q => { s with dispatch := { s.dispatch with queue := q } }) sent

/-! ## A frame the part originates (R2) -/

/-- The check code covers the fields before it (R2). -/
theorem composeFrame_crc (dst src kind seq : Byte) (payload : List Byte) :
    (composeFrame dst src kind seq payload).crc = frameCrc (composeFrame dst src kind seq payload) := by
  have length : frameLen (composeFrame dst src kind seq payload) =
      frameLen { dst := dst, src := src, kind := kind, seq := seq, payload := payload, crc := 0 } := rfl
  have body : frameBody (composeFrame dst src kind seq payload) =
      frameBody { dst := dst, src := src, kind := kind, seq := seq, payload := payload, crc := 0 } := rfl
  have covered : frameCrc (composeFrame dst src kind seq payload) =
      frameCrc { dst := dst, src := src, kind := kind, seq := seq, payload := payload, crc := 0 } := by
    unfold frameCrc
    rw [length, body]
  rw [covered, composeFrame]

/-! ## What an idle Valley transmitter takes (R16) -/

theorem State.kickValley_busy {f : Sending} {s : State} (busy : s.valley.port.tx = some f) : s.kickValley = s :=
  if_pos (by simp [busy])

theorem State.kickValley_idle {s : State} (idle : s.valley.port.tx = none) : s.kickValley = s.takeValley :=
  if_neg (by simp [idle])

theorem State.takeValley_due {e : Entry} {r : SirenRecord} {s : State} (due : dueRecord s.dispatch.queue = some (e, r)) :
    s.takeValley = s.takeAlert e r := by
  unfold State.takeValley
  rw [due]

theorem State.takeValley_reply {r : Reply} {rest : List Reply} {s : State} (none_due : dueRecord s.dispatch.queue = none)
    (replies : s.replies = r :: rest) : s.takeValley = s.takeReply r rest := by
  unfold State.takeValley
  rw [none_due, replies]

theorem State.takeValley_notice {it : OutItem} {rest : List OutItem} {s : State}
    (none_due : dueRecord s.dispatch.queue = none) (replies : s.replies = []) (out : s.notices.out = it :: rest) :
    s.takeValley = s.takeNotice it rest := by
  unfold State.takeValley
  rw [none_due, replies, out]

theorem State.takeValley_forward {f : Frame} {rest : List Frame} {s : State}
    (none_due : dueRecord s.dispatch.queue = none) (replies : s.replies = []) (out : s.notices.out = [])
    (forward : s.valley.forward = f :: rest) : s.takeValley = s.takeForward f rest := by
  unfold State.takeValley
  rw [none_due, replies, out, forward]

theorem State.takeValley_nothing {s : State} (none_due : dueRecord s.dispatch.queue = none) (replies : s.replies = [])
    (out : s.notices.out = []) (forward : s.valley.forward = []) : s.takeValley = s := by
  unfold State.takeValley
  rw [none_due, replies, out, forward]

/-! ## Sets of bit numbers as a byte (R204) -/

theorem foldl_setBit (bits : List Nat) (b : Byte) (k : Nat) :
    (bits.foldl (fun (c : Byte) i => c ||| ((1 : Byte) <<< i)) b).getLsbD k = (b.getLsbD k || decide (k < 8 ∧ k ∈ bits)) := by
  induction bits generalizing b with
  | nil => simp
  | cons i rest ih =>
    rw [List.foldl_cons, ih, BitVec.getLsbD_or]
    have bit : ((1 : Byte) <<< i).getLsbD k = decide (k < 8 ∧ k = i) := by
      rw [Bool.eq_iff_iff, BitVec.getLsbD_shiftLeft, show (1 : Byte) = 1#8 from rfl, BitVec.getLsbD_one]
      simp
      omega
    rw [bit, Bool.or_assoc]
    congr 1
    rw [← Bool.decide_or]
    simp only [List.mem_cons]
    congr 1
    exact propext and_or_left.symm

theorem setByte_getLsbD (bits : List Nat) (k : Nat) : (setByte bits).getLsbD k = decide (k < 8 ∧ k ∈ bits) := by
  unfold setByte
  rw [foldl_setBit, show (0 : Byte) = 0#8 from rfl, BitVec.getLsbD_zero, Bool.false_or]

/-- A byte of flags: bit k is the flag at place k of the list. -/
theorem setByte_flags {n : Nat} (flags : List Bool) (size : flags.length = n) (fits : n ≤ 8) (k : Nat) :
    (setByte ((List.range n).filter (fun i => flags.getD i false))).getLsbD k = flags.getD k false := by
  rw [setByte_getLsbD, Bool.eq_iff_iff]
  simp only [decide_eq_true_eq, List.mem_filter, List.mem_range]
  refine ⟨fun h => h.2.2, fun set => ?_⟩
  have inside : k < flags.length := by
    by_contra outside
    rw [List.getD_eq_default _ _ (by omega)] at set
    cases set
  exact ⟨by omega, by omega, set⟩

theorem Causes.byte_getLsbD (c : Causes) (k : Nat) :
    c.byte.getLsbD k = [c.level, c.blind, c.rapid, c.surge, c.tripFault, c.trip, c.force, c.held].getD k false :=
  setByte_flags (n := 8) _ rfl (by omega) k

/-! ## The payloads the part composes (R205, R206) -/

theorem alertPayload_eq (e : Entry) : alertPayload e =
    [byteOf e.zone, e.serial, byteOf e.stage.num, e.causes.byte, if e.refresh then 1 else 0,
      (e.peakSector.map byteOf).getD 0xFF, (e.peak.map (fun p => byteOf p.lane)).getD 0xFF] ++
     (e.peak.map (fun p => be16 p.fill)).getD [0xFF, 0xFF] ++ be16 e.index ++ be16 e.created.day ++
     [byteOf e.created.hour, byteOf e.created.minute, byteOf e.created.second] := by
  unfold alertPayload optByte optWord
  cases e.peak <;> rfl

theorem timeBytes_length (t : Option TimeStamp) : (timeBytes t).length = 7 := by
  cases t <;> rfl

theorem Detail.bytes_length_le (d : Detail) : d.bytes.length ≤ 12 := by
  cases d with
  | silence i addr left entered heard => simp [Detail.bytes, timeBytes_length]
  | trip => simp [Detail.bytes, TimeStamp.bytes, be16]
  | stage | source | delivery | clockUnset | storeFault | forwardDrop | replyLost => simp [Detail.bytes]

/-- The bytes a detail that may be none lists. -/
def listedBytes (d : Option Detail) : List Byte :=
  (d.map Detail.bytes).getD []

theorem listedBytes_length_le (d : Option Detail) : (listedBytes d).length ≤ 12 := by
  cases d with
  | none => exact Nat.zero_le 12
  | some d => exact d.bytes_length_le

theorem detailBytes_eq (d : Option Detail) :
    detailBytes d = listedBytes d ++ List.replicate (12 - (listedBytes d).length) 0 := by
  have short := listedBytes_length_le d
  unfold detailBytes
  rw [show (d.map Detail.bytes).getD [] = listedBytes d from rfl, List.take_append,
    List.take_of_length_le short, List.take_replicate]
  congr 2
  omega

theorem ClassState.flag_byte (c : ClassState) : boolByte c.flag = if c.detail = none then 0 else 1 := by
  unfold ClassState.flag
  cases c.detail <;> rfl

theorem noticePayload_eq (c : NoticeClass) (u : NoticeUnit) :
    noticePayload c u = [byteOf c.num, if (u.get c).detail = none then 0 else 1] ++ be16 (u.get c).count ++
      listedBytes (u.get c).detail ++ List.replicate (12 - (listedBytes (u.get c).detail).length) 0 := by
  rw [noticePayload, ClassState.flag_byte, detailBytes_eq, List.append_assoc _ (listedBytes _)]

/-- The flag byte of a sector in a STATUS frame. -/
def sectorFlags (x : Option Sector) : Byte :=
  (x.map (fun y => setByte ((List.range 6).filter (fun i =>
    [y.blind, y.rapid, y.surge, y.tripFault, y.latched, y.cfg.parked].getD i false)))).getD 0

theorem sectorFlags_getLsbD (y : Sector) (k : Nat) : (sectorFlags (some y)).getLsbD k =
    [y.blind, y.rapid, y.surge, y.tripFault, y.trip.isSome, y.cfg.parked].getD k false :=
  setByte_flags [y.blind, y.rapid, y.surge, y.tripFault, y.latched, y.cfg.parked] (n := 6) rfl (by omega) k

theorem sectorStatus_eq (x : Option Sector) :
    sectorStatus x = [(x.map (fun y => byteOf y.stage.num)).getD 0, sectorFlags x] := by
  cases x <;> rfl

theorem pendingSet_getLsbD (u : NoticeUnit) (k : Nat) : (pendingSet u).getLsbD k =
    ([u.stage, u.source, u.silence, u.delivery, u.trip, u.fault].map (fun c => c.detail.isSome)).getD k false := by
  have numbers : (NoticeClass.all.filter (fun c => (u.get c).flag)).map NoticeClass.num =
      (List.range 6).filter (fun i => ([u.stage, u.source, u.silence, u.delivery, u.trip, u.fault].map
        (fun c => c.detail.isSome)).getD i false) := by
    have named : List.range 6 = NoticeClass.all.map NoticeClass.num := rfl
    rw [named, List.filter_map]
    exact congrArg (List.map _) (List.filter_congr fun c _ => by cases c <;> rfl)
  unfold pendingSet
  rw [numbers]
  exact setByte_flags (n := 6) _ rfl (by omega) k

theorem statusPayload_eq (s : State) : statusPayload s = [s.mode.byte] ++ s.time.now.bytes ++
    (List.range 12).map (fun z => ((s.zone z).map (fun x => byteOf x.stage.num)).getD 0) ++
    (List.range 8).flatMap (fun i => [((s.sector i).map (fun y => byteOf y.stage.num)).getD 0, sectorFlags (s.sector i)]) ++
    [pendingSet s.notices, byteOf s.dispatch.queue.length] := by
  unfold statusPayload
  rw [show (fun i => sectorStatus (s.sector i)) = _ from funext fun i => sectorStatus_eq (s.sector i)]
  rfl

/-- Settles O13: the five sources of the Valley transmitter in order, the bytes of what it composes, and the crest
transmitters. -/
theorem transmittersTakeInOrder : Obligations.TransmittersTakeInOrder := by
  unfold Obligations.TransmittersTakeInOrder
  refine ⟨⟨fun s f => State.kickValley_busy, ?originate, ?alert, ?rest⟩, ⟨alertPayload_eq, ?notice, ?status,
    fun n => ⟨rfl, rfl⟩, Causes.byte_getLsbD, fun m => rfl, rfl, rfl, rfl, rfl, rfl, rfl, rfl⟩, ?crest⟩
  case originate =>
    intro dst kind payload effect s
    exact ⟨composeFrame dst s.node kind (s.valley.seq + 1) payload, rfl, rfl, rfl, rfl, rfl,
      composeFrame_crc dst s.node kind (s.valley.seq + 1) payload, rfl⟩
  case alert =>
    intro s before after e waiting rest r idle queue records none_before wait pending cd zones addrs
    have due : dueRecord s.dispatch.queue = some (e, r) := by
      rw [queue]
      exact dueRecord_eq_some none_before (by rw [records]; exact firstDue_eq_some wait pending cd)
    rw [State.kickValley_idle idle, State.takeValley_due due, State.takeAlert,
      State.alertSent_at queue records zones addrs]
    rfl
  case rest =>
    intro s idle noneDue
    have none_due : dueRecord s.dispatch.queue = none := dueRecord_eq_none noneDue
    rw [State.kickValley_idle idle]
    refine ⟨fun r rest replies => ?_, fun c dst rest replies out => ?_, fun dst rest replies out => ?_,
      fun f rest replies out forward => ?_, fun replies out forward => ?_⟩
    · exact State.takeValley_reply none_due replies
    · exact State.takeValley_notice none_due replies out
    · exact State.takeValley_notice none_due replies out
    · exact State.takeValley_forward none_due replies out forward
    · exact State.takeValley_nothing none_due replies out forward
  case notice =>
    intro c u
    refine ⟨listedBytes (u.get c).detail, listedBytes_length_le _, noticePayload_eq c u, fun absent => ?_,
      fun d present => ?_⟩
    · rw [absent]
      rfl
    · rw [present]
      cases d with
      | source _ _ _ _ _ why => cases why <;> rfl
      | stage | silence | delivery | trip | clockUnset | storeFault | forwardDrop | replyLost => rfl
  case status =>
    intro s
    refine ⟨fun i => sectorFlags (s.sector i), pendingSet s.notices, statusPayload_eq s, fun i vacant => ?_,
      fun i y k loaded => ?_, pendingSet_getLsbD s.notices⟩
    · exact congrArg sectorFlags vacant
    · exact (congrArg (fun x => (sectorFlags x).getLsbD k) loaded).trans (sectorFlags_getLsbD y k)
  case crest =>
    intro d s
    refine ⟨fun f busy => ?_, fun empty => ?_, fun f rest idle queue => ?_⟩
    · exact State.updCrest_of_self (if_pos (by simp [busy]))
    · exact State.updCrest_of_self (by simp [CrestPort.take, empty])
    · exact State.updCrest_congr (by simp [CrestPort.take, idle, queue])

end Sys2Proof.Machine

end

section
/-! Proof of the statement on the end of an event (chapter 1): the queue order of contents set within the event, the
outputs re-evaluated, and the three takings. -/

namespace Sys2Proof.Machine

/-! ## The queue order of contents set within one event (R122, log 18) -/

/-- One entry may stand ahead of another: by stage, then what stood before the event, then by zone. -/
def Ahead (stood : Entry → Bool) (a b : Entry) : Prop :=
  b.stage.num < a.stage.num ∨
    (b.stage.num = a.stage.num ∧ (stood a = true ∨ (stood b = false ∧ a.zone < b.zone)))

theorem Ahead.stage {stood : Entry → Bool} {a b : Entry} (h : Ahead stood a b) : b.stage.num ≤ a.stage.num :=
  h.elim le_of_lt (fun h => le_of_eq h.1)

/-- A fresh content of the highest zone yet takes its place behind every entry of its stage or higher. -/
theorem insertEntry_ahead {stood : Entry → Bool} {e : Entry} (fresh : stood e = false) {q : List Entry}
    (ordered : q.Pairwise (Ahead stood)) (last : ∀ a ∈ q, stood a = false → a.zone < e.zone) :
    (insertEntry e q).Pairwise (Ahead stood) := by
  induction q with
  | nil => exact List.pairwise_singleton _ e
  | cons a q ih =>
    obtain ⟨head, tail⟩ := List.pairwise_cons.mp ordered
    by_cases behind : e.stage.num ≤ a.stage.num
    · have placed : insertEntry e (a :: q) = a :: insertEntry e q := by simp [insertEntry, behind]
      have leads : Ahead stood a e := by
        rcases Nat.lt_or_eq_of_le behind with lower | same
        · exact .inl lower
        · cases stands : stood a with
          | true => exact .inr ⟨same, .inl stands⟩
          | false => exact .inr ⟨same, .inr ⟨fresh, last a List.mem_cons_self stands⟩⟩
      rw [placed]
      refine List.pairwise_cons.mpr ⟨fun b member => ?_, ih tail fun b member => last b (List.mem_cons_of_mem a member)⟩
      rcases List.mem_cons.mp ((insertEntry_perm e q).mem_iff.mp member) with rfl | old
      · exact leads
      · exact head b old
    · have placed : insertEntry e (a :: q) = e :: a :: q := by simp [insertEntry, behind]
      rw [placed]
      refine List.pairwise_cons.mpr ⟨fun b member => .inl ?_, ordered⟩
      rcases List.mem_cons.mp member with rfl | old
      · omega
      · exact (head b old).stage.trans_lt (by omega)

/-- Fresh contents placed one after another in ascending zone order. -/
theorem foldl_insertEntry_ahead {stood : Entry → Bool} {l q : List Entry} (fresh : ∀ e ∈ l, stood e = false)
    (ascending : l.Pairwise (fun a b => a.zone < b.zone)) (ordered : q.Pairwise (Ahead stood))
    (last : ∀ a ∈ q, stood a = false → ∀ e ∈ l, a.zone < e.zone) :
    (l.foldl (fun q e => insertEntry e q) q).Pairwise (Ahead stood) := by
  induction l generalizing q with
  | nil => exact ordered
  | cons e l ih =>
    obtain ⟨lowest, rest⟩ := List.pairwise_cons.mp ascending
    have placed := insertEntry_ahead (fresh e List.mem_cons_self) ordered
      (fun a member free => last a member free e List.mem_cons_self)
    refine ih (fun x member => fresh x (List.mem_cons_of_mem e member)) rest placed ?_
    intro a member free x later
    rcases List.mem_cons.mp ((insertEntry_perm e q).mem_iff.mp member) with rfl | old
    · exact lowest x later
    · exact last a old free x (List.mem_cons_of_mem e later)

/-- Placing a fresh content moves nothing that stood. -/
theorem insertEntry_filter {stood : Entry → Bool} {e : Entry} (fresh : stood e = false) (q : List Entry) :
    (insertEntry e q).filter stood = q.filter stood := by
  unfold insertEntry
  rw [List.filter_append, List.filter_cons_of_neg (by simp [fresh]), ← List.filter_append,
    List.takeWhile_append_dropWhile]

theorem foldl_insertEntry_filter {stood : Entry → Bool} {l : List Entry} (fresh : ∀ e ∈ l, stood e = false)
    (q : List Entry) : (l.foldl (fun q e => insertEntry e q) q).filter stood = q.filter stood := by
  induction l generalizing q with
  | nil => rfl
  | cons e l ih =>
    rw [List.foldl_cons, ih (fun x member => fresh x (List.mem_cons_of_mem e member)),
      insertEntry_filter (fresh e List.mem_cons_self)]

theorem placeByZone_ascending {e : Entry} {q : List Entry} (ascending : q.Pairwise (fun a b => a.zone ≤ b.zone)) :
    (placeByZone e q).Pairwise (fun a b => a.zone ≤ b.zone) := by
  induction q with
  | nil => exact List.pairwise_singleton _ e
  | cons a q ih =>
    obtain ⟨head, tail⟩ := List.pairwise_cons.mp ascending
    unfold placeByZone
    split
    next before =>
      refine List.pairwise_cons.mpr ⟨fun b member => ?_, ascending⟩
      rcases List.mem_cons.mp member with rfl | old
      · exact le_of_lt before
      · exact (le_of_lt before).trans (head b old)
    next behind =>
      refine List.pairwise_cons.mpr ⟨fun b member => ?_, ih tail⟩
      rcases List.mem_cons.mp ((placeByZone_perm e q).mem_iff.mp member) with rfl | old
      · exact Nat.le_of_not_lt behind
      · exact head b old

/-- The contents an event has set, in ascending zone order. -/
def freshContents (old new : List Entry) : List Entry :=
  (new.filter (fun e => !stoodBefore old e)).foldl (fun l e => placeByZone e l) []

theorem orderFresh_eq (old new : List Entry) : orderFresh old new =
    (freshContents old new).foldl (fun q e => insertEntry e q) (new.filter (stoodBefore old)) := rfl

theorem freshContents_perm (old new : List Entry) :
    (freshContents old new).Perm (new.filter (fun e => !stoodBefore old e)) := by
  have placed := foldl_place_perm (fun q e => placeByZone_perm e q) (new.filter (fun e => !stoodBefore old e)) []
  rwa [List.append_nil] at placed

theorem freshContents_fresh {old new : List Entry} {e : Entry} (member : e ∈ freshContents old new) :
    stoodBefore old e = false := by
  have listed := (List.mem_filter.mp ((freshContents_perm old new).mem_iff.mp member)).2
  simpa using listed

theorem freshContents_ascending {old new : List Entry} (distinct : (new.map Entry.zone).Nodup) :
    (freshContents old new).Pairwise (fun a b => a.zone < b.zone) := by
  have ascending : (freshContents old new).Pairwise (fun a b => a.zone ≤ b.zone) :=
    foldl_keeps (P := fun l : List Entry => l.Pairwise (fun a b => a.zone ≤ b.zone))
      (f := fun l e => placeByZone e l) (fun q e h => placeByZone_ascending h) _ _ List.Pairwise.nil
  have apart : (freshContents old new).Pairwise (fun a b => a.zone ≠ b.zone) := by
    have kept : ((new.filter (fun e => !stoodBefore old e)).map Entry.zone).Nodup :=
      distinct.sublist (List.filter_sublist.map _)
    exact List.pairwise_map.mp (((freshContents_perm old new).map Entry.zone).nodup_iff.mpr kept)
  exact (ascending.and apart).imp fun h => lt_of_le_of_ne h.1 h.2

/-- What stood keeps its order. -/
theorem orderFresh_filter (old new : List Entry) :
    (orderFresh old new).filter (stoodBefore old) = new.filter (stoodBefore old) := by
  rw [orderFresh_eq, foldl_insertEntry_filter fun e member => freshContents_fresh member, List.filter_filter]
  exact congrArg (List.filter · new) (funext fun e => Bool.and_self _)

theorem orderFresh_ahead {old new : List Entry} (sorted : StageSorted new) (distinct : (new.map Entry.zone).Nodup) :
    (orderFresh old new).Pairwise (Ahead (stoodBefore old)) := by
  have stood : ∀ a ∈ new.filter (stoodBefore old), stoodBefore old a = true := fun a member => (List.mem_filter.mp member).2
  rw [orderFresh_eq]
  refine foldl_insertEntry_ahead (fun e member => freshContents_fresh member) (freshContents_ascending distinct) ?_ ?_
  · refine List.Pairwise.imp_of_mem (fun {a b} member _ le => ?_) (sorted.filter (stoodBefore old))
    rcases Nat.lt_or_eq_of_le le with lower | same
    · exact .inl lower
    · exact .inr ⟨same, .inl (stood a member)⟩
  · intro a member free
    rw [stood a member] at free
    cases free

/-! ## What the end of an event touches (log 7) -/

/-- Only what the end of an event may touch differs: queue orders, what ports send, the outgoing list, replies, outputs. -/
def OnlyEnding (s t : State) : Prop :=
  t = { s with
    crestA := { s.crestA with queue := t.crestA.queue, port := { s.crestA.port with tx := t.crestA.port.tx } }
    crestB := { s.crestB with queue := t.crestB.queue, port := { s.crestB.port with tx := t.crestB.port.tx } }
    valley := { s.valley with
      forward := t.valley.forward, seq := t.valley.seq, port := { s.valley.port with tx := t.valley.port.tx } }
    dispatch := { s.dispatch with queue := t.dispatch.queue }
    notices := { s.notices with out := t.notices.out }
    replies := t.replies
    outputs := t.outputs }

theorem OnlyEnding.refl (s : State) : OnlyEnding s s := rfl

theorem OnlyEnding.trans {s t u : State} (h : OnlyEnding s t) (k : OnlyEnding t u) : OnlyEnding s u := by
  unfold OnlyEnding at *
  rw [k, h]

theorem State.kickCrest_ending (d : Side) (s : State) : OnlyEnding s (s.kickCrest d) := by
  have take (c : CrestPort) : (if c.port.tx.isSome then c else c.take) =
      { c with queue := (if c.port.tx.isSome then c else c.take).queue
               port := { c.port with tx := (if c.port.tx.isSome then c else c.take).port.tx } } := by
    unfold CrestPort.take
    repeat' split
    all_goals rfl
  cases d with
  | a => exact congrArg (fun c => { s with crestA := c }) (take s.crestA)
  | b => exact congrArg (fun c => { s with crestB := c }) (take s.crestB)

theorem State.takeValley_ending (s : State) : OnlyEnding s s.takeValley := by
  unfold State.takeValley
  split
  · rfl
  · split
    · rfl
    · split
      next it rest _ => cases it <;> rfl
      · split <;> rfl

theorem State.kickValley_ending (s : State) : OnlyEnding s s.kickValley := by
  unfold State.kickValley
  split
  · exact OnlyEnding.refl s
  · exact s.takeValley_ending

theorem State.finish_ending (old new : State) : OnlyEnding new (State.finish old new) := by
  have ordered : OnlyEnding new ((new.orderAlerts old).reevaluate old) := rfl
  exact ((ordered.trans (State.kickCrest_ending .a _)).trans (State.kickCrest_ending .b _)).trans
    (State.kickValley_ending _)

/-! ## The outputs at the end of an event (R134) -/

theorem Output.evaluate_cfg (s : State) (o : Output) : (o.evaluate s).cfg = o.cfg := by
  unfold Output.evaluate
  repeat' split
  all_goals rfl

/-- The outputs as the end of an event leaves them. -/
def outputsAfter (old new : State) : Vector Output 6 :=
  mapTable (fun o => if watched old o.cfg = watched new o.cfg then o else o.evaluate new) new.outputs

theorem State.finish_eq (old new : State) : State.finish old new =
    ((({ new with
      dispatch := { new.dispatch with queue := orderFresh old.dispatch.queue new.dispatch.queue }
      outputs := outputsAfter old new }).kickCrest .a).kickCrest .b).kickValley := rfl

theorem State.finish_outputs (old new : State) : (State.finish old new).outputs = outputsAfter old new := by
  have kicked := State.kick_takings ((new.orderAlerts old).reevaluate old)
  exact congrArg State.outputs kicked

theorem State.finish_output {old new : State} {k : Nat} {o : Output} (found : new.output k = some o) :
    ∃ o', (State.finish old new).output k = some o' ∧ o'.cfg = o.cfg := by
  have mapped := mapOutputs_output (fun o => if watched old o.cfg = watched new o.cfg then o else o.evaluate new) new k
  rw [found, Option.map_some] at mapped
  refine ⟨_, (congrArg (fun v => ({ new with outputs := v } : State).output k) (State.finish_outputs old new)).trans mapped, ?_⟩
  split
  · rfl
  · exact Output.evaluate_cfg new o

/-- Settles O14: the order of fresh contents, the outputs whose reading has changed, and the fields a taking may touch. -/
theorem endOfEventTouchesOutputsAndSendingAlone : Obligations.EndOfEventTouchesOutputsAndSendingAlone := by
  unfold Obligations.EndOfEventTouchesOutputsAndSendingAlone
  intro old new
  have same : (fun e : Entry =>
      old.dispatch.queue.any (fun x => decide (x.zone = e.zone) && decide (x.serial = e.serial))) =
      stoodBefore old.dispatch.queue := by
    funext e
    simp only [stoodBefore, Bool.decide_and]
  refine ⟨⟨_, _, State.finish_eq old new, orderFresh_perm _ _, ?order, fun j x found => ?outputs⟩,
    _, rfl, State.finish_ending old new, fun k o => State.finish_output⟩
  case order =>
    rw [same]
    exact ⟨orderFresh_filter _ _, orderFresh_ahead⟩
  case outputs => rw [outputsAfter, mapTable_getElem?, found, Option.map_some]

end Sys2Proof.Machine

end

section
/-! Proofs of the statements on the time base (chapter 2). -/

namespace Sys2Proof.Machine

/-! ## The counters of the time base (R21) -/

theorem TimeStamp.advance_unset (t : TimeStamp) : t.advance.unset = t.unset := by
  unfold TimeStamp.advance
  repeat' split
  all_goals rfl

/-- The counters as one number of tenths rise by one and wrap with the day counter. -/
theorem TimeStamp.advance_tenths {t : TimeStamp} (tenth : t.tenth ≤ 9) (second : t.second ≤ 59) (minute : t.minute ≤ 59)
    (hour : t.hour ≤ 23) (day : t.day ≤ 65535) : t.advance.tenths = (t.tenths + 1) % (65536 * 864000) := by
  obtain ⟨d, h, m, sec, ten, unset⟩ := t
  have wrap : 65536 * 864000 = 56623104000 := rfl
  rw [wrap]
  dsimp only at *
  simp only [TimeStamp.advance]
  rcases Nat.lt_or_ge ten 9 with inside | rolls
  · rw [if_pos inside]
    simp only [TimeStamp.tenths]
    omega
  rw [if_neg (by omega)]
  rcases Nat.lt_or_ge sec 59 with inside | rolls
  · rw [if_pos inside]
    simp only [TimeStamp.tenths]
    omega
  rw [if_neg (by omega)]
  rcases Nat.lt_or_ge m 59 with inside | rolls
  · rw [if_pos inside]
    simp only [TimeStamp.tenths]
    omega
  rw [if_neg (by omega)]
  rcases Nat.lt_or_ge h 23 with inside | rolls
  · rw [if_pos inside]
    simp only [TimeStamp.tenths]
    omega
  rw [if_neg (by omega)]
  simp only [TimeStamp.tenths]
  omega

theorem State.tick_time (s : State) : s.tick.time = s.time.advance := by
  have minuteTime (t : State) : t.minuteEvent.time = t.time := by
    have layer := congrArg State.time t.minuteEvent_layer
    exact layer
  have secondTime (t : State) : t.secondEvent.time = t.time := rfl
  unfold State.tick
  simp only [apply_ite State.time, minuteTime, secondTime, ite_self]

theorem State.finish_time (old new : State) : (State.finish old new).time = new.time := by
  have fields := congrArg State.time (State.finish_fields old new)
  exact fields

theorem exec_tenthTick (s : State) : exec .tenthTick s = .next (State.finish s.settle s.settle.tick) := rfl

/-- A tenth tick keeps the counters in their ranges. -/
theorem TimeBase.advance_legal {s t : State} (legal : TimeLegal s) (time : t.time = s.time.advance) : TimeLegal t := by
  obtain ⟨tenth, second, minute, hour, day, phase⟩ := legal
  unfold TimeLegal
  rw [time]
  obtain ⟨tenth', second', minute', hour', day'⟩ := TimeStamp.advance_legal ⟨tenth, second, minute, hour, day⟩
  exact ⟨tenth', second', minute', hour', day', by show (s.time.phase + 1) % 5 ≤ 4; omega⟩

/-- Settles O15: the tick is the advance of the counters, which the settling and the end of the event leave alone. -/
theorem tenthTickAdvancesTheTimeBase : Obligations.TenthTickAdvancesTheTimeBase := by
  unfold Obligations.TenthTickAdvancesTheTimeBase
  refine ⟨fun b => rfl, fun s legal => ⟨_, exec_tenthTick s, ?_⟩⟩
  have time : (State.finish s.settle s.settle.tick).time = s.time.advance := by
    rw [State.finish_time, State.tick_time, State.settle_time]
  have kept := TimeBase.advance_legal legal time
  obtain ⟨tenth, second, minute, hour, day, _⟩ := legal
  refine ⟨?_, ?_, ?_, kept⟩
  · rw [time]
    exact TimeStamp.advance_tenths tenth second minute hour day
  · rw [time]
    exact TimeStamp.advance_unset s.time.now
  · rw [time]
    rfl

/-! ## The settling as rows (log 4) -/

theorem takeAll_cons {c : Instr} {rest : List Instr} {s t : State} (h : exec c s = .next t) :
    takeAll (c :: rest) s = takeAll rest t := by
  simp only [takeAll, h]

/-- Taking what has run out is the rows of it, one after another. -/
theorem foldl_settleOne_rows (l : List RunningOut) (s : State) : ∃ rows : List Instr, (∀ c ∈ rows, c.runsOut = true) ∧
    takeAll rows s = .next (l.foldl State.settleOne s) := by
  induction l generalizing s with
  | nil => exact ⟨[], nofun, rfl⟩
  | cons r l ih =>
    obtain ⟨rows, kinds, taken⟩ := ih (s.settleOne r)
    rw [List.foldl_cons]
    cases due : s.due r with
    | true =>
      refine ⟨r.row :: rows, fun c member => ?_, (takeAll_cons (exec_row_of_due due)).trans taken⟩
      rcases List.mem_cons.mp member with rfl | later
      · exact r.row_runsOut
      · exact kinds c later
    | false =>
      have still : s.settleOne r = s := if_neg (by simp [due])
      rw [still] at taken ⊢
      exact ⟨rows, kinds, taken⟩

/-! ## What a tick reaches (R22, R23, R24) -/

theorem TimeStamp.secondNext_iff {t : TimeStamp} : t.secondNext = true ↔ 9 ≤ t.tenth := by
  simp [TimeStamp.secondNext]

theorem TimeStamp.minuteNext_iff {t : TimeStamp} : t.minuteNext = true ↔ 9 ≤ t.tenth ∧ 59 ≤ t.second := by
  simp [TimeStamp.minuteNext, TimeStamp.secondNext]

/-- The tenth tick alone: the counters and the cadence phases. -/
def State.tenthEvent (s : State) : State :=
  { s with time := s.time.advance, outputs := mapTable Output.tenth s.outputs }

theorem State.tick_tenth {s : State} (tenth : s.time.now.tenth < 9) : s.tick = s.tenthEvent := by
  have noSecond : ¬ s.time.now.secondNext = true := fun h => absurd (TimeStamp.secondNext_iff.mp h) (by omega)
  have noMinute : ¬ s.time.now.minuteNext = true := fun h => absurd (TimeStamp.minuteNext_iff.mp h).1 (by omega)
  unfold State.tick
  rw [if_neg noMinute, if_neg noSecond]
  rfl

theorem State.tick_second {s : State} (tenth : 9 ≤ s.time.now.tenth) (second : s.time.now.second < 59) :
    s.tick = s.tenthEvent.secondEvent := by
  have noMinute : ¬ s.time.now.minuteNext = true := fun h => absurd (TimeStamp.minuteNext_iff.mp h).2 (by omega)
  unfold State.tick
  rw [if_neg noMinute, if_pos (TimeStamp.secondNext_iff.mpr tenth)]
  rfl

theorem State.tick_minute {s : State} (tenth : 9 ≤ s.time.now.tenth) (second : 59 ≤ s.time.now.second) :
    s.tick = s.tenthEvent.secondEvent.minuteEvent := by
  unfold State.tick
  rw [if_pos (TimeStamp.minuteNext_iff.mpr ⟨tenth, second⟩), if_pos (TimeStamp.secondNext_iff.mpr tenth)]
  rfl

theorem Output.tenth_running {o : Output} {n p : Nat} (condition : o.condition = true) (inUse : o.inUse = some n)
    (phase : o.phase = some p) : o.tenth = { o with phase := some (min (p + 1) (o.working.get n).cycle) } := by
  simp [Output.tenth, Output.cadence, inUse, phase, condition]

theorem Output.tenth_stopped {o : Output} (condition : o.condition = false) : o.tenth = o := by
  unfold Output.tenth
  split
  · exact if_neg (by simp [condition])
  · rfl

/-- Settles O16: the settling is the rows of what has run out, and a tick is one, two or three of its events. -/
theorem tenthTickReachesItsTimers : Obligations.TenthTickReachesItsTimers := by
  unfold Obligations.TenthTickReachesItsTimers
  refine ⟨fun s settled => State.settle_settled settled, fun s => foldl_settleOne_rows s.runningsOut s, ?_⟩
  intro s₀ s a b c
  refine ⟨fun tenth => ?_, fun tenth second => ?_, fun tenth second => ?_,
    fun o n p => Output.tenth_running, fun o => Output.tenth_stopped⟩
  · rw [exec_tenthTick, State.tick_tenth tenth]
    rfl
  · have ticked := exec_tenthTick s₀
    rw [State.tick_second tenth second] at ticked
    refine ticked.trans ?_
    change Host.Outcome.next (State.finish s s.tenthEvent.secondEvent) = _
    clear_value s
    rfl
  · have ticked := exec_tenthTick s₀
    rw [State.tick_minute tenth second] at ticked
    refine ticked.trans ?_
    change Host.Outcome.next (State.finish s s.tenthEvent.secondEvent.minuteEvent) = _
    clear_value s
    rfl

/-! ## The minute event at a sector (R77, R78) -/

theorem State.updSector_parked {i : Nat} {f : Sector → Sector} {x : Sector} {s : State} (loaded : s.sector i = some x)
    (parked : x.cfg.parked = true) : s.updSector i f = s := by
  unfold State.updSector
  rw [loaded]
  exact if_pos parked

theorem State.updSector_unparked {i : Nat} {f : Sector → Sector} {x : Sector} {s : State} (loaded : s.sector i = some x)
    (parked : x.cfg.parked = false) : s.updSector i f = s.putSector i (some (f x)) := by
  unfold State.updSector
  rw [loaded]
  exact if_neg (by simp [parked])

/-- The ring as a minute event leaves it. -/
def Sector.pushed (x : Sector) : List (Option Nat) :=
  (x.ringEntry :: x.ring).take 16

theorem Sector.ringEntry_eq (x : Sector) :
    x.ringEntry = if x.blind = true ∨ x.blindCd ≠ none then none else some x.index := by
  simp [Sector.ringEntry, Option.isSome_iff_ne_none]

theorem Sector.minute_unmeasured {x : Sector} (none : ringRise x.cfg.rapidSpan x.pushed = .none) :
    x.minute = Sector.restage { x with ring := x.pushed } := by
  unfold Sector.minute
  dsimp only
  rw [show (x.ringEntry :: x.ring).take 16 = x.pushed from rfl, none]

theorem Sector.minute_measured {x : Sector} {r : Nat} (rise : ringRise x.cfg.rapidSpan x.pushed = some r) :
    x.minute = Sector.restage
      { x with ring := x.pushed, lastRise := some r, rapid := decide (x.cfg.rapidLimit ≤ r) } := by
  unfold Sector.minute
  dsimp only
  rw [show (x.ringEntry :: x.ring).take 16 = x.pushed from rfl, rise]

/-- A minute event pushes, and leaves all but the ring and the measurement to the stage. -/
theorem Sector.minute_eq (x : Sector) : x.minute.ring = x.pushed ∧ x.minute = Sector.restage { x with
    ring := x.minute.ring, lastRise := x.minute.lastRise, rapid := x.minute.rapid } := by
  cases rise : ringRise x.cfg.rapidSpan x.pushed with
  | none =>
    rw [Sector.minute_unmeasured rise]
    exact ⟨rfl, rfl⟩
  | some r =>
    rw [Sector.minute_measured rise]
    exact ⟨rfl, rfl⟩

/-- The rise is measured when every entry of the span is a value. -/
theorem ringRise_values {span a b : Nat} {ring : List (Option Nat)} (newest : ring[0]? = some (some a))
    (oldest : ring[span]? = some (some b)) (values : ∀ g ∈ ring.take (span + 1), g ≠ none) :
    ringRise span ring = some (a - b) := by
  have long : span < ring.length := (List.getElem?_eq_some_iff.mp oldest).1
  have all : (ring.take (span + 1)).all Option.isSome = true :=
    List.all_eq_true.mpr fun g member => Option.isSome_iff_ne_none.mpr (values g member)
  unfold ringRise
  rw [if_pos ⟨long, all⟩, List.head?_eq_getElem?, newest, oldest]
  rfl

/-- The rise is not measured over a ring too short or with a gap in the span. -/
theorem ringRise_gap {span : Nat} {ring : List (Option Nat)} (gap : ring.length ≤ span ∨ none ∈ ring.take (span + 1)) :
    ringRise span ring = none := by
  refine if_neg fun ⟨long, all⟩ => ?_
  rcases gap with short | gap
  · omega
  · exact absurd (List.all_eq_true.mp all none gap) (by decide)

/-- Settles O17: a minute event is the push, and the measurement where the ring gives one. -/
theorem minuteEventPushesAndMeasures : Obligations.MinuteEventPushesAndMeasures := by
  unfold Obligations.MinuteEventPushesAndMeasures
  intro i x s loaded
  obtain ⟨pushed, whole⟩ := x.minute_eq
  refine ⟨State.updSector_parked loaded, State.updSector_unparked loaded, ?push, ?measured, ?unmeasured, whole⟩
  case push => rw [pushed, Sector.pushed, Sector.ringEntry_eq]
  case measured =>
    rw [pushed]
    intro a b newest oldest values
    rw [Sector.minute_measured (ringRise_values newest oldest values)]
    exact ⟨rfl, decide_eq_true_iff⟩
  case unmeasured =>
    rw [pushed]
    intro gap
    rw [Sector.minute_unmeasured (ringRise_gap gap)]
    exact ⟨rfl, rfl⟩

end Sys2Proof.Machine

end

section
/-! Proofs of the statements on the Station Table (chapter 3). -/

namespace Sys2Proof.Machine

/-! ## The sequence filter (R34) -/

theorem State.stationFrame_passes {i missed : Nat} {x : Station} {f : Frame} {s : State}
    (verdict : x.judgeSeq f.seq = .passes missed) : s.stationFrame i x f = s.acceptFrame i x missed f := by
  unfold State.stationFrame
  rw [verdict]

theorem State.stationFrame_duplicate {i : Nat} {x : Station} {f : Frame} {s : State} (loaded : s.station i = some x)
    (verdict : x.judgeSeq f.seq = .duplicate) : s.stationFrame i x f =
      s.setStation i (some { x with counts := { x.counts with duplicate := satInc x.counts.duplicate } }) := by
  unfold State.stationFrame
  rw [verdict]
  exact State.countStation_of_loaded loaded

theorem State.stationFrame_stale {i : Nat} {x : Station} {f : Frame} {s : State} (loaded : s.station i = some x)
    (verdict : x.judgeSeq f.seq = .stale) : s.stationFrame i x f =
      s.setStation i (some { x with counts := { x.counts with stale := satInc x.counts.stale } }) := by
  unfold State.stationFrame
  rw [verdict]
  exact State.countStation_of_loaded loaded

theorem Station.judgeSeq_first {x : Station} {seq : Byte} (first : x.live = .absent ∨ x.live = .silent ∨ x.lastSeq = none) :
    x.judgeSeq seq = .passes 0 := by
  unfold Station.judgeSeq
  split
  · rfl
  next heard =>
    have none : x.lastSeq = .none := by
      rcases first with absent | silent | none
      · exact absurd (.inl absent) heard
      · exact absurd (.inr silent) heard
      · exact none
    rw [none]

theorem Station.judgeSeq_window {x : Station} {seq q : Byte} (absent : x.live ≠ .absent) (silent : x.live ≠ .silent)
    (last : x.lastSeq = some q) : x.judgeSeq seq = seqWindow (seq - q).toNat := by
  unfold Station.judgeSeq
  rw [if_neg (not_or.mpr ⟨absent, silent⟩), last]

theorem seqWindow_passes {d : Nat} (low : 1 ≤ d) (high : d ≤ 128) : seqWindow d = .passes (d - 1) := by
  unfold seqWindow
  rw [if_neg (by omega), if_pos high]

theorem seqWindow_stale {d : Nat} (low : 129 ≤ d) : seqWindow d = .stale := by
  unfold seqWindow
  rw [if_neg (by omega), if_neg (by omega)]

/-- Settles O18: the verdict of the filter, and what each verdict leaves. -/
theorem sequenceFilterJudgesFrames : Obligations.SequenceFilterJudgesFrames := by
  unfold Obligations.SequenceFilterJudgesFrames
  intro i x f s loaded
  refine ⟨fun first => State.stationFrame_passes (Station.judgeSeq_first first), fun q absent silent last => ?_⟩
  have verdict := Station.judgeSeq_window (seq := f.seq) absent silent last
  refine ⟨fun zero => ?_, fun low high => ?_, fun low => ?_⟩
  · exact State.stationFrame_duplicate loaded (verdict.trans (if_pos zero))
  · exact State.stationFrame_passes (verdict.trans (seqWindow_passes low high))
  · exact State.stationFrame_stale loaded (verdict.trans (seqWindow_stale low))

/-! ## Payloads (R36, R37, R38) -/

/-- The two-byte values of a payload, place by place. -/
theorem words_getElem? (p : List Byte) (k : Nat) : (words p)[k]? =
    if 2 * k + 1 < p.length then some ((p.getD (2 * k) 0).toNat * 256 + (p.getD (2 * k + 1) 0).toNat) else none := by
  induction p using words.induct generalizing k with
  | case1 h l rest ih =>
    cases k with
    | zero => simp [words, word16]
    | succ k =>
      have shift : 2 * (k + 1) = 2 * k + 1 + 1 := by omega
      simp [words, ih, shift]
  | case2 p short =>
    have few : p.length ≤ 1 := by
      rcases p with _ | ⟨h, _ | ⟨l, rest⟩⟩
      · exact Nat.zero_le 1
      · exact le_rfl
      · exact absurd rfl (short h l rest)
    rw [if_neg (by omega)]
    simp [words]

theorem words_length {p : List Byte} {n : Nat} (h : p.length = 2 * n) : (words p).length = n := by
  refine le_antisymm (List.getElem?_eq_none_iff.mp ?_) (Nat.le_of_not_lt fun short => ?_)
  · rw [words_getElem?, if_neg (by omega)]
  · have last := words_getElem? p (words p).length
    rw [List.getElem?_eq_none_iff.mpr le_rfl, if_pos (by omega)] at last
    cases last

/-- A list is known by its length and its values. -/
theorem eq_of_values {α : Type} {n : Nat} {xs ys : List α} (lx : xs.length = n) (ly : ys.length = n)
    (same : ∀ k, k < n → xs[k]? = ys[k]?) : xs = ys :=
  List.ext_getElem?' fun k inside => same k (by omega)

/-- The values of a payload of n two-byte fields are one list. -/
theorem eq_words_iff {rest : List Byte} {n : Nat} (length : rest.length = 2 * n) {vs : List Nat} :
    vs = words rest ↔ vs.length = n ∧
      ∀ k, k < n → vs[k]? = some ((rest.getD (2 * k) 0).toNat * 256 + (rest.getD (2 * k + 1) 0).toNat) := by
  have value (k : Nat) (inside : k < n) : (words rest)[k]? =
      some ((rest.getD (2 * k) 0).toNat * 256 + (rest.getD (2 * k + 1) 0).toNat) := by
    rw [words_getElem?, if_pos (by omega)]
  constructor
  · rintro rfl
    exact ⟨words_length length, value⟩
  · rintro ⟨size, values⟩
    exact eq_of_values size (words_length length) fun k inside => (values k inside).trans (value k inside).symm

/-- A list made by place. -/
theorem eq_map_range_iff {α : Type} {n : Nat} {g : Nat → α} {xs : List α} :
    xs = (List.range n).map g ↔ xs.length = n ∧ ∀ k, k < n → xs[k]? = some (g k) := by
  have value (k : Nat) (inside : k < n) : ((List.range n).map g)[k]? = some (g k) := by
    rw [List.getElem?_map, List.getElem?_range inside, Option.map_some]
  constructor
  · rintro rfl
    exact ⟨by simp, value⟩
  · rintro ⟨size, values⟩
    exact eq_of_values size (by simp) fun k inside => (values k inside).trans (value k inside).symm

theorem readSweep_cons {n : Byte} {rest : List Byte} {c : Contents} : readSweep (n :: rest) = some c ↔
    1 ≤ n.toNat ∧ n.toNat ≤ 8 ∧ rest.length = 2 * n.toNat ∧ c = .sweep (words rest) := by
  simp [readSweep, inRange, and_assoc, eq_comm (a := c)]

theorem readPulse_cons {channels : Nat} {h l m : Byte} {rest : List Byte} {c : Contents} :
    readPulse channels (h :: l :: m :: rest) = some c ↔
      1 ≤ m.toNat ∧ m.toNat ≤ 4 ∧ rest.length = 2 * m.toNat ∧
        c = .pulse (h.toNat * 256 + l.toNat) ((List.range channels).map (fun k => (words rest)[k]?)) := by
  simp [readPulse, inRange, and_assoc, eq_comm (a := c), word16]

theorem readTrip_cons {wires : Nat} {w : Byte} {rest : List Byte} {c : Contents} :
    readTrip wires (w :: rest) = some c ↔
      1 ≤ w.toNat ∧ w.toNat ≤ 8 ∧ rest.length = w.toNat ∧
        c = .trip ((List.range wires).map (fun k => ((rest[k]?).map wireOf).getD .fault)) := by
  simp [readTrip, inRange, and_assoc, eq_comm (a := c)]

theorem readSweep_iff {p : List Byte} {c : Contents} : readSweep p = some c ↔
    ∃ n rest vs, p = n :: rest ∧ 1 ≤ n.toNat ∧ n.toNat ≤ 8 ∧ rest.length = 2 * n.toNat ∧ c = .sweep vs ∧
      vs.length = n.toNat ∧
      ∀ k, k < n.toNat → vs[k]? = some ((rest.getD (2 * k) 0).toNat * 256 + (rest.getD (2 * k + 1) 0).toNat) := by
  constructor
  · intro read
    cases p with
    | nil => cases read
    | cons n rest =>
      obtain ⟨low, high, length, rfl⟩ := readSweep_cons.mp read
      exact ⟨n, rest, words rest, rfl, low, high, length, rfl, (eq_words_iff length).mp rfl⟩
  · rintro ⟨n, rest, vs, rfl, low, high, length, rfl, values⟩
    rw [(eq_words_iff length).mpr values]
    exact readSweep_cons.mpr ⟨low, high, length, rfl⟩

/-- The count of a channel of a well-formed PULSE payload. -/
theorem pulse_count {rest : List Byte} {m : Nat} (length : rest.length = 2 * m) (k : Nat) :
    (words rest)[k]? = if k < m then
      some ((rest.getD (2 * k) 0).toNat * 256 + (rest.getD (2 * k + 1) 0).toNat) else none := by
  rw [words_getElem?]
  exact if_congr (by omega) rfl rfl

theorem readPulse_iff {channels : Nat} {p : List Byte} {c : Contents} : readPulse channels p = some c ↔
    ∃ h l m rest counts, p = h :: l :: m :: rest ∧ 1 ≤ m.toNat ∧ m.toNat ≤ 4 ∧ rest.length = 2 * m.toNat ∧
      c = .pulse (h.toNat * 256 + l.toNat) counts ∧ counts.length = channels ∧
      ∀ k, k < channels → counts[k]? = some (if k < m.toNat then
        some ((rest.getD (2 * k) 0).toNat * 256 + (rest.getD (2 * k + 1) 0).toNat) else none) := by
  constructor
  · intro read
    match p, read with
    | h :: l :: m :: rest, read =>
      obtain ⟨low, high, length, rfl⟩ := readPulse_cons.mp read
      refine ⟨h, l, m, rest, _, rfl, low, high, length, rfl, ?_⟩
      simp only [pulse_count length]
      exact eq_map_range_iff.mp rfl
  · rintro ⟨h, l, m, rest, counts, rfl, low, high, length, rfl, values⟩
    refine readPulse_cons.mpr ⟨low, high, length, ?_⟩
    simp only [pulse_count length]
    rw [eq_map_range_iff.mpr values]

/-- The state of a wire of a well-formed TRIP payload. -/
theorem trip_wire {rest : List Byte} {w : Nat} (length : rest.length = w) (k : Nat) :
    ((rest[k]?).map wireOf).getD .fault = if k < w then
      (if rest.getD k 0 = 0 then WireState.intact else if rest.getD k 0 = 1 then .cut else .fault) else .fault := by
  subst length
  split
  next inside => simp [List.getD_eq_getElem?_getD, List.getElem?_eq_getElem inside, wireOf]
  next outside => rw [List.getElem?_eq_none (by omega)]; rfl

theorem readTrip_iff {wires : Nat} {p : List Byte} {c : Contents} : readTrip wires p = some c ↔
    ∃ w rest ws, p = w :: rest ∧ 1 ≤ w.toNat ∧ w.toNat ≤ 8 ∧ rest.length = w.toNat ∧ c = .trip ws ∧
      ws.length = wires ∧
      ∀ k, k < wires → ws[k]? = some (if k < w.toNat then
        (if rest.getD k 0 = 0 then WireState.intact else if rest.getD k 0 = 1 then .cut else .fault) else .fault) := by
  constructor
  · intro read
    cases p with
    | nil => cases read
    | cons w rest =>
      obtain ⟨low, high, length, rfl⟩ := readTrip_cons.mp read
      refine ⟨w, rest, _, rfl, low, high, length, rfl, ?_⟩
      simp only [trip_wire length]
      exact eq_map_range_iff.mp rfl
  · rintro ⟨w, rest, ws, rfl, low, high, length, rfl, values⟩
    refine readTrip_cons.mpr ⟨low, high, length, ?_⟩
    simp only [trip_wire length]
    rw [eq_map_range_iff.mpr values]

/-- Settles O20: what each kind of payload must be, and the values it gives place by place. -/
theorem wellFormedPayloadsAreRead : Obligations.WellFormedPayloadsAreRead := by
  unfold Obligations.WellFormedPayloadsAreRead
  exact ⟨fun n p => ⟨rfl, rfl, rfl⟩, fun p c => readSweep_iff, fun channels p c => readPulse_iff,
    fun wires p c => readTrip_iff⟩

/-! ## The silence countdown (R33) -/

/-- Settles O21: the silence of a station that has run out, and nothing where none has. -/
theorem silenceExpiryMakesTheStationSilent : Obligations.SilenceExpiryMakesTheStationSilent := by
  unfold Obligations.SilenceExpiryMakesTheStationSilent
  intro i s
  refine ⟨fun x loaded out => ?_, fun still => ?_⟩
  · have taken : s.takeSilence i = s.stationSilent i x := by
      unfold State.takeSilence
      rw [loaded]
      exact if_pos out
    exact congrArg (fun t => Host.Outcome.next (State.finish s t)) taken
  · have kept : s.takeSilence i = s := by
      unfold State.takeSilence
      cases loaded : s.station i with
      | none => rfl
      | some x => exact if_neg (still x loaded)
    exact congrArg (fun t => Host.Outcome.next (State.finish s t)) kept

/-! ## Accepted frames (R10, R35, R39, R40) -/

/-- The entry as an accepted frame leaves it, but for its forward phase (R35). -/
def Station.accepted (f : Frame) (missed : Nat) (now : TimeStamp) (x : Station) : Station :=
  x.accept f.seq missed now (readPayload x.cfg.cls f.payload)

theorem Station.accepted_eq (f : Frame) (missed : Nat) (now : TimeStamp) (x : Station) :
    x.accepted f missed now = { x with
      live := .live, lastSeq := some f.seq, silence := some x.cfg.limit, lastHeard := some now
      contents := if readPayload x.cfg.cls f.payload = none then x.contents else readPayload x.cfg.cls f.payload
      counts := { x.counts with
        accepted := satInc x.counts.accepted
        missed := satAdd x.counts.missed missed
        malformed := if readPayload x.cfg.cls f.payload = none then satInc x.counts.malformed else x.counts.malformed } } := by
  unfold Station.accepted Station.accept
  cases readPayload x.cfg.cls f.payload <;> rfl

/-- The state as an accepted frame has entered it, the live hand-off included (R32, R35, R40). -/
def State.entered (i : Nat) (x : Station) (missed : Nat) (f : Frame) (s : State) : State :=
  let told := if x.live = .silent then s.raiseSilence i x .live else s
  let entered := told.setStation i (some (x.accepted f missed s.time.now))
  if x.live = .live then entered else entered.tripHandoff i

theorem State.acceptFrame_eq (i : Nat) (x : Station) (missed : Nat) (f : Frame) (s : State) :
    s.acceptFrame i x missed f =
      ((s.entered i x missed f).handReport i x.cfg.addr (readPayload x.cfg.cls f.payload)).divideForward i f := rfl

theorem OnlyLanes.stations_eq {s t : State} (h : OnlyLanes s t) : t.stations = s.stations := by
  have same := congrArg State.stations h
  exact same

theorem OnlyLanes.valley_eq {s t : State} (h : OnlyLanes s t) : t.valley = s.valley := by
  have same := congrArg State.valley h
  exact same

/-- Entering a frame writes the station, and leaves the other stations and the Valley port alone. -/
theorem State.entered_stations (i : Nat) (x : Station) (missed : Nat) (f : Frame) (s : State) :
    (s.entered i x missed f).stations = s.stations.setIfInBounds i (some (x.accepted f missed s.time.now)) ∧
      (s.entered i x missed f).valley = s.valley := by
  have told : (if x.live = .silent then s.raiseSilence i x .live else s).stations = s.stations ∧
      (if x.live = .silent then s.raiseSilence i x .live else s).valley = s.valley := by
    split <;> exact ⟨rfl, rfl⟩
  obtain ⟨stations, valley⟩ := told
  unfold State.entered
  dsimp only
  split
  · rw [State.setStation_stations, State.setStation_valley]
    exact ⟨by rw [stations], valley⟩
  · have handed := (State.tripHandoff_layer i ((if x.live = .silent then s.raiseSilence i x .live else s).setStation i
      (some (x.accepted f missed s.time.now)))).lanes
    rw [handed.stations_eq, handed.valley_eq, State.setStation_stations, State.setStation_valley]
    exact ⟨by rw [stations], valley⟩

theorem State.divideForward_of_loaded {i : Nat} {f : Frame} {s : State} {y : Station} (loaded : s.station i = some y) :
    s.divideForward i f =
      if y.cfg.divisor = 0 then s
      else if y.phase + 1 = y.cfg.divisor then (s.setStation i (some { y with phase := 0 })).appendForward f
      else s.setStation i (some { y with phase := y.phase + 1 }) := by
  unfold State.divideForward
  rw [loaded]

/-- The phase a frame leaves (R10). -/
def Station.nextPhase (y : Station) : Nat :=
  if y.cfg.divisor = 0 then y.phase else if y.phase + 1 = y.cfg.divisor then 0 else y.phase + 1

/-- The frame is the one of its group that is forwarded (R10). -/
def Station.forwardDue (y : Station) : Prop :=
  y.cfg.divisor ≠ 0 ∧ y.phase + 1 = y.cfg.divisor

theorem State.appendForward_only (f : Frame) (s : State) : s.appendForward f =
    { s with valley := (s.appendForward f).valley, notices := (s.appendForward f).notices } := by
  unfold State.appendForward
  split
  · rfl
  · split <;> rfl

theorem State.divideForward_due {i : Nat} {f : Frame} {s : State} {y : Station} (loaded : s.station i = some y)
    (due : y.forwardDue) : s.divideForward i f = (s.setStation i (some { y with phase := 0 })).appendForward f := by
  rw [State.divideForward_of_loaded loaded, if_neg due.1, if_pos due.2]

/-- Unless the frame is forwarded, only the station's phase moves. -/
theorem State.divideForward_not_due {i : Nat} {f : Frame} {s : State} {y : Station} (loaded : s.station i = some y)
    (due : ¬ y.forwardDue) : s.divideForward i f = s ∨ ∃ x, s.divideForward i f = s.setStation i x := by
  rw [State.divideForward_of_loaded loaded]
  by_cases zero : y.cfg.divisor = 0
  · exact .inl (if_pos zero)
  · rw [if_neg zero, if_neg fun h => due ⟨zero, h⟩]
    exact .inr ⟨_, rfl⟩

theorem State.divideForward_station {i : Nat} {f : Frame} {s : State} {y : Station} (loaded : s.station i = some y) :
    (s.divideForward i f).station i = some { y with phase := y.nextPhase } := by
  have place : i < 16 := lt_of_entryAt loaded
  have appended (t : State) : (t.appendForward f).station i = t.station i := by rw [State.appendForward_only]; rfl
  rw [State.divideForward_of_loaded loaded]
  unfold Station.nextPhase
  split
  · exact loaded
  · split
    · rw [appended, State.station_setStation_same _ _ _ place]
    · rw [State.station_setStation_same _ _ _ place]

theorem State.divideForward_station_other {i j : Nat} {f : Frame} {s : State} {y : Station} (loaded : s.station i = some y)
    (other : j ≠ i) : (s.divideForward i f).station j = s.station j := by
  have appended (t : State) : (t.appendForward f).station j = t.station j := by rw [State.appendForward_only]; rfl
  rw [State.divideForward_of_loaded loaded]
  split
  · rfl
  · split
    · rw [appended, State.station_setStation_other _ _ _ _ other.symm]
    · rw [State.station_setStation_other _ _ _ _ other.symm]

/-- The division touches stations, the Valley port and the notices alone. -/
theorem State.divideForward_only {i : Nat} {f : Frame} {s : State} {y : Station} (loaded : s.station i = some y) :
    (s.divideForward i f).lanes = s.lanes ∧ (s.divideForward i f).sectors = s.sectors ∧
      (s.divideForward i f).zones = s.zones ∧ (s.divideForward i f).dispatch = s.dispatch := by
  by_cases due : y.forwardDue
  · rw [State.divideForward_due loaded due, State.appendForward_only]
    exact ⟨rfl, rfl, rfl, rfl⟩
  · obtain same | ⟨x, written⟩ := State.divideForward_not_due (f := f) loaded due
    · rw [same]
      exact ⟨rfl, rfl, rfl, rfl⟩
    · rw [written]
      exact ⟨rfl, rfl, rfl, rfl⟩

theorem State.divideForward_kept {i : Nat} {f : Frame} {s : State} {y : Station} (loaded : s.station i = some y)
    (due : ¬ y.forwardDue) : (s.divideForward i f).valley = s.valley ∧ (s.divideForward i f).notices = s.notices := by
  obtain same | ⟨x, written⟩ := State.divideForward_not_due (f := f) loaded due
  · rw [same]
    exact ⟨rfl, rfl⟩
  · rw [written]
    exact ⟨rfl, rfl⟩

theorem State.divideForward_forwards {i : Nat} {f : Frame} {s : State} {y : Station} (loaded : s.station i = some y)
    (due : y.forwardDue) (below : s.valley.forward.length < 32) :
    (s.divideForward i f).valley.forward = s.valley.forward ++ [f] ∧ (s.divideForward i f).notices = s.notices := by
  have room : (s.setStation i (some { y with phase := 0 })).valley.forward.length < 32 := below
  rw [State.divideForward_due loaded due, State.appendForward_below room]
  exact ⟨rfl, rfl⟩

/-- Settles O19: the entry as it is entered, the report handed on, and the division of the forwarded frames. -/
theorem acceptedFrameUpdatesItsStation : Obligations.AcceptedFrameUpdatesItsStation := by
  unfold Obligations.AcceptedFrameUpdatesItsStation
  intro i x missed f s loaded got u due
  have place : i < 16 := lt_of_entryAt loaded
  obtain ⟨stations, valley⟩ := s.entered_stations i x missed f
  let v := (s.entered i x missed f).handReport i x.cfg.addr got
  have reported : OnlyLanes (s.entered i x missed f) v := State.handReport_layer ..
  have vStations : v.stations = (s.setStation i (some (x.accepted f missed s.time.now))).stations :=
    reported.stations_eq.trans stations
  have vStation (j : Nat) : v.station j = (s.setStation i (some (x.accepted f missed s.time.now))).station j :=
    congrArg (entryAt · j) vStations
  have vLoaded : v.station i = some (x.accepted f missed s.time.now) :=
    (vStation i).trans (State.station_setStation_same _ _ _ place)
  have vValley : v.valley = s.valley := reported.valley_eq.trans valley
  have divided : u = v.divideForward i f := State.acceptFrame_eq i x missed f s
  have told_eq : (if x.live = .silent then s.raiseSilence i x .live else s) =
      if x.live = .silent then s.raise (.silence i x.cfg.addr .silent .live x.lastHeard) else s := by
    split
    next silent => unfold State.raiseSilence; rw [silent]
    · rfl
  refine ⟨?station, fun j other => ?others, fun notDue => ?kept, fun isDue below => ?forwarded,
    s.acceptFrame_layer i x missed f, fun none live => ?quiet, ?handed⟩
  case station =>
    rw [divided, State.divideForward_station vLoaded, Station.accepted_eq]
    rfl
  case others =>
    rw [divided, State.divideForward_station_other vLoaded other, vStation, State.station_setStation_other _ _ _ _ other.symm]
  case kept => rw [divided, (State.divideForward_kept vLoaded notDue).1, vValley]
  case forwarded =>
    rw [divided, (State.divideForward_forwards vLoaded isDue (by rw [vValley]; exact below)).1, vValley]
  case quiet =>
    have silent : ¬ x.live = .silent := by rw [live]; decide
    have bare : v = s.setStation i (some (x.accepted f missed s.time.now)) := by
      show (s.entered i x missed f).handReport i x.cfg.addr got = _
      rw [none]
      unfold State.entered
      rw [if_neg silent, if_pos live]
      rfl
    obtain ⟨lanes, sectors, zones, dispatch⟩ := State.divideForward_only (f := f) vLoaded
    rw [divided, lanes, sectors, zones, dispatch, bare]
    exact ⟨rfl, rfl, rfl, rfl⟩
  case handed =>
    intro told entered handed w report
    have handed_eq : handed = s.entered i x missed f := by
      unfold State.entered
      rw [told_eq, Station.accepted_eq]
    have w_eq : w = v := by
      show w = (s.entered i x missed f).handReport i x.cfg.addr got
      rw [← handed_eq]
      rcases report with ⟨gives, made⟩ | ⟨vs, gives, made⟩ | ⟨n, counts, gives, made⟩ | ⟨wires, gives, made⟩
      all_goals rw [gives, made]; rfl
    subst w_eq
    obtain ⟨lanes, sectors, zones, dispatch⟩ := State.divideForward_only (f := f) vLoaded
    refine ⟨?_, ?_, ?_, ?_, fun quiet => ?_, fun y found => ?_⟩
    · rw [divided, lanes]
    · rw [divided, sectors]
    · rw [divided, zones]
    · rw [divided, dispatch]
    · rw [divided]
      by_cases isDue : due
      · exact (State.divideForward_forwards vLoaded isDue
          (by rw [vValley]; exact quiet.resolve_left (not_not.mpr isDue))).2
      · exact (State.divideForward_kept vLoaded isDue).2
    · have same : y = x.accepted f missed s.time.now := Option.some.inj (found.symm.trans vLoaded)
      rw [divided, State.divideForward_of_loaded found, same]
      rfl

end Sys2Proof.Machine

end

section
/-! Proof of the statement on a sweep arrival at a lane (chapter 4): its four steps, each by what the tracked candidate and
the rank search give. -/

namespace Sys2Proof.Machine

/-! ## Credits (R52) -/

theorem Lane.updateCredits_credit {s : State} {station r n : Nat} {l : Lane} {c : Candidate}
    (cand : l.cfg.cands[r]? = some c) (credit : l.credits[r]? = some n) :
    (l.updateCredits s station).credits[r]? =
      some (if c.station = station ∧ l.tracked ≠ some r then
        (if usableValue s c = none then 0 else min (n + 1) l.cfg.restoreCount) else n) := by
  have zipped : (l.credits.zip l.cfg.cands)[r]? = some (n, c) := List.getElem?_zip_eq_some.mpr ⟨credit, cand⟩
  have usable : (if (usableValue s c).isSome = true then min (n + 1) l.cfg.restoreCount else 0) =
      if usableValue s c = none then 0 else min (n + 1) l.cfg.restoreCount := by
    cases usableValue s c <;> rfl
  unfold Lane.updateCredits
  simp only [List.getElem?_map, List.getElem?_zipIdx, zipped, Option.map_some, Nat.zero_add, usable]

/-! ## The tracked candidate (R53, R54) -/

theorem Lane.trackedCandidate_of_tracked {l : Lane} {r : Nat} {c : Candidate} (tracked : l.tracked = some r)
    (cand : l.cfg.cands[r]? = some c) : l.trackedCandidate = some c := by
  unfold Lane.trackedCandidate
  rw [tracked]
  exact cand

/-- Taking a value at the rank already tracked. -/
theorem Lane.take_tracked {l : Lane} {r : Nat} (tracked : l.tracked = some r) (v : Nat) (heard : Option TimeStamp) :
    l.take r v heard = { l with
      clearance := some v, fill := some (l.cfg.datum - v), valueTime := heard, loss := 0, credits := l.credits.set r 0 } := by
  unfold Lane.take
  rw [tracked]

theorem Lane.takeOrLose_taken {s : State} {station r v : Nat} {l : Lane} {c : Candidate} (tracked : l.tracked = some r)
    (cand : l.cfg.cands[r]? = some c) (here : c.station = station) (value : usableValue s c = some v) :
    l.takeOrLose s station = { lane := l.take r v (heardAt s c), changed := true, reason := .found } := by
  unfold Lane.takeOrLose
  rw [tracked, Lane.trackedCandidate_of_tracked tracked cand]
  simp only [here, ne_eq, not_true_eq_false, if_false, value]

theorem Lane.takeOrLose_lossy {s : State} {station r : Nat} {l : Lane} {c : Candidate} (tracked : l.tracked = some r)
    (cand : l.cfg.cands[r]? = some c) (here : c.station = station) (value : usableValue s c = none) :
    l.takeOrLose s station =
      if l.loss + 1 < l.cfg.lossLimit then { lane := { l with loss := l.loss + 1 }, changed := false, reason := .found }
      else { lane := Lane.reselect s { l with loss := 0, credits := l.credits.set r 0 }, changed := true
             reason := .echoLoss } := by
  unfold Lane.takeOrLose
  rw [tracked, Lane.trackedCandidate_of_tracked tracked cand]
  simp only [here, ne_eq, not_true_eq_false, if_false, value]

theorem Lane.takeOrLose_elsewhere {s : State} {station : Nat} {l : Lane}
    (elsewhere : l.tracked = none ∨ ∃ r c, l.tracked = some r ∧ l.cfg.cands[r]? = some c ∧ c.station ≠ station) :
    l.takeOrLose s station = { lane := l, changed := false, reason := .found } := by
  unfold Lane.takeOrLose
  rcases elsewhere with seeking | ⟨r, c, tracked, cand, other⟩
  · rw [seeking]
  · rw [tracked, Lane.trackedCandidate_of_tracked tracked cand]
    exact if_pos other

/-! ## The restore and the take-up (R55, R56) -/

/-- The candidate of a rank is to be restored to: better than the tracked rank, its credit full, and good. -/
def LaneStep.restores (s : State) (station r : Nat) (w : LaneStep) (q : Nat) (c : Candidate) : Bool :=
  decide (q < r ∧ c.station = station ∧ w.lane.credits[q]? = some w.lane.cfg.restoreCount) && (usableValue s c).isSome

/-- The candidate is to be taken up by a SEEKING lane. -/
def takesUp (s : State) (station : Nat) (c : Candidate) : Bool :=
  decide (c.station = station) && (usableValue s c).isSome

theorem LaneStep.restores_eq_false {s : State} {station r q : Nat} {w : LaneStep} {c : Candidate}
    (h : q < r → c.station = station → usableValue s c ≠ none → w.lane.credits[q]? ≠ some w.lane.cfg.restoreCount) :
    w.restores s station r q c = false := by
  rw [← Bool.not_eq_true, LaneStep.restores, Bool.and_eq_true, decide_eq_true_eq]
  exact fun ⟨⟨better, here, full⟩, good⟩ => h better here (Option.isSome_iff_ne_none.mp good) full

theorem takesUp_eq_false {s : State} {station : Nat} {c : Candidate}
    (h : c.station = station → usableValue s c = none) : takesUp s station c = false := by
  rw [← Bool.not_eq_true, takesUp, Bool.and_eq_true, decide_eq_true_eq]
  exact fun ⟨here, good⟩ => Option.isSome_iff_ne_none.mp good (h here)

theorem LaneStep.restore_seeking {s : State} {station : Nat} {w : LaneStep} (seeking : w.lane.tracked = none) :
    w.restore s station = w := by
  unfold LaneStep.restore
  rw [seeking]

theorem LaneStep.takeUp_tracking {s : State} {station r : Nat} {w : LaneStep} (tracked : w.lane.tracked = some r) :
    w.takeUp s station = w := by
  unfold LaneStep.takeUp
  rw [tracked]

theorem LaneStep.restore_none {s : State} {station r : Nat} {w : LaneStep} (tracked : w.lane.tracked = some r)
    (none : w.lane.firstRank (w.restores s station r) = .none) : w.restore s station = w := by
  unfold LaneStep.restore
  rw [tracked]
  unfold LaneStep.restores at none
  simp only [none]

theorem LaneStep.restore_some {s : State} {station r q v : Nat} {c : Candidate} {w : LaneStep}
    (tracked : w.lane.tracked = some r) (first : w.lane.firstRank (w.restores s station r) = some (q, c))
    (value : usableValue s c = some v) :
    w.restore s station = { lane := w.lane.take q v (heardAt s c), changed := true, reason := .restore } := by
  unfold LaneStep.restore
  rw [tracked]
  unfold LaneStep.restores at first
  simp only [first, value, Option.getD_some]

theorem LaneStep.takeUp_none {s : State} {station : Nat} {w : LaneStep} (seeking : w.lane.tracked = none)
    (none : w.lane.firstRank (fun _ c => takesUp s station c) = .none) : w.takeUp s station = w := by
  unfold LaneStep.takeUp
  rw [seeking]
  unfold takesUp at none
  simp only [none]

theorem LaneStep.takeUp_some {s : State} {station q v : Nat} {c : Candidate} {w : LaneStep}
    (seeking : w.lane.tracked = none) (first : w.lane.firstRank (fun _ c => takesUp s station c) = some (q, c))
    (value : usableValue s c = some v) :
    w.takeUp s station = { lane := w.lane.take q v (heardAt s c), changed := true, reason := .found } := by
  unfold LaneStep.takeUp
  rw [seeking]
  unfold takesUp at first
  simp only [first, value, Option.getD_some]

/-- Settles O24: the four steps of a sweep arrival, each by the candidate it looks at. -/
theorem sweepArrivalSettlesALane : Obligations.SweepArrivalSettlesALane := by
  unfold Obligations.SweepArrivalSettlesALane
  refine ⟨fun s c => rfl, fun s station => rfl, fun s station w => ⟨fun r tracked noBetter => ?noRestore, ?seeking, ?noTakeUp⟩,
    fun s station l => ⟨⟨rfl, fun r c n => Lane.updateCredits_credit⟩, ?taken, ?loss, ?lost, ?elsewhere⟩, ?found⟩
  case noRestore =>
    exact LaneStep.restore_none tracked (Lane.firstRank_eq_none fun q c cand =>
      LaneStep.restores_eq_false fun better => noBetter q c better cand)
  case seeking => exact LaneStep.restore_seeking
  case noTakeUp =>
    intro seeking useless
    exact LaneStep.takeUp_none seeking (Lane.firstRank_eq_none fun q c cand =>
      takesUp_eq_false (useless c (List.mem_of_getElem? cand)))
  case taken =>
    intro r c v tracked cand here value
    rw [Lane.takeOrLose_taken tracked cand here value, Lane.take_tracked tracked]
  case loss =>
    intro r c tracked cand here value below
    rw [Lane.takeOrLose_lossy tracked cand here value, if_pos below]
  case lost =>
    intro r c tracked cand here value reached
    rw [Lane.takeOrLose_lossy tracked cand here value, if_neg (by omega)]
  case elsewhere => exact Lane.takeOrLose_elsewhere
  case found =>
    intro s station w before after c v cands here value
    have good : (usableValue s c).isSome = true := Option.isSome_of_eq_some value
    refine ⟨fun r tracked better full noBetter => ?_, fun r => LaneStep.takeUp_tracking, fun seeking useless => ?_⟩
    · have passes : w.restores s station r before.length c = true := by
        rw [LaneStep.restores, Bool.and_eq_true, decide_eq_true_eq]
        exact ⟨⟨better, here, full⟩, good⟩
      exact LaneStep.restore_some tracked (Lane.firstRank_eq_some cands (fun q k ranked =>
        LaneStep.restores_eq_false fun _ => noBetter q k ranked) passes) value
    · have passes : takesUp s station c = true := by
        rw [takesUp, Bool.and_eq_true, decide_eq_true_eq]
        exact ⟨here, good⟩
      exact ⟨LaneStep.restore_seeking seeking, LaneStep.takeUp_some seeking (Lane.firstRank_eq_some cands
        (fun q k ranked => takesUp_eq_false (useless k (List.mem_of_getElem? ranked))) passes) value⟩

end Sys2Proof.Machine

end

section
/-! Proof of the statement on an event at the Lane Map (chapter 4), with the facts of a pass over the sectors: each sector
is seen as it stood before the pass. -/

namespace Sys2Proof.Machine

/-! ## Passes over the sectors (log 9) -/

/-- A pass has come to a place: the places from there on stand as before it. -/
def PassedTo (s : State) (n : Nat) (t : State) : Prop :=
  OnlySectors s t ∧ ∀ j, n ≤ j → t.sector j = s.sector j

theorem PassedTo.start (s : State) : PassedTo s 0 s := ⟨OnlySectors.refl s, fun _ _ => rfl⟩

/-- What one place of a pass may do: it is of the sectors' layer and leaves the other places alone. -/
structure SectorPlace (f : Nat → State → State) : Prop where
  layer : ∀ i t, OnlySectors t (f i t)
  other : ∀ i j t, i ≠ j → (f i t).sector j = t.sector j

theorem PassedTo.next {f : Nat → State → State} (place : SectorPlace f) {s t : State} {n : Nat} (h : PassedTo s n t) :
    PassedTo s (n + 1) (f n t) :=
  ⟨h.1.trans (place.layer n t), fun j later => (place.other n j t (by omega)).trans (h.2 j (by omega))⟩

/-- Two passes that do the same at each place, seen as it stood before, are the same. -/
theorem sectorPass_congr {f g : Nat → State → State} (place : SectorPlace f) {s : State}
    (same : ∀ i t, OnlySectors s t → t.sector i = s.sector i → f i t = g i t) (n : Nat) :
    eachBelow n f s = eachBelow n g s := by
  have passed : PassedTo s n (eachBelow n f s) ∧ eachBelow n f s = eachBelow n g s := by
    induction n with
    | zero => exact ⟨PassedTo.start s, rfl⟩
    | succ n ih =>
      rw [eachBelow_succ, eachBelow_succ, ← ih.2]
      exact ⟨ih.1.next place, same n _ ih.1.1 (ih.1.2 n le_rfl)⟩
  exact passed.2

/-- The places a pass has come by. -/
theorem sectorPass_sector {f : Nat → State → State} (place : SectorPlace f) {s : State} {v : Nat → Option Sector}
    (here : ∀ i t, OnlySectors s t → t.sector i = s.sector i → (f i t).sector i = v i) (n j : Nat) :
    (eachBelow n f s).sector j = if j < n then v j else s.sector j := by
  have passed : PassedTo s n (eachBelow n f s) ∧ ∀ j, j < n → (eachBelow n f s).sector j = v j := by
    induction n with
    | zero => exact ⟨PassedTo.start s, nofun⟩
    | succ n ih =>
      rw [eachBelow_succ]
      refine ⟨ih.1.next place, fun j earlier => ?_⟩
      rcases Nat.lt_succ_iff_lt_or_eq.mp earlier with before | rfl
      · rw [place.other n j _ (by omega), ih.2 j before]
      · exact here j _ ih.1.1 (ih.1.2 j le_rfl)
  split
  next earlier => exact passed.2 j earlier
  next later => exact passed.1.2 j (by omega)

theorem State.putSector_other {i j : Nat} (x : Option Sector) (s : State) (h : i ≠ j) :
    (s.putSector i x).sector j = s.sector j := by
  rw [State.putSector_sector, if_neg fun same => h same.1]

theorem State.putSector_same {i : Nat} (x : Option Sector) (s : State) (h : i < 8) : (s.putSector i x).sector i = x := by
  rw [State.putSector_sector, if_pos ⟨rfl, h⟩]

/-- A change of a loaded sector, as a place of a pass. -/
theorem SectorPlace.updSector (f : State → Sector → Sector) : SectorPlace (fun i t => t.updSector i (f t)) where
  layer i t := t.updSector_layer i _
  other i j t h := by
    unfold State.updSector
    split
    · rfl
    · split
      · rfl
      · exact State.putSector_other _ _ h

/-! ## Lane updates (R61) -/

/-- A lane update reads the lanes alone. -/
theorem Sector.laneUpdate_congr {s t : State} (lanes : t.lanes = s.lanes) : Sector.laneUpdate t = Sector.laneUpdate s := by
  have lane (i : Nat) : t.lane i = s.lane i := by unfold State.lane; rw [lanes]
  funext x
  unfold Sector.laneUpdate validFills
  simp only [lane]

/-- The lane update of one sector, seen as it stood before the pass, where its range holds a lane touched. -/
def State.laneUpdateAt (s : State) (touched : Nat → Bool) (j : Nat) (t : State) : State :=
  match s.sector j with
  | some x => if x.cfg.parked = false ∧ x.cfg.range.any touched = true then t.putSector j (some (x.laneUpdate s)) else t
  | none => t

theorem OnlySectors.lanes_eq {s t : State} (h : OnlySectors s t) : t.lanes = s.lanes := by
  have same := congrArg State.lanes h
  exact same

/-- One place of the lane updates. -/
def laneUpdateStep (changed : List Nat) (i : Nat) (t : State) : State :=
  match t.sector i with
  | some x => if changed.any (fun l => x.cfg.range.contains l) then t.laneUpdate i else t
  | none => t

theorem State.laneUpdates_steps (changed : List Nat) (s : State) :
    s.laneUpdates changed = eachBelow 8 (laneUpdateStep changed) s := rfl

theorem laneUpdateStep_place (changed : List Nat) : SectorPlace (laneUpdateStep changed) where
  layer i t := by
    unfold laneUpdateStep
    split
    · split
      · exact t.laneUpdate_layer i
      · exact OnlySectors.refl t
    · exact OnlySectors.refl t
  other i j t h := by
    unfold laneUpdateStep
    split
    · split
      · exact (SectorPlace.updSector fun t => Sector.laneUpdate t).other i j t h
      · rfl
    · rfl

theorem any_contains_eq (range changed : List Nat) :
    changed.any (fun l => range.contains l) = range.any (fun i => decide (i ∈ changed)) := by
  rw [Bool.eq_iff_iff]
  simp only [List.any_eq_true, List.contains_iff_mem, decide_eq_true_eq]
  exact ⟨fun ⟨l, changed, inside⟩ => ⟨l, inside, changed⟩, fun ⟨l, inside, changed⟩ => ⟨l, changed, inside⟩⟩

theorem laneUpdateStep_eq {changed : List Nat} {touched : Nat → Bool} (mem : ∀ i, touched i = decide (i ∈ changed))
    {s t : State} {i : Nat} (layer : OnlySectors s t) (still : t.sector i = s.sector i) :
    laneUpdateStep changed i t = s.laneUpdateAt touched i t := by
  unfold laneUpdateStep State.laneUpdateAt
  rw [still]
  cases loaded : s.sector i with
  | none => rfl
  | some x =>
    have range : x.cfg.range.any touched = changed.any (fun l => x.cfg.range.contains l) := by
      rw [any_contains_eq, funext mem]
    dsimp only
    rw [range]
    cases parked : x.cfg.parked with
    | true =>
      have nothing : t.laneUpdate i = t := State.updSector_parked (still.trans loaded) parked
      rw [nothing, ite_self, if_neg (by simp)]
    | false =>
      have update : t.laneUpdate i = t.putSector i (some (x.laneUpdate s)) := by
        rw [← Sector.laneUpdate_congr layer.lanes_eq]
        exact State.updSector_unparked (still.trans loaded) parked
      rw [update]
      exact if_congr (by simp) rfl rfl

theorem State.laneUpdates_eq {changed : List Nat} {touched : Nat → Bool} (mem : ∀ i, touched i = decide (i ∈ changed))
    (s : State) : s.laneUpdates changed = eachBelow 8 (s.laneUpdateAt touched) s :=
  (s.laneUpdates_steps changed).trans
    (sectorPass_congr (laneUpdateStep_place changed) (fun _ _ layer still => laneUpdateStep_eq mem layer still) 8)

theorem State.laneUpdates_sector {changed : List Nat} {touched : Nat → Bool} (mem : ∀ i, touched i = decide (i ∈ changed))
    (s : State) {j : Nat} (inside : j < 8) {x : Sector} (loaded : s.sector j = some x) :
    (s.laneUpdates changed).sector j =
      some (if x.cfg.parked = false ∧ x.cfg.range.any touched = true then x.laneUpdate s else x) := by
  have here : ∀ i t, OnlySectors s t → t.sector i = s.sector i → (laneUpdateStep changed i t).sector i =
      (s.laneUpdateAt touched i t).sector i := fun i t layer still => by rw [laneUpdateStep_eq mem layer still]
  have passed := sectorPass_sector (laneUpdateStep_place changed) (s := s)
    (v := fun i => if i < 8 then (s.sector i).map (fun x =>
      if x.cfg.parked = false ∧ x.cfg.range.any touched = true then x.laneUpdate s else x) else none)
    (fun i t layer still => ?_) 8 j
  · rw [State.laneUpdates_steps, passed, if_pos inside, if_pos inside, loaded]
    rfl
  · rw [here i t layer still]
    unfold State.laneUpdateAt
    cases found : s.sector i with
    | none =>
      simp only [Option.map_none, ite_self]
      exact still.trans found
    | some y =>
      have place : i < 8 := lt_of_entryAt found
      rw [if_pos place]
      dsimp only [Option.map_some]
      split
      · exact State.putSector_same _ _ place
      · exact still.trans found

/-! ## The lanes concerned (R51, R61) -/

theorem mem_settledLanes_iff {s : State} {station : Nat} {f : Lane → LaneStep} {w : Nat × Lane × LaneStep} :
    w ∈ settledLanes s station f ↔ s.lane w.1 = some w.2.1 ∧ w.2.2 = f w.2.1 ∧ w.2.1.concerns station = true := by
  refine ⟨mem_settledLanes, fun ⟨loaded, step, concerned⟩ => ?_⟩
  unfold settledLanes
  refine List.mem_filterMap.mpr ⟨w.1, List.mem_range.mpr (lt_of_entryAt loaded), ?_⟩
  rw [loaded, Option.bind_some, if_pos concerned, ← step]

/-- An event at a station changes a lane. -/
def State.laneTouched (s : State) (station : Nat) (f : Lane → LaneStep) (i : Nat) : Bool :=
  (s.lane i).any (fun l => l.concerns station && (f l).changed)

/-- The lanes an event at a station has changed. -/
def changedLanes (ws : List (Nat × Lane × LaneStep)) : List Nat :=
  (ws.filter (fun w => w.2.2.changed)).map (fun w => w.1)

theorem mem_changedLanes (s : State) (station : Nat) (f : Lane → LaneStep) (i : Nat) :
    s.laneTouched station f i = decide (i ∈ changedLanes (settledLanes s station f)) := by
  rw [Bool.eq_iff_iff, decide_eq_true_eq, State.laneTouched, Option.any_eq_true, changedLanes, List.mem_map]
  constructor
  · rintro ⟨l, loaded, touched⟩
    obtain ⟨concerned, changed⟩ := Bool.and_eq_true_iff.mp touched
    exact ⟨(i, l, f l), List.mem_filter.mpr ⟨mem_settledLanes_iff.mpr ⟨loaded, rfl, concerned⟩, changed⟩, rfl⟩
  · rintro ⟨w, member, rfl⟩
    obtain ⟨settled, changed⟩ := List.mem_filter.mp member
    obtain ⟨loaded, step, concerned⟩ := mem_settledLanes_iff.mp settled
    exact ⟨w.2.1, loaded, Bool.and_eq_true_iff.mpr ⟨concerned, step ▸ changed⟩⟩

/-- A place of the Lane Map once settled lanes are written, each to what its place takes. -/
theorem State.writeSettled_lane {ws : List (Nat × Lane × LaneStep)} {v : Nat → Option Lane}
    (takes : ∀ w ∈ ws, some w.2.2.lane = v w.1) (s : State) {i : Nat} (inside : i < 32) :
    (s.writeSettled ws).lane i = if i ∈ ws.map Prod.fst then v i else s.lane i := by
  unfold State.writeSettled
  induction ws generalizing s with
  | nil => rfl
  | cons w ws ih =>
    rw [List.foldl_cons, ih (fun u member => takes u (List.mem_cons_of_mem w member)), setLane_lane, List.map_cons]
    by_cases later : i ∈ ws.map Prod.fst
    · rw [if_pos later, if_pos (List.mem_cons_of_mem _ later)]
    · rw [if_neg later]
      by_cases here : w.1 = i
      · rw [if_pos ⟨here, inside⟩, if_pos (here ▸ List.mem_cons_self), takes w List.mem_cons_self, here]
      · rw [if_neg fun h => here h.1, if_neg]
        rintro member
        rcases List.mem_cons.mp member with same | after
        · exact here same.symm
        · exact later after

/-- Every lane with a candidate at the station is settled, and no other lane is touched. -/
theorem State.settled_lane (s : State) (station : Nat) (f : Lane → LaneStep) (i : Nat) :
    (s.writeSettled (settledLanes s station f)).lane i =
      (s.lane i).map (fun l => if l.concerns station then (f l).lane else l) := by
  rcases Nat.lt_or_ge i 32 with inside | outside
  · have takes : ∀ w ∈ settledLanes s station f, some w.2.2.lane =
        (s.lane w.1).map (fun l => if l.concerns station then (f l).lane else l) := by
      intro w member
      obtain ⟨loaded, step, concerned⟩ := mem_settledLanes_iff.mp member
      rw [loaded, Option.map_some, if_pos concerned, step]
    rw [State.writeSettled_lane (v := fun i => (s.lane i).map fun l => if l.concerns station then (f l).lane else l)
      takes s inside]
    split
    · rfl
    next absent =>
      cases loaded : s.lane i with
      | none => rfl
      | some l =>
        have apart : ¬ l.concerns station = true := fun concerned => absent (List.mem_map.mpr
          ⟨(i, l, f l), mem_settledLanes_iff.mpr ⟨loaded, rfl, concerned⟩, rfl⟩)
        rw [Option.map_some, if_neg apart]
  · unfold State.lane
    rw [entryAt_none_of_le _ _ outside, entryAt_none_of_le _ _ outside]
    rfl

end Sys2Proof.Machine

end

section
/-! Proof of the statement on an event at the Lane Map (chapter 4), the raisings: which notice class an operation of the
zones touches, and the SOURCE raisings of the settled lanes. -/

namespace Sys2Proof.Machine

/-! ## One raising, class by class (R186) -/

/-- A class that takes a raising. -/
def ClassState.raised (d : Detail) (c : ClassState) : ClassState :=
  match c.detail with
  | some _ => { c with count := satInc c.count }
  | none => { c with detail := some d }

/-- A raising writes its class, and queues what it queues. -/
theorem NoticeUnit.raise_only (d : Detail) (l : List Byte) (u : NoticeUnit) :
    OnlyOut (u.set d.cls ((u.get d.cls).raised d)) (u.raise d l) := by
  cases held : (u.get d.cls).detail with
  | some e =>
    simp only [NoticeUnit.raise, ClassState.raised, held]
    exact OnlyOut.refl _
  | none =>
    simp only [NoticeUnit.raise, ClassState.raised, held]
    split
    · exact NoticeUnit.enqueueNotices_only _ _ _
    · exact OnlyOut.refl _

theorem NoticeUnit.raise_get_same (d : Detail) (l : List Byte) (u : NoticeUnit) :
    (u.raise d l).get d.cls = (u.get d.cls).raised d := by
  rw [(u.raise_only d l).get, NoticeUnit.get_set_same]

theorem NoticeUnit.raise_get_other {d : Detail} {c : NoticeClass} (l : List Byte) (u : NoticeUnit) (h : d.cls ≠ c) :
    (u.raise d l).get c = u.get c := by
  rw [(u.raise_only d l).get, NoticeUnit.get_set_other _ _ h]

/-! ## The zones raise in the class STAGE alone (R111) -/

/-- Every class but STAGE stands. -/
def OtherClassesStand (s t : State) : Prop :=
  ∀ c, c ≠ .stage → t.notices.get c = s.notices.get c

theorem OtherClassesStand.refl (s : State) : OtherClassesStand s s := fun _ _ => rfl

theorem OtherClassesStand.trans {s t u : State} (h : OtherClassesStand s t) (k : OtherClassesStand t u) :
    OtherClassesStand s u := fun c other => (k c other).trans (h c other)

theorem OtherClassesStand.of_eq {s t : State} (h : t.notices = s.notices) : OtherClassesStand s t := fun c _ => by rw [h]

theorem State.stageChanged_stands (z : Nat) (old : Stage) (b : Bool) (x : Zone) (s : State) :
    OtherClassesStand s (s.stageChanged z old b x) := by
  intro c other
  have raised : (s.stageChanged z old b x).notices = s.notices.raise
      (.stage z old (x.numberChange (decide (s.mode = .watching))).stage (x.numberChange (decide (s.mode = .watching))).serial
        (x.numberChange (decide (s.mode = .watching))).causes (x.numberChange (decide (s.mode = .watching))).peakSector b)
      s.console := by
    unfold State.stageChanged
    dsimp only
    split
    · exact State.alertRaised_notices ..
    · rfl
  rw [raised]
  exact NoticeUnit.raise_get_other _ _ other.symm

theorem State.evaluateZone_stands (z : Nat) (s : State) : OtherClassesStand s (s.evaluateZone z) := by
  unfold State.evaluateZone
  split
  · exact .refl s
  · dsimp only
    split
    · exact State.stageChanged_stands _ _ _ _ _
    · split <;> exact .of_eq rfl

theorem State.sectorChange_stands (i : Nat) (s : State) : OtherClassesStand s (s.sectorChange i) := by
  refine eachBelow_keeps (P := OtherClassesStand s) (fun z _ t h => ?_) (.refl s)
  split
  · split
    · exact h.trans (t.evaluateZone_stands z)
    · exact h
  · exact h

theorem State.putSector_stands (i : Nat) (x : Option Sector) (s : State) : OtherClassesStand s (s.putSector i x) := by
  unfold State.putSector
  split
  · exact .of_eq rfl
  · exact (OtherClassesStand.of_eq (t := s.setSector i x) rfl).trans (State.sectorChange_stands i _)

theorem State.updSector_stands (i : Nat) (f : Sector → Sector) (s : State) : OtherClassesStand s (s.updSector i f) := by
  unfold State.updSector
  split
  · exact .refl s
  · split
    · exact .refl s
    · exact s.putSector_stands i _

theorem State.laneUpdates_stands (changed : List Nat) (s : State) : OtherClassesStand s (s.laneUpdates changed) := by
  rw [State.laneUpdates_steps]
  refine eachBelow_keeps (P := OtherClassesStand s) (fun i _ t h => h.trans ?_) (.refl s)
  unfold laneUpdateStep
  split
  · split
    · exact t.updSector_stands i _
    · exact .refl t
  · exact .refl t

/-! ## The SOURCE raisings (R62) -/

theorem foldl_raise_notices (details : List Detail) (s : State) :
    (details.foldl (fun t d => t.raise d) s).notices = details.foldl (fun v d => v.raise d s.console) s.notices := by
  induction details generalizing s with
  | nil => rfl
  | cons d details ih => exact ih (s.raise d)

/-- What SOURCE raisings leave in their class, the class alone says. -/
theorem foldl_raise_source {details : List Detail} (cls : ∀ d ∈ details, d.cls = .source) (l : List Byte)
    {u v : NoticeUnit} (same : u.source = v.source) :
    (details.foldl (fun w d => w.raise d l) u).source = (details.foldl (fun w d => w.raise d l) v).source := by
  induction details generalizing u v with
  | nil => exact same
  | cons d details ih =>
    refine ih (fun e member => cls e (List.mem_cons_of_mem d member)) ?_
    have raised (w : NoticeUnit) : (w.raise d l).source = w.source.raised d := by
      have here := w.raise_get_same d l
      rw [cls d List.mem_cons_self] at here
      exact here
    rw [raised, raised, same]

/-- The SOURCE raisings an event at a station brings about, the lower lane first. -/
def State.sourceDetails (s : State) (station : Nat) (f : Lane → LaneStep) : List Detail :=
  (settledLanes s station f).filterMap (fun w => sourceDetail w.1 w.2.1 w.2.2)

theorem sourceDetail_cls {i : Nat} {l : Lane} {w : LaneStep} {d : Detail} (h : sourceDetail i l w = some d) :
    d.cls = .source := by
  unfold sourceDetail at h
  split at h
  · cases h
  · cases h
    rfl

theorem State.sourceDetails_cls {s : State} {station : Nat} {f : Lane → LaneStep} :
    ∀ d ∈ s.sourceDetails station f, d.cls = .source := by
  intro d member
  obtain ⟨w, _, raised⟩ := List.mem_filterMap.mp member
  exact sourceDetail_cls raised

theorem State.laneEvent_eq (station : Nat) (f : Lane → LaneStep) (s : State) : s.laneEvent station f =
    (s.sourceDetails station f).foldl (fun t d => t.raise d)
      ((s.writeSettled (settledLanes s station f)).laneUpdates (changedLanes (settledLanes s station f))) := rfl

theorem State.sourceDetails_eq (s : State) (station : Nat) (f : Lane → LaneStep) : s.sourceDetails station f =
    (List.range 32).filterMap (fun i => (s.lane i).bind (fun l =>
      if l.concerns station && decide (l.tracked ≠ (f l).lane.tracked) then
        let c := (f l).lane.tracked.bind (fun r => (f l).lane.cfg.cands[r]?)
        some (Detail.source i l.tracked (f l).lane.tracked (c.map Candidate.station) (c.map Candidate.sweepLane)
          (f l).reason)
      else none)) := by
  unfold State.sourceDetails settledLanes
  rw [List.filterMap_filterMap]
  refine congrArg (fun g => (List.range 32).filterMap g) (funext fun i => ?_)
  cases s.lane i with
  | none => rfl
  | some l =>
    dsimp only [Option.bind_some]
    cases l.concerns station with
    | false => rfl
    | true =>
      by_cases same : l.tracked = (f l).lane.tracked
      · simp [sourceDetail, same]
      · simp [sourceDetail, same, Lane.trackedCandidate]

/-! ## A station gone (R58, R59) -/

theorem Lane.tracksAt_iff {station : Nat} {l : Lane} :
    l.tracksAt station = true ↔ ∃ r c, l.tracked = some r ∧ l.cfg.cands[r]? = some c ∧ c.station = station := by
  rw [Lane.tracksAt, decide_eq_true_eq, Option.map_eq_some_iff]
  constructor
  · rintro ⟨c, found, here⟩
    obtain ⟨r, tracked, cand⟩ := Option.bind_eq_some_iff.mp found
    exact ⟨r, c, tracked, cand, here⟩
  · rintro ⟨r, c, tracked, cand, here⟩
    exact ⟨c, Lane.trackedCandidate_of_tracked tracked cand, here⟩

/-- Settles O22: the lanes concerned are written, then the sectors they have changed, and then the SOURCE raisings. -/
theorem laneEventSettlesTheLanesConcerned : Obligations.LaneEventSettlesTheLanesConcerned := by
  unfold Obligations.LaneEventSettlesTheLanesConcerned
  refine ⟨fun station s => ⟨rfl, rfl⟩, fun s station why l => ⟨?tracking, ?elsewhere⟩, ?event⟩
  case tracking =>
    intro r c tracked cand here
    exact if_pos (Lane.tracksAt_iff.mpr ⟨r, c, tracked, cand, here⟩)
  case elsewhere =>
    intro apart
    refine if_neg fun tracks => ?_
    obtain ⟨r, c, tracked, cand, here⟩ := Lane.tracksAt_iff.mp tracks
    exact apart r c tracked cand here
  case event =>
    intro station f s u
    have event : u = (s.sourceDetails station f).foldl (fun t d => t.raise d)
        ((s.writeSettled (settledLanes s station f)).laneUpdates (changedLanes (settledLanes s station f))) :=
      State.laneEvent_eq station f s
    have written := State.writeSettled_eq (settledLanes s station f) s
    have settledLane := s.settled_lane station f
    have only := s.laneEvent_layer station f
    change OnlyLanes s u at only
    clear_value u
    generalize s.writeSettled (settledLanes s station f) = t at event written settledLane
    have updates : OnlySectors t (t.laneUpdates (changedLanes (settledLanes s station f))) := State.laneUpdates_layer _ t
    have stands := t.laneUpdates_stands (changedLanes (settledLanes s station f))
    have pass := State.laneUpdates_eq (mem_changedLanes s station f) t
    have updatedSector := fun {j : Nat} => State.laneUpdates_sector (mem_changedLanes s station f) t (j := j)
    generalize t.laneUpdates (changedLanes (settledLanes s station f)) = v at event updates stands pass updatedSector
    have raises : OnlyNotices v u := by
      rw [event]
      exact foldl_keeps (P := OnlyNotices v) (f := fun (t : State) d => t.raise d)
        (fun t d h => h.trans (t.raise_layer d)) _ _ (OnlyNotices.refl v)
    have lanes : u.lanes = t.lanes := (raises.zones.sectors.lanes_eq).trans updates.lanes_eq
    have settled : t = { s with lanes := u.lanes } := by rw [lanes]; exact written
    have sectors (j : Nat) : t.sector j = s.sector j := by rw [written]; rfl
    have after (j : Nat) : u.sector j = v.sector j := raises.zones.sector j
    have updated (j : Nat) (inside : j < 8) (x : Sector) (loaded : s.sector j = some x) : u.sector j =
        some (if x.cfg.parked = false ∧ x.cfg.range.any (s.laneTouched station f) = true then x.laneUpdate t else x) :=
      (after j).trans (updatedSector inside ((sectors j).trans loaded))
    refine ⟨?changed, ?source, ?whole, ?lane, ?still, only⟩
    case changed =>
      rintro j inside x loaded ⟨i, inRange, l, found, concerned, changed⟩
      have touched : x.cfg.range.any (s.laneTouched station f) = true :=
        List.any_eq_true.mpr ⟨i, inRange, (Option.any_eq_true _ _).mpr ⟨l, found, Bool.and_eq_true_iff.mpr ⟨concerned, changed⟩⟩⟩
      rw [updated j inside x loaded, Sector.laneUpdate_congr lanes]
      cases x.cfg.parked with
      | true => rfl
      | false => rw [if_pos ⟨rfl, touched⟩]; rfl
    case source =>
      have details := congrArg State.notices event
      rw [foldl_raise_notices] at details
      have console : v.console = s.console := by
        have same := congrArg State.console updates
        rw [written] at same
        exact same
      have source : v.notices.source = s.notices.source := by
        have kept : t.notices.source = s.notices.source := by rw [written]
        exact (stands .source (by decide)).trans kept
      rw [details, console]
      exact (foldl_raise_source State.sourceDetails_cls _ source).trans
        (congrArg (fun ds => (ds.foldl (fun w d => w.raise d s.console) s.notices).source) (s.sourceDetails_eq station f))
    case whole =>
      rw [pass, settled, s.sourceDetails_eq station f] at event
      exact event
    case lane =>
      intro i
      have lane : u.lane i = t.lane i := congrArg (entryAt · i) lanes
      exact lane.trans (settledLane i)
    case still =>
      intro j inside x loaded unchanged
      have untouched : ¬ x.cfg.range.any (s.laneTouched station f) = true := by
        intro touched
        obtain ⟨i, inRange, touched⟩ := List.any_eq_true.mp touched
        obtain ⟨l, found, touched⟩ := (Option.any_eq_true _ _).mp touched
        obtain ⟨concerned, changed⟩ := Bool.and_eq_true_iff.mp touched
        rw [unchanged i inRange l found concerned] at changed
        cases changed
      rw [updated j inside x loaded, if_neg fun h => untouched h.2]

end Sys2Proof.Machine

end

section
/-! Proofs of the statements on sector assessment, surge windows and the sector stage (chapters 5 and 6). -/

namespace Sys2Proof.Machine

/-! ## The fills of a range (R69, R72) -/

theorem mem_validFills {s : State} {range : List Nat} {l v : Nat} : (l, v) ∈ validFills s range ↔
    l ∈ range ∧ ∃ k ∈ s.lane l, k.tracked ≠ none ∧ v = k.fill.getD 0 := by
  unfold validFills
  rw [List.mem_filterMap]
  constructor
  · rintro ⟨i, inRange, found⟩
    obtain ⟨k, lane, valid⟩ := Option.bind_eq_some_iff.mp found
    split at valid
    next tracking =>
      obtain ⟨rfl, rfl⟩ := Prod.mk.inj (Option.some.inj valid)
      exact ⟨inRange, k, lane, Option.isSome_iff_ne_none.mp tracking, rfl⟩
    · cases valid
  · rintro ⟨inRange, k, lane, tracking, rfl⟩
    have valid : k.valid = true := Option.isSome_iff_ne_none.mpr tracking
    refine ⟨l, inRange, ?_⟩
    rw [lane, Option.bind_some, if_pos valid]

/-- The fills stand lowest lane first. -/
theorem validFills_ascending (s : State) (c : SectorConfig) :
    (validFills s c.range).Pairwise (fun p q => p.1 < q.1) := by
  unfold validFills
  refine List.Pairwise.filterMap _ (fun i j less p here q there => ?_) (List.pairwise_lt_range' (s := c.first) (n := c.count))
  have index (i : Nat) (p : Nat × Nat)
      (found : ((s.lane i).bind fun l => if l.valid then some (i, l.fill.getD 0) else none) = some p) : p.1 = i := by
    obtain ⟨k, _, valid⟩ := Option.bind_eq_some_iff.mp found
    split at valid
    · exact (congrArg Prod.fst (Option.some.inj valid)).symm
    · cases valid
  rw [index i p here, index j q there]
  exact less

theorem mem_exceeding {t l : Nat} {fills : List (Nat × Nat)} : l ∈ exceeding t fills ↔ ∃ v, (l, v) ∈ fills ∧ t < v := by
  simp [exceeding]

/-- The peak so far is the greatest fill so far, of the lowest lane among equals. -/
def IsPeak (fills : List (Nat × Nat)) (p : Peak) : Prop :=
  (p.lane, p.fill) ∈ fills ∧ ∀ l v, (l, v) ∈ fills → v ≤ p.fill ∧ (v = p.fill → p.lane ≤ l)

theorem peakOf_append (fills : List (Nat × Nat)) (q : Nat × Nat) : peakOf (fills ++ [q]) =
    match peakOf fills with
    | none => some { lane := q.1, fill := q.2 }
    | some b => if b.fill < q.2 then some { lane := q.1, fill := q.2 } else some b := by
  unfold peakOf
  rw [List.foldl_append]
  rfl

theorem peakOf_ne_none {fills : List (Nat × Nat)} (some : fills ≠ []) : peakOf fills ≠ none := by
  obtain ⟨front, q, rfl⟩ := List.eq_nil_or_concat fills |>.resolve_left some
  rw [List.concat_eq_append, peakOf_append]
  split
  · exact Option.some_ne_none _
  · split <;> exact Option.some_ne_none _

theorem peakOf_isPeak {fills : List (Nat × Nat)} (ascending : fills.Pairwise (fun p q => p.1 < q.1)) :
    ∀ p ∈ peakOf fills, IsPeak fills p := by
  induction fills using List.reverseRecOn with
  | nil => nofun
  | append_singleton front q ih =>
    obtain ⟨earlier, _, below⟩ := List.pairwise_append.mp ascending
    have lower : ∀ l v, (l, v) ∈ front → l < q.1 := fun l v member => below (l, v) member q List.mem_cons_self
    have whole : ∀ l v, (l, v) ∈ front ++ [q] ↔ (l, v) ∈ front ∨ (l = q.1 ∧ v = q.2) := by
      intro l v
      rw [List.mem_append, List.mem_singleton, Prod.ext_iff]
    intro p member
    rw [peakOf_append] at member
    unfold IsPeak
    simp only [whole]
    cases best : peakOf front with
    | none =>
      have empty : front = [] := by
        by_contra some
        exact peakOf_ne_none some best
      rw [best] at member
      obtain rfl := Option.some.inj member
      refine ⟨.inr ⟨rfl, rfl⟩, fun l v there => ?_⟩
      rcases there with there | ⟨rfl, rfl⟩
      · rw [empty] at there
        cases there
      · exact ⟨le_rfl, fun _ => le_rfl⟩
    | some b =>
      obtain ⟨listed, greatest⟩ := ih earlier b best
      rw [best] at member
      dsimp only at member
      split at member
      next higher =>
        obtain rfl := Option.some.inj member
        refine ⟨.inr ⟨rfl, rfl⟩, fun l v there => ?_⟩
        rcases there with there | ⟨rfl, rfl⟩
        · have small := (greatest l v there).1
          dsimp only
          exact ⟨by omega, by omega⟩
        · exact ⟨le_rfl, fun _ => le_rfl⟩
      next lower_or_same =>
        obtain rfl := Option.some.inj member
        refine ⟨.inl listed, fun l v there => ?_⟩
        rcases there with there | ⟨rfl, rfl⟩
        · exact greatest l v there
        · exact ⟨by omega, fun _ => (lower b.lane b.fill listed).le⟩

/-! ## Saturating sums (R72, R94) -/

theorem foldl_satAdd {start : Nat} (small : start ≤ 65535) (ns : List Nat) :
    ns.foldl satAdd start = min (start + ns.sum) 65535 := by
  induction ns generalizing start with
  | nil => simpa using small
  | cons n ns ih =>
    rw [List.foldl_cons, ih (satAdd_le start n), List.sum_cons]
    unfold satAdd
    omega

theorem fillIndex_eq (fills : List (Nat × Nat)) : fillIndex fills = min (fills.map Prod.snd).sum 65535 := by
  have mapped : fillIndex fills = (fills.map Prod.snd).foldl satAdd 0 := List.foldl_map.symm
  rw [mapped, foldl_satAdd (Nat.zero_le _), Nat.zero_add]

theorem windowOf_eq (span : Nat) (bins : List Nat) : windowOf span bins = min (bins.take span).sum 65535 := by
  unfold windowOf
  rw [foldl_satAdd (Nat.zero_le _), Nat.zero_add]

/-! ## The lane update (R69) -/

/-- Below quorum the level and the blindness stand, and the blind countdown runs unless the sector is blind. -/
theorem Sector.laneUpdate_below {s : State} {x : Sector} (below : (validFills s x.cfg.range).length < x.cfg.quorum) :
    (x.laneUpdate s).level = x.level ∧ (x.laneUpdate s).blind = x.blind ∧
      (x.blind = true → (x.laneUpdate s).blindCd = none) ∧
      (x.blind = false → (x.laneUpdate s).blindCd = some (x.blindCd.getD x.cfg.blindDelay)) := by
  have inquorate : decide (x.cfg.quorum ≤ (validFills s x.cfg.range).length) = false := decide_eq_false (by omega)
  unfold Sector.laneUpdate Sector.takeFills Sector.restage blindStep
  simp only [inquorate, Bool.not_false, Bool.and_true, Bool.false_eq_true, if_false]
  exact ⟨trivial, trivial, fun blind => if_pos blind, fun blind => if_neg (by simp [blind])⟩

theorem Sector.laneUpdate_quorate {s : State} {x : Sector} (quorate : x.cfg.quorum ≤ (validFills s x.cfg.range).length) :
    (x.laneUpdate s).blind = false ∧ (x.laneUpdate s).blindCd = none := by
  unfold Sector.laneUpdate Sector.takeFills Sector.restage blindStep
  simp only [decide_eq_true quorate, Bool.not_true, Bool.and_false, if_true, and_self]

/-- Settles O25: every reading of a lane update is one of the valid fills of the range. -/
theorem laneUpdateReadsTheWholeRange : Obligations.LaneUpdateReadsTheWholeRange := by
  unfold Obligations.LaneUpdateReadsTheWholeRange
  intro s x fills y
  refine ⟨fun l v => mem_validFills, rfl, fun l => ⟨mem_exceeding, mem_exceeding, mem_exceeding, mem_exceeding,
    mem_exceeding, mem_exceeding⟩, ?empty, peakOf_ne_none, peakOf_isPeak (validFills_ascending s x.cfg), fillIndex_eq fills,
    Sector.laneUpdate_below, Sector.laneUpdate_quorate, rfl⟩
  case empty =>
    intro empty
    exact congrArg peakOf empty

/-! ## Blindness, bins and surge (R74, R92 to R94) -/

/-- A sector put as it stands stands. -/
theorem State.putSector_self {i : Nat} {x : Sector} {s : State} (loaded : s.sector i = some x) :
    s.putSector i (some x) = s := by
  have inside : i < 8 := lt_of_entryAt loaded
  have same : s.setSector i (some x) = s := by
    refine congrArg (fun v => { s with sectors := v }) (Vector.ext fun j small => ?_)
    rw [Vector.getElem_setIfInBounds]
    split
    next here =>
      subst here
      have entry : (s.sectors[i]?).join = some x := loaded
      rw [Vector.getElem?_eq_getElem inside] at entry
      exact entry.symm
    · rfl
  unfold State.putSector
  rw [loaded, if_pos rfl, same]

/-- The running out of a sector's countdown: what becomes of the sector where it has, and nothing where it has not. -/
theorem State.updSector_if {i : Nat} {p : Sector → Prop} [DecidablePred p] {g : Sector → Sector} {s : State} :
    (∀ x, s.sector i = some x → x.cfg.parked = false → p x →
      s.updSector i (fun x => if p x then g x else x) = s.putSector i (some (g x))) ∧
    ((∀ x ∈ s.sector i, x.cfg.parked = true ∨ ¬ p x) → s.updSector i (fun x => if p x then g x else x) = s) := by
  constructor
  · intro x loaded unparked out
    rw [State.updSector_unparked loaded unparked, if_pos out]
  · intro still
    cases loaded : s.sector i with
    | none =>
      unfold State.updSector
      rw [loaded]
    | some x =>
      cases parked : x.cfg.parked with
      | true => exact State.updSector_parked loaded parked
      | false =>
        have running : ¬ p x := (still x loaded).resolve_left (by simp [parked])
        rw [State.updSector_unparked loaded parked, if_neg running, State.putSector_self loaded]

theorem Sector.evalSurge_window (x : Sector) : x.evalSurge.window = min (x.bins.take x.cfg.surgeSpan).sum 65535 :=
  windowOf_eq ..

theorem Sector.evalSurge_surge (x : Sector) : x.evalSurge.surge =
    (decide (x.cfg.surgeLimit < x.evalSurge.window) || (x.surge && decide (x.cfg.surgeRelease < x.evalSurge.window))) := rfl

theorem Sector.pulse_some {x : Sector} {b : Nat} {rest : List Nat} (bins : x.bins = b :: rest) (n : Nat) :
    x.pulse (some n) = Sector.restage (Sector.evalSurge { x with bins := min (b + n) 65535 :: rest }) := by
  unfold Sector.pulse
  rw [bins]
  rfl

/-- A channel not reported adds nothing. -/
theorem Sector.pulse_none {x : Sector} {b : Nat} {rest : List Nat} (bins : x.bins = b :: rest) (small : b ≤ 65535) :
    x.pulse none = Sector.restage (Sector.evalSurge x) := by
  have same : addToBin none x.bins = x.bins := by
    rw [bins]
    exact congrArg (· :: rest) (Nat.min_eq_left small)
  unfold Sector.pulse
  rw [same]

/-- A pulse report at one sector, seen as it stood before the pass. -/
def State.pulseAt (s : State) (station : Nat) (counts : List (Option Nat)) (j : Nat) (t : State) : State :=
  match s.sector j with
  | some x =>
    if x.cfg.parked = false ∧ x.cfg.pulse.map PulseLink.station = some station then
      t.putSector j (some (x.pulse (x.cfg.pulse.bind (fun k => (counts[k.channel]?).join))))
    else t
  | none => t

/-- A change of a loaded sector that is none. -/
theorem State.updSector_self {i : Nat} {f : Sector → Sector} {s : State} (same : ∀ x ∈ s.sector i, f x = x) :
    s.updSector i f = s := by
  cases loaded : s.sector i with
  | none =>
    unfold State.updSector
    rw [loaded]
  | some x =>
    cases parked : x.cfg.parked with
    | true => exact State.updSector_parked loaded parked
    | false => rw [State.updSector_unparked loaded parked, same x loaded, State.putSector_self loaded]

theorem State.pulseReport_eq (station : Nat) (counts : List (Option Nat)) (s : State) :
    s.pulseReport station counts = eachBelow 8 (s.pulseAt station counts) s := by
  refine sectorPass_congr (SectorPlace.updSector _) (fun i t layer still => ?_) 8
  unfold State.pulseAt
  cases loaded : s.sector i with
  | none => exact State.updSector_self fun x found => by rw [still, loaded] at found; cases found
  | some x =>
    have here : t.sector i = some x := still.trans loaded
    dsimp only
    cases parked : x.cfg.parked with
    | true => rw [State.updSector_parked here parked, if_neg (by simp)]
    | false =>
      by_cases links : x.cfg.pulse.map PulseLink.station = some station
      · obtain ⟨k, pulse, named⟩ := Option.map_eq_some_iff.mp links
        rw [State.updSector_unparked here parked, if_pos ⟨rfl, links⟩, pulse]
        simp only [named, if_true, Option.bind_some]
      · rw [if_neg fun h => links h.2]
        refine State.updSector_self fun y found => ?_
        obtain rfl := Option.some.inj (here.symm.trans found)
        cases pulse : x.cfg.pulse with
        | none => rfl
        | some k => exact if_neg fun named => links (by rw [pulse, Option.map_some, named])

/-- Settles O27: the two countdowns of a sector, the bins a pulse count fills, and the window over them. -/
theorem blindAndSurgeRunTheirCourse : Obligations.BlindAndSurgeRunTheirCourse := by
  unfold Obligations.BlindAndSurgeRunTheirCourse
  refine ⟨fun i s => ⟨?blind, ?notBlind, ?bin, ?noBin, fun x b n rest bins small => ?pulse⟩,
    State.pulseReport_eq, fun x order => ⟨rfl, x.evalSurge_window, ?_⟩⟩
  case blind =>
    intro x loaded unparked out
    exact congrArg (fun t => Host.Outcome.next (State.finish s t)) (State.updSector_if.1 x loaded unparked out)
  case notBlind =>
    intro still
    exact congrArg (fun t => Host.Outcome.next (State.finish s t)) (State.updSector_if.2 still)
  case bin =>
    intro x loaded unparked out
    exact congrArg (fun t => Host.Outcome.next (State.finish s t)) (State.updSector_if.1 x loaded unparked out)
  case noBin =>
    intro still
    exact congrArg (fun t => Host.Outcome.next (State.finish s t)) (State.updSector_if.2 still)
  case pulse => exact ⟨Sector.pulse_some bins n, Sector.pulse_none bins small⟩
  · rw [Sector.evalSurge_surge]
    refine ⟨fun exceeded => ?_, fun within above => ?_, fun below => ?_⟩
    · rw [decide_eq_true exceeded, Bool.true_or]
    · rw [decide_eq_false (by omega), decide_eq_true above, Bool.false_or, Bool.and_true]
    · rw [decide_eq_false (by omega), decide_eq_false (by omega), Bool.false_or, Bool.and_false]

end Sys2Proof.Machine

end

section
/-! Proofs of the statements on the sector stage and its zones, and on the trip wires (chapter 6). -/

namespace Sys2Proof.Machine

/-! ## The highest of some stages (R80, R108) -/

theorem Stage.max_eq (a b : Stage) : a.max b = a ∨ a.max b = b := by
  unfold Stage.max
  split
  · exact .inr rfl
  · exact .inl rfl

theorem Stage.num_inj {a b : Stage} (h : a.num = b.num) : a = b := by
  revert h
  cases a <;> cases b <;> decide

theorem foldl_max_mem (a : Stage) (l : List Stage) : l.foldl Stage.max a = a ∨ l.foldl Stage.max a ∈ l := by
  induction l generalizing a with
  | nil => exact .inl rfl
  | cons b l ih =>
    rw [List.foldl_cons]
    rcases ih (a.max b) with here | later
    · rw [here]
      rcases a.max_eq b with first | second
      · exact .inl first
      · rw [second]
        exact .inr List.mem_cons_self
    · exact .inr (List.mem_cons_of_mem b later)

theorem num_le_foldl_max (a : Stage) (l : List Stage) :
    a.num ≤ (l.foldl Stage.max a).num ∧ ∀ b ∈ l, b.num ≤ (l.foldl Stage.max a).num := by
  induction l generalizing a with
  | nil => exact ⟨le_rfl, nofun⟩
  | cons b l ih =>
    obtain ⟨first, rest⟩ := ih (a.max b)
    rw [num_stageMax] at first
    rw [List.foldl_cons]
    refine ⟨by omega, fun c member => ?_⟩
    rcases List.mem_cons.mp member with rfl | later
    · omega
    · exact rest c later

/-! ## The stage of a sector (R80, R81) -/

theorem Sector.contributions_eq (x : Sector) : x.contributions =
    [x.level, if x.blind then .watch else .quiet, if x.rapid then .prepare else .quiet,
      if x.surge then .prepare else .quiet, if x.tripFault then .watch else .quiet,
      if x.trip = none then .quiet else .evacuate] := by
  unfold Sector.contributions
  cases x.trip <;> rfl

theorem Sector.contributions_le (x : Sector) : ∀ c ∈ x.contributions, c.num ≤ x.restage.stage.num :=
  (num_le_foldl_max .quiet x.contributions).2

theorem Sector.restage_stage_mem (x : Sector) : x.restage.stage ∈ x.contributions := by
  rcases foldl_max_mem .quiet x.contributions with quiet | member
  · have level : x.level.num ≤ x.restage.stage.num := x.contributions_le _ List.mem_cons_self
    have stage : x.restage.stage = .quiet := quiet
    have same : x.restage.stage = x.level := by
      rw [stage] at level ⊢
      exact Stage.num_inj (Nat.le_zero.mp level).symm
    rw [same]
    exact List.mem_cons_self
  · exact member

theorem Sector.restage_causes_quiet {x : Sector} (quiet : x.restage.stage = .quiet) : x.restage.causes = Causes.none :=
  if_pos quiet

theorem Sector.restage_causes {x : Sector} (above : x.restage.stage ≠ .quiet) : x.restage.causes =
    { level := decide (x.level = x.restage.stage), blind := x.blind && decide (x.restage.stage = .watch)
      rapid := x.rapid && decide (x.restage.stage = .prepare), surge := x.surge && decide (x.restage.stage = .prepare)
      tripFault := x.tripFault && decide (x.restage.stage = .watch)
      trip := x.trip.isSome && decide (x.restage.stage = .evacuate), force := false, held := false } :=
  if_neg above

/-! ## A sector change at the zones (R82) -/

/-- One zone of a sector change, seen as it stood before. -/
def State.changeAt (s : State) (i z : Nat) (t : State) : State :=
  match s.zone z with
  | some y => if i ∈ y.cfg.sectors then t.evaluateZone z else t
  | none => t

/-- One zone of a sector change. -/
def changeStep (i z : Nat) (t : State) : State :=
  match t.zone z with
  | some y => if i ∈ y.cfg.sectors then t.evaluateZone z else t
  | none => t

theorem State.sectorChange_steps_eq (i : Nat) (s : State) : s.sectorChange i = eachBelow 12 (changeStep i) s := rfl

theorem changeStep_other {i z j : Nat} (t : State) (h : z ≠ j) : (changeStep i z t).zone j = t.zone j := by
  unfold changeStep
  split
  · split
    · exact t.evaluateZone_other h
    · rfl
  · rfl

theorem State.sectorChange_eq (i : Nat) (s : State) : s.sectorChange i = eachBelow 12 (s.changeAt i) s := by
  have passed (n : Nat) : (∀ j, n ≤ j → (eachBelow n (changeStep i) s).zone j = s.zone j) ∧
      eachBelow n (changeStep i) s = eachBelow n (s.changeAt i) s := by
    induction n with
    | zero => exact ⟨fun _ _ => rfl, rfl⟩
    | succ n ih =>
      obtain ⟨still, same⟩ := ih
      rw [eachBelow_succ, eachBelow_succ, ← same]
      refine ⟨fun j later => (changeStep_other _ (by omega)).trans (still j (by omega)), ?_⟩
      have here := still n le_rfl
      generalize eachBelow n (changeStep i) s = t at here
      unfold changeStep State.changeAt
      rw [here]
  exact (passed 12).2

/-- Settles O28: the stage is the highest contribution, and a change of it reaches the zones that list the sector. -/
theorem sectorChangeReachesItsZones : Obligations.SectorChangeReachesItsZones := by
  unfold Obligations.SectorChangeReachesItsZones
  refine ⟨fun x => ⟨rfl, ?member, ?highest, Sector.restage_causes_quiet, Sector.restage_causes, rfl, rfl, rfl, rfl⟩, ?put⟩
  case member =>
    rw [← Sector.contributions_eq]
    exact x.restage_stage_mem
  case highest =>
    rw [← Sector.contributions_eq]
    exact x.contributions_le
  case put =>
    intro i x s inside u
    have handed (differs : sectorView x ≠ sectorView (s.sector i)) : u = (s.setSector i x).sectorChange i := if_neg differs
    refine ⟨State.putSector_same x s inside, fun j other => State.putSector_other x s other.symm, fun same => if_pos same,
      fun differs z _ y loaded => ⟨fun listed => ?_, fun unlisted => ?_⟩, fun differs => ?_, fun y => ⟨rfl, rfl⟩,
      s.putSector_layer i x⟩
    · have zone : (s.setSector i x).zone z = some y := loaded
      rw [handed differs, State.sectorChange_zone, State.evaluateZone_same, zone, Option.map_some, Option.map_some,
        State.afterChange, if_pos listed]
    · have zone : (s.setSector i x).zone z = some y := loaded
      rw [handed differs, State.sectorChange_zone, zone, Option.map_some, State.afterChange, if_neg unlisted]
    · rw [handed differs]
      exact State.sectorChange_eq i _

/-! ## What a trip link reads (R97) -/

theorem readLink_vacant {s : State} {k : TripLink} (vacant : s.station k.station = none) : readLink s k = .unusable := by
  unfold readLink
  rw [vacant]

theorem readLink_otherClass {s : State} {k : TripLink} {x : Station} (loaded : s.station k.station = some x)
    (other : ∀ n, x.cfg.cls ≠ .trip n) : readLink s k = .unusable := by
  unfold readLink
  rw [loaded]
  dsimp only
  cases cls : x.cfg.cls with
  | trip n => exact absurd cls (other n)
  | sweep n => rfl
  | pulse n => rfl

/-- The reading of a monitor, state by state. -/
def Station.wireReads (x : Station) (n wire : Nat) : LinkReading :=
  match x.live with
  | .parked => .parked
  | .silent => .silent
  | .absent => .awaiting
  | .live => wireReading n wire x.contents

theorem readLink_monitor {s : State} {k : TripLink} {x : Station} {n : Nat} (loaded : s.station k.station = some x)
    (cls : x.cfg.cls = .trip n) : readLink s k = x.wireReads n k.wire := by
  unfold readLink
  rw [loaded]
  dsimp only
  rw [cls]
  rfl

theorem wireReading_reported {n wire : Nat} {ws : List WireState} {st : WireState} (inside : wire < n)
    (state : ws[wire]? = some st) : wireReading n wire (some (.trip ws)) = st.reading := by
  exact (if_pos inside).trans (by rw [state]; rfl)

theorem wireReading_outside {n wire : Nat} {c : Option Contents} (held : c ≠ none) (outside : n ≤ wire) :
    wireReading n wire c = .fault := by
  cases c with
  | none => exact absurd rfl held
  | some c =>
    cases c with
    | trip ws => exact if_neg (by omega)
    | sweep vs => rfl
    | pulse m counts => rfl

/-! ## TRIP FAULT (R98) -/

theorem tripFaultFrom_faulty {readings : List LinkReading} {held : Bool}
    (faulty : .fault ∈ readings ∨ .silent ∈ readings ∨ .parked ∈ readings ∨ .unusable ∈ readings) :
    tripFaultFrom readings held = true := by
  have some_faulty : readings.any LinkReading.faulty = true := by
    rw [List.any_eq_true]
    rcases faulty with h | h | h | h
    all_goals exact ⟨_, h, rfl⟩
  exact if_pos some_faulty

theorem LinkReading.not_faulty {r : LinkReading} (h : r = .intact ∨ r = .cut ∨ r = .awaiting) : r.faulty = false := by
  rcases h with rfl | rfl | rfl <;> rfl

theorem any_faulty_eq_false {readings : List LinkReading} (h : ∀ r ∈ readings, r = .intact ∨ r = .cut ∨ r = .awaiting) :
    ¬ readings.any LinkReading.faulty = true := by
  rw [List.any_eq_true]
  rintro ⟨r, member, faulty⟩
  rw [LinkReading.not_faulty (h r member)] at faulty
  cases faulty

theorem tripFaultFrom_sound {readings : List LinkReading} {held : Bool} (sound : ∀ r ∈ readings, r = .intact ∨ r = .cut) :
    tripFaultFrom readings held = false := by
  have all_sound : readings.all LinkReading.sound = true :=
    List.all_eq_true.mpr fun r member => by rcases sound r member with rfl | rfl <;> rfl
  unfold tripFaultFrom
  rw [if_neg (any_faulty_eq_false fun r member => (sound r member).imp_right .inl), if_pos all_sound]

theorem tripFaultFrom_awaiting {readings : List LinkReading} {held : Bool}
    (quiet : ∀ r ∈ readings, r = .intact ∨ r = .cut ∨ r = .awaiting) (awaiting : .awaiting ∈ readings) :
    tripFaultFrom readings held = held := by
  have not_sound : ¬ readings.all LinkReading.sound = true := fun all =>
    absurd (List.all_eq_true.mp all .awaiting awaiting) (by decide)
  unfold tripFaultFrom
  rw [if_neg (any_faulty_eq_false quiet), if_neg not_sound]

/-! ## Trip reports at a sector (R99, R100, R101) -/

/-- The first member that passes, with its place. -/
theorem find?_zipIdx_eq_some {α : Type} {before after : List α} {a : α} {p : α → Bool}
    (fails : ∀ b ∈ before, p b = false) (passes : p a = true) :
    (before ++ a :: after).zipIdx.find? (fun q => p q.1) = some (a, before.length) := by
  rw [List.zipIdx_append, List.find?_append,
    find?_zipIdx_eq_none (p := fun _ b => p b) fun r b ranked => fails b (List.mem_of_getElem? ranked), Option.none_or,
    List.zipIdx_cons, Nat.zero_add]
  simp only [List.find?_cons, passes]

theorem cutLink_first {station : Nat} {wires : List WireState} {before after : List TripLink} {k : TripLink}
    (here : k.station = station) (cut : wires[k.wire]? = some .cut)
    (first : ∀ j ∈ before, j.station ≠ station ∨ wires[j.wire]? ≠ some .cut) :
    cutLink station wires (before ++ k :: after) = some (before.length, k) := by
  unfold cutLink
  rw [find?_zipIdx_eq_some (p := fun k => decide (k.station = station ∧ wires[k.wire]? = some .cut))
    (fun j member => decide_eq_false (not_and_or.mpr (first j member))) (decide_eq_true ⟨here, cut⟩)]
  rfl

theorem cutLink_none {station : Nat} {wires : List WireState} {trips : List TripLink}
    (whole : ∀ k ∈ trips, k.station = station → wires[k.wire]? ≠ some .cut) : cutLink station wires trips = none := by
  unfold cutLink
  rw [find?_zipIdx_eq_none (p := fun _ k => decide (k.station = station ∧ wires[k.wire]? = some .cut))
    fun r k ranked => decide_eq_false fun h => whole k (List.mem_of_getElem? ranked) h.1 h.2]
  rfl

theorem newTrip_cut {station : Nat} {addr : Byte} {now : TimeStamp} {wires : List WireState} {x : Sector} {link : Nat}
    {k : TripLink} (clear : x.trip = none) (cut : cutLink station wires x.cfg.trips = some (link, k)) :
    newTrip station addr now wires x =
      some { link := link, station := station, addr := addr, wire := k.wire, time := now } := by
  unfold newTrip
  rw [if_neg (by simp [clear]), cut]
  rfl

theorem newTrip_none {station : Nat} {addr : Byte} {now : TimeStamp} {wires : List WireState} {x : Sector}
    (h : x.trip ≠ none ∨ ∀ k ∈ x.cfg.trips, k.station = station → wires[k.wire]? ≠ some .cut) :
    newTrip station addr now wires x = none := by
  unfold newTrip
  split
  · rfl
  next clear =>
    have latch : x.trip = none := by simpa using clear
    rw [cutLink_none (h.resolve_left (not_not.mpr latch))]
    rfl

/-- A link of the sector names the station. -/
def Sector.links (station : Nat) (x : Sector) : Bool :=
  x.cfg.trips.any (fun k => decide (k.station = station))

theorem Sector.links_iff {station : Nat} {x : Sector} : x.links station = true ↔ ∃ k ∈ x.cfg.trips, k.station = station := by
  simp [Sector.links]

section
variable {station i : Nat} {addr : Byte} {wires : List WireState} {x : Sector} {s : State}

theorem State.tripAt_vacant (vacant : s.sector i = none) : s.tripAt station addr wires i = s := by
  unfold State.tripAt
  rw [vacant]

theorem State.tripAt_parked (loaded : s.sector i = some x) (parked : x.cfg.parked = true) :
    s.tripAt station addr wires i = s := by
  unfold State.tripAt
  rw [loaded]
  exact if_pos (by simp [parked])

theorem State.tripAt_unlinked (loaded : s.sector i = some x) (links : x.links station = false) :
    s.tripAt station addr wires i = s := by
  have none : x.cfg.trips.any (fun k => decide (k.station = station)) = false := links
  unfold State.tripAt
  rw [loaded]
  exact if_pos (by simp only [none, Bool.not_false, Bool.or_true])

theorem State.tripAt_linked (loaded : s.sector i = some x) (parked : x.cfg.parked = false) (links : x.links station = true) :
    s.tripAt station addr wires i = match newTrip station addr s.time.now wires x with
      | none => s.putSector i (some (Sector.restage (x.evalTripFault s)))
      | some r => (s.raise (r.detail i)).putSector i (some (Sector.restage { x.evalTripFault s with trip := some r })) := by
  have any : x.cfg.trips.any (fun k => decide (k.station = station)) = true := links
  have linked : ¬ (x.cfg.parked || !x.cfg.trips.any (fun k => decide (k.station = station))) = true := by
    rw [parked, any]
    decide
  unfold State.tripAt
  rw [loaded]
  dsimp only
  rw [if_neg linked]
  cases newTrip station addr s.time.now wires x with
  | none => exact State.updSector_unparked loaded parked
  | some r => exact State.updSector_unparked (s := s.raise (r.detail i)) loaded parked

/-- A report with a CUT at a clear latch. -/
theorem State.tripAt_cut {before after : List TripLink} {k : TripLink} (loaded : s.sector i = some x)
    (parked : x.cfg.parked = false) (clear : x.trip = none) (trips : x.cfg.trips = before ++ k :: after)
    (here : k.station = station) (cut : wires[k.wire]? = some .cut)
    (first : ∀ j ∈ before, j.station ≠ station ∨ wires[j.wire]? ≠ some .cut) :
    s.tripAt station addr wires i =
      (s.raise (.trip i before.length station addr k.wire s.time.now)).putSector i (some (Sector.restage
        { x.evalTripFault s with trip := (some
            { link := before.length, station := station, addr := addr, wire := k.wire, time := s.time.now }) })) := by
  have links : x.links station = true :=
    Sector.links_iff.mpr ⟨k, trips ▸ List.mem_append_right before List.mem_cons_self, here⟩
  rw [State.tripAt_linked loaded parked links, newTrip_cut clear (trips ▸ cutLink_first here cut first)]
  rfl

/-- A report that sets no latch. -/
theorem State.tripAt_report (loaded : s.sector i = some x) (parked : x.cfg.parked = false) (links : x.links station = true)
    (h : x.trip ≠ none ∨ ∀ k ∈ x.cfg.trips, k.station = station → wires[k.wire]? ≠ some .cut) :
    s.tripAt station addr wires i = s.putSector i (some (Sector.restage (x.evalTripFault s))) := by
  rw [State.tripAt_linked loaded parked links, newTrip_none h]

end

/-- A latched sector stands at EVACUATE with TRIP among its causes. -/
theorem Sector.restage_latched {x : Sector} (latched : x.trip ≠ none) :
    x.restage.stage = .evacuate ∧ x.restage.causes.trip = true := by
  have listed : Stage.evacuate ∈ x.contributions := by
    rw [Sector.contributions_eq, if_neg latched]
    simp
  have high : Stage.evacuate.num ≤ x.restage.stage.num := x.contributions_le _ listed
  have stage : x.restage.stage = .evacuate := by
    revert high
    cases x.restage.stage <;> decide
  refine ⟨stage, ?_⟩
  rw [Sector.restage_causes (by rw [stage]; decide), stage]
  simpa [Option.isSome_iff_ne_none] using latched

/-! ## The hand-off of a station at the trip logic (R98) -/

/-- TRIP FAULT reads the stations alone. -/
theorem Sector.evalTripFault_congr {s t : State} (stations : t.stations = s.stations) :
    Sector.evalTripFault t = Sector.evalTripFault s := by
  have station (i : Nat) : t.station i = s.station i := by unfold State.station; rw [stations]
  have reading : readLink t = readLink s := by
    funext k
    unfold readLink
    rw [station]
  funext x
  unfold Sector.evalTripFault
  rw [reading]

/-- The hand-off of a station at one sector, seen as it stood before the pass. -/
def State.handoffAt (s : State) (station j : Nat) (t : State) : State :=
  match s.sector j with
  | some x =>
    if x.cfg.parked = false ∧ x.cfg.trips.any (fun k => decide (k.station = station)) = true then
      t.putSector j (some (Sector.restage (x.evalTripFault s)))
    else t
  | none => t

theorem State.tripHandoff_eq (station : Nat) (s : State) :
    s.tripHandoff station = eachBelow 8 (s.handoffAt station) s := by
  refine sectorPass_congr (SectorPlace.updSector fun t x =>
    if x.cfg.trips.any (fun k => decide (k.station = station)) then (x.evalTripFault t).restage else x)
    (fun i t layer still => ?_) 8
  have stations : t.stations = s.stations := layer.lanes.stations_eq
  unfold State.handoffAt
  cases loaded : s.sector i with
  | none => exact State.updSector_self fun x found => by rw [still, loaded] at found; cases found
  | some x =>
    have here : t.sector i = some x := still.trans loaded
    dsimp only
    cases parked : x.cfg.parked with
    | true => rw [State.updSector_parked here parked, if_neg (by simp)]
    | false =>
      by_cases links : x.cfg.trips.any (fun k => decide (k.station = station)) = true
      · rw [State.updSector_unparked here parked, if_pos links, if_pos ⟨rfl, links⟩, Sector.evalTripFault_congr stations]
      · rw [if_neg fun h => links h.2]
        refine State.updSector_self fun y found => ?_
        obtain rfl := Option.some.inj (here.symm.trans found)
        exact if_neg links

/-- Settles O29: the readings of the links, TRIP FAULT over them, a report at a sector, and the two passes. -/
theorem tripLinksSetFaultAndLatch : Obligations.TripLinksSetFaultAndLatch := by
  unfold Obligations.TripLinksSetFaultAndLatch
  refine ⟨⟨rfl, rfl, rfl⟩, ⟨fun s k => ⟨readLink_vacant, fun x loaded => ⟨readLink_otherClass loaded,
    fun n cls => ?reading⟩⟩, fun s x => ⟨rfl, tripFaultFrom_faulty, tripFaultFrom_sound, tripFaultFrom_awaiting⟩⟩,
    fun station addr wires i x s loaded parked => ?report, fun station addr wires i s inert => ?inert,
    fun station addr wires s => rfl, State.tripHandoff_eq⟩
  case reading =>
    have read := readLink_monitor loaded cls
    refine ⟨fun live => ?_, fun live => ?_, fun live => ?_, fun live none => ?_, fun ws st live held inside state => ?_,
      fun live held outside => ?_⟩
    · rw [read, Station.wireReads, live]
    · rw [read, Station.wireReads, live]
    · rw [read, Station.wireReads, live]
    · rw [read, Station.wireReads, live, none]
      rfl
    · rw [read, Station.wireReads, live, held]
      exact wireReading_reported inside state
    · rw [read, Station.wireReads, live]
      exact wireReading_outside held outside
  case report =>
    have place : i < 8 := lt_of_entryAt loaded
    refine ⟨fun before k after clear trips here cut first => ?_, fun r latched => ?_, fun apart => ?_,
      fun before k after clear trips here cut first => State.tripAt_cut loaded parked clear trips here cut first,
      fun linked quiet => State.tripAt_report loaded parked (Sector.links_iff.mpr linked) quiet⟩
    · rw [State.tripAt_cut loaded parked clear trips here cut first]
      refine ⟨⟨_, State.putSector_same _ _ place, rfl, Sector.restage_latched (Option.some_ne_none _)⟩, ?_⟩
      exact (State.putSector_stands i _ _ .trip (by decide)).symm
    · cases linked : x.links station with
      | true =>
        rw [State.tripAt_report loaded parked linked (.inl (by simp [latched]))]
        exact ⟨_, State.putSector_same _ _ place, latched⟩
      | false =>
        rw [State.tripAt_unlinked loaded linked]
        exact ⟨x, loaded, latched⟩
    · refine State.tripAt_unlinked loaded ?_
      rw [← Bool.not_eq_true, Sector.links_iff]
      rintro ⟨k, member, named⟩
      exact apart k member named
  case inert =>
    cases loaded : s.sector i with
    | none => exact State.tripAt_vacant loaded
    | some x => exact State.tripAt_parked loaded (inert x loaded)

end Sys2Proof.Machine

end

section
/-! Proofs of the statements on the zones (chapter 7): what a zone reads from its contributing sectors, what a change of
its stage leaves, and the three countdowns of a zone. -/

namespace Sys2Proof.Machine

/-! ## The contributing sectors (R108) -/

theorem mem_contributing {s : State} {listed : List Nat} {j : Nat} {y : Sector} : (j, y) ∈ contributing s listed ↔
    j < 8 ∧ s.sector j = some y ∧ j ∈ listed ∧ y.cfg.parked = false := by
  unfold contributing
  rw [List.mem_filterMap]
  constructor
  · rintro ⟨i, inside, found⟩
    split at found
    next w loaded =>
      split at found
      next contributes =>
        obtain ⟨rfl, rfl⟩ := Prod.mk.inj (Option.some.inj found)
        exact ⟨List.mem_range.mp inside, loaded, contributes.1, contributes.2⟩
      · cases found
    · cases found
  · rintro ⟨inside, loaded, listed, parked⟩
    refine ⟨j, List.mem_range.mpr inside, ?_⟩
    rw [loaded]
    exact if_pos ⟨listed, parked⟩

/-- The contributing sectors stand lowest index first. -/
theorem contributing_ascending (s : State) (listed : List Nat) :
    (contributing s listed).Pairwise (fun p q => p.1 < q.1) := by
  unfold contributing
  refine List.Pairwise.filterMap _ (fun i j less p here q there => ?_) List.pairwise_lt_range
  have index (i : Nat) (p : Nat × Sector) (found : (match s.sector i with
      | some y => if i ∈ listed ∧ y.cfg.parked = false then some (i, y) else none
      | none => none) = some p) : p.1 = i := by
    split at found
    · split at found
      · exact (congrArg Prod.fst (Option.some.inj found)).symm
      · cases found
    · cases found
  rw [index i p here, index j q there]
  exact less

theorem computedStage_eq (cs : List (Nat × Sector)) :
    computedStage cs = (cs.map (fun p => p.2.stage)).foldl Stage.max .quiet := List.foldl_map.symm

theorem le_computedStage {cs : List (Nat × Sector)} {j : Nat} {y : Sector} (member : (j, y) ∈ cs) :
    y.stage.num ≤ (computedStage cs).num := by
  rw [computedStage_eq]
  exact (num_le_foldl_max .quiet _).2 y.stage (List.mem_map.mpr ⟨(j, y), member, rfl⟩)

theorem computedStage_mem (cs : List (Nat × Sector)) :
    computedStage cs = .quiet ∨ ∃ j y, (j, y) ∈ cs ∧ y.stage = computedStage cs := by
  rw [computedStage_eq]
  refine (foldl_max_mem .quiet (cs.map (fun p => p.2.stage))).imp_right fun member => ?_
  obtain ⟨⟨j, y⟩, listed, stage⟩ := List.mem_map.mp member
  exact ⟨j, y, listed, stage⟩

theorem computedStage_attained {cs : List (Nat × Sector)} (some : cs ≠ []) :
    ∃ p ∈ cs, p.2.stage = computedStage cs := by
  rcases computedStage_mem cs with quiet | ⟨j, y, listed, stage⟩
  · obtain ⟨p, rest, rfl⟩ := List.exists_cons_of_ne_nil some
    have low := le_computedStage (cs := p :: rest) (j := p.1) (y := p.2) List.mem_cons_self
    rw [quiet] at low ⊢
    exact ⟨p, List.mem_cons_self, Stage.num_inj (Nat.le_zero.mp low)⟩
  · exact ⟨(j, y), listed, stage⟩

/-! ## The peak sector (R108) -/

theorem peakSectorOf_ne_none {cs : List (Nat × Sector)} (some : cs ≠ []) : peakSectorOf cs ≠ none := by
  obtain ⟨p, listed, stage⟩ := computedStage_attained some
  unfold peakSectorOf
  rw [Ne, Option.map_eq_none_iff, List.find?_eq_none]
  exact fun none => none p listed (decide_eq_true stage)

theorem peakSectorOf_first {cs : List (Nat × Sector)} (ascending : cs.Pairwise (fun p q => p.1 < q.1)) :
    ∀ j ∈ peakSectorOf cs, (∃ w, (j, w) ∈ cs ∧ w.stage = computedStage cs) ∧
      ∀ k v, (k, v) ∈ cs → v.stage = computedStage cs → j ≤ k := by
  intro j peak
  obtain ⟨p, found, rfl⟩ := Option.map_eq_some_iff.mp peak
  obtain ⟨highest, before, after, split, earlier⟩ := List.find?_eq_some_iff_append.mp found
  refine ⟨⟨p.2, List.mem_of_find?_eq_some found, of_decide_eq_true highest⟩, fun k v listed stage => ?_⟩
  rw [split] at listed ascending
  rcases List.mem_append.mp listed with first | later
  · have not := earlier (k, v) first
    simp [stage] at not
  · rcases List.mem_cons.mp later with here | beyond
    · exact le_of_eq (congrArg Prod.fst here).symm
    · exact ((List.pairwise_cons.mp (List.pairwise_append.mp ascending).2.1).1 (k, v) beyond).le

/-! ## The causes of a zone (R109) -/

/-- A cause of a union of causes is a cause of one of them. -/
theorem foldl_union_cause {π : Causes → Bool} (union : ∀ a b : Causes, π (a.union b) = (π a || π b))
    (ps : List (Nat × Sector)) (c : Causes) :
    π (ps.foldl (fun c p => c.union p.2.causes) c) = (π c || ps.any (fun p => π p.2.causes)) := by
  induction ps generalizing c with
  | nil => simp
  | cons p ps ih => rw [List.foldl_cons, ih, union, List.any_cons, Bool.or_assoc]

theorem sectorCause_iff {π : Causes → Bool} (union : ∀ a b : Causes, π (a.union b) = (π a || π b))
    (none : π Causes.none = false) (cs : List (Nat × Sector)) (st : Stage) :
    π ((cs.filter (fun p => decide (p.2.stage = st))).foldl (fun c p => c.union p.2.causes) Causes.none) = true ↔
      ∃ j w, (j, w) ∈ cs ∧ w.stage = st ∧ π w.causes = true := by
  rw [foldl_union_cause union, none, Bool.false_or, List.any_eq_true]
  constructor
  · rintro ⟨⟨j, w⟩, member, cause⟩
    obtain ⟨listed, stage⟩ := List.mem_filter.mp member
    exact ⟨j, w, listed, of_decide_eq_true stage, cause⟩
  · rintro ⟨j, w, listed, stage, cause⟩
    exact ⟨(j, w), List.mem_filter.mpr ⟨listed, decide_eq_true stage⟩, cause⟩

/-- A zone whose computed stage, peak sector and causes are those of its contributing sectors. -/
theorem Zone.reads_of {cs : List (Nat × Sector)} (ascending : cs.Pairwise (fun p q => p.1 < q.1)) {y : Zone}
    (computed : y.computed = computedStage cs) (peak : y.peakSector = peakSectorOf cs)
    (causes : y.causes = y.causesFrom cs) : y.Reads cs := by
  unfold Zone.Reads
  rw [computed, peak, causes]
  refine ⟨rfl, fun empty => by rw [empty]; rfl, peakSectorOf_ne_none, peakSectorOf_first ascending,
    sectorCause_iff (π := Causes.level) (fun _ _ => rfl) rfl cs y.stage,
    sectorCause_iff (π := Causes.blind) (fun _ _ => rfl) rfl cs y.stage,
    sectorCause_iff (π := Causes.rapid) (fun _ _ => rfl) rfl cs y.stage,
    sectorCause_iff (π := Causes.surge) (fun _ _ => rfl) rfl cs y.stage,
    sectorCause_iff (π := Causes.tripFault) (fun _ _ => rfl) rfl cs y.stage,
    sectorCause_iff (π := Causes.trip) (fun _ _ => rfl) rfl cs y.stage, ?force, Option.isSome_iff_ne_none⟩
  case force =>
    show (y.force.map (fun f => decide (y.stage.num ≤ f.stage.num))).getD false = true ↔ _
    cases y.force with
    | none => simp
    | some f => simp

/-! ## A change of a zone's stage (R111, R117) -/

/-- Only the serial, the refresh countdown and the undispatched changes are numbered. -/
theorem Zone.numberChange_eq (watching : Bool) (x : Zone) : x.numberChange watching = { x with
    serial := (x.numberChange watching).serial, refreshCd := (x.numberChange watching).refreshCd
    undispatched := (x.numberChange watching).undispatched } := by
  cases watching <;> rfl

theorem Zone.Reads.numberChange {cs : List (Nat × Sector)} {x : Zone} (h : x.Reads cs) (watching : Bool) :
    (x.numberChange watching).Reads cs := by
  rw [Zone.numberChange_eq]
  exact h

/-- A raising does not touch what an alert is built from. -/
theorem State.alertRaised_raise (z : Nat) (d : Detail) (s : State) :
    ((s.raise d).alertRaised z).dispatch = (s.alertRaised z).dispatch := by
  unfold State.alertRaised
  have zone : (s.raise d).zone z = s.zone z := rfl
  rw [zone]
  cases s.zone z <;> rfl

/-- The zone a change of stage leaves. -/
def State.changedZone (s : State) (x : Zone) : Zone :=
  x.numberChange (decide (s.mode = .watching))

section
variable (s : State) (x : Zone)

theorem State.changedZone_cfg : (s.changedZone x).cfg = x.cfg := by rw [State.changedZone, Zone.numberChange_eq]
theorem State.changedZone_force : (s.changedZone x).force = x.force := by rw [State.changedZone, Zone.numberChange_eq]
theorem State.changedZone_stage : (s.changedZone x).stage = x.stage := by rw [State.changedZone, Zone.numberChange_eq]
theorem State.changedZone_target : (s.changedZone x).target = x.target := by rw [State.changedZone, Zone.numberChange_eq]
theorem State.changedZone_hold : (s.changedZone x).hold = x.hold := by rw [State.changedZone, Zone.numberChange_eq]
theorem State.changedZone_causes : (s.changedZone x).causes = x.causes := by rw [State.changedZone, Zone.numberChange_eq]
theorem State.changedZone_peakSector : (s.changedZone x).peakSector = x.peakSector := by
  rw [State.changedZone, Zone.numberChange_eq]

end

section
variable (z : Nat) (old : Stage) (b : Bool) (x : Zone) (s : State)

theorem State.stageChanged_notices_eq : (s.stageChanged z old b x).notices = s.notices.raise
    (.stage z old x.stage (s.changedZone x).serial x.causes x.peakSector b) s.console := by
  have raised : (s.stageChanged z old b x).notices = s.notices.raise
      (.stage z old (s.changedZone x).stage (s.changedZone x).serial (s.changedZone x).causes (s.changedZone x).peakSector b)
      s.console := by
    unfold State.stageChanged
    dsimp only
    split
    · exact State.alertRaised_notices _ _
    · rfl
  rw [raised, State.changedZone_stage, State.changedZone_causes, State.changedZone_peakSector]

theorem State.stageChanged_dispatch_watching (watching : s.mode = .watching) :
    (s.stageChanged z old b x).dispatch = ((s.setZone z (some (s.changedZone x))).alertRaised z).dispatch := by
  unfold State.stageChanged
  dsimp only
  rw [if_pos (decide_eq_true watching), State.alertRaised_raise]
  rfl

theorem State.stageChanged_dispatch_other (other : s.mode ≠ .watching) :
    (s.stageChanged z old b x).dispatch = s.dispatch := by
  unfold State.stageChanged
  dsimp only
  rw [if_neg (by simpa using other)]
  rfl

end

/-- The numbering of a change in WATCHING. -/
theorem State.changedZone_watching {x : Zone} {s : State} (watching : s.mode = .watching) :
    (s.changedZone x).serial = x.serial + 1 ∧ (s.changedZone x).undispatched = x.undispatched ∧
      (s.changedZone x).refreshCd = if x.stage = .quiet ∨ x.cfg.refresh = 0 then none else some x.cfg.refresh := by
  unfold State.changedZone
  rw [decide_eq_true watching]
  exact ⟨rfl, rfl, rfl⟩

/-- The numbering of a change out of WATCHING. -/
theorem State.changedZone_other {x : Zone} {s : State} (other : s.mode ≠ .watching) :
    (s.changedZone x).serial = x.serial ∧ (s.changedZone x).undispatched = satInc x.undispatched ∧
      (s.changedZone x).refreshCd = x.refreshCd := by
  unfold State.changedZone
  rw [decide_eq_false other]
  exact ⟨rfl, rfl, rfl⟩

/-! ## The evaluation of a zone (R110) -/

/-- The zone at the three branches of an evaluation: its stage raised, kept, or held. -/
def Zone.raisedTo (cs : List (Nat × Sector)) (x : Zone) : Zone :=
  ({ x.look cs with stage := (x.look cs).target, hold := none } : Zone).recause cs

def Zone.keptAt (cs : List (Nat × Sector)) (hold : Option Nat) (x : Zone) : Zone :=
  ({ x.look cs with hold := hold } : Zone).recause cs

theorem Zone.raisedTo_reads {cs : List (Nat × Sector)} (ascending : cs.Pairwise (fun p q => p.1 < q.1)) (x : Zone) :
    (x.raisedTo cs).Reads cs := Zone.reads_of ascending rfl rfl rfl

theorem Zone.keptAt_reads {cs : List (Nat × Sector)} (ascending : cs.Pairwise (fun p q => p.1 < q.1)) (hold : Option Nat)
    (x : Zone) : (x.keptAt cs hold).Reads cs := Zone.reads_of ascending rfl rfl rfl

/-- The target of a zone over some contributing sectors. -/
def Zone.targetOver (cs : List (Nat × Sector)) (x : Zone) : Stage :=
  (computedStage cs).max x.forceStage

section
variable {z : Nat} {x : Zone} {s : State} (loaded : s.zone z = some x)
include loaded

theorem State.evaluateZone_raises
    (above : x.stage.num < (x.targetOver (contributing s x.cfg.sectors)).num) :
    s.evaluateZone z = s.stageChanged z x.stage false (x.raisedTo (contributing s x.cfg.sectors)) := by
  unfold State.evaluateZone
  rw [loaded]
  exact if_pos above

theorem State.evaluateZone_stays
    (same : (x.targetOver (contributing s x.cfg.sectors)).num = x.stage.num) :
    s.evaluateZone z = s.setZone z (some (x.keptAt (contributing s x.cfg.sectors) none)) := by
  have notAbove : ¬ x.stage.num < (x.targetOver (contributing s x.cfg.sectors)).num := by omega
  unfold State.evaluateZone
  rw [loaded]
  exact (if_neg notAbove).trans (if_pos same)

theorem State.evaluateZone_holds
    (below : (x.targetOver (contributing s x.cfg.sectors)).num < x.stage.num) :
    s.evaluateZone z = s.setZone z (some (x.keptAt (contributing s x.cfg.sectors)
      (some (x.hold.getD x.cfg.holdDown)))) := by
  have notAbove : ¬ x.stage.num < (x.targetOver (contributing s x.cfg.sectors)).num := by omega
  have notSame : ¬ (x.targetOver (contributing s x.cfg.sectors)).num = x.stage.num := by omega
  unfold State.evaluateZone
  rw [loaded]
  exact (if_neg notAbove).trans (if_neg notSame)

end

theorem State.stageChanged_same {z : Nat} {old : Stage} {b : Bool} {x y : Zone} {s : State} (loaded : s.zone z = some y) :
    (s.stageChanged z old b x).zone z = some (s.changedZone x) := by
  rw [State.stageChanged_zone, State.zone_setZone_same _ _ _ (lt_of_entryAt loaded)]
  rfl

theorem State.stageChanged_other {z j : Nat} {old : Stage} {b : Bool} {x : Zone} (s : State) (other : j ≠ z) :
    (s.stageChanged z old b x).zone j = s.zone j := by
  rw [State.stageChanged_zone, State.zone_setZone_other _ _ _ _ other.symm]

/-- Settles O30: what a zone reads from its sectors, and the three branches of its evaluation. -/
theorem evaluationTakesTheCaseItFinds : Obligations.EvaluationTakesTheCaseItFinds := by
  unfold Obligations.EvaluationTakesTheCaseItFinds
  intro z x s loaded cs target u
  have place : z < 12 := lt_of_entryAt loaded
  have ascending : cs.Pairwise (fun p q => p.1 < q.1) := contributing_ascending s x.cfg.sectors
  refine ⟨fun j y => mem_contributing, fun none => ?unforced, fun f force => ?forced, num_stageMax _ _,
    fun j y => le_computedStage, computedStage_mem cs, fun j other => State.evaluateZone_other s other.symm,
    s.evaluateZone_layer z, ?cases⟩
  case unforced => rw [Zone.forceStage, none]; rfl
  case forced => rw [Zone.forceStage, force]; rfl
  case cases =>
    rcases Nat.lt_trichotomy x.stage.num target.num with above | same | below
    · have raises : u = s.stageChanged z x.stage false (x.raisedTo cs) := State.evaluateZone_raises loaded above
      have high : target ≠ .quiet := fun quiet => by
        rw [quiet] at above
        exact absurd above (Nat.not_lt_zero _)
      refine ⟨s.changedZone (x.raisedTo cs), ?_, s.changedZone_cfg _, s.changedZone_force _, s.changedZone_target _,
        (x.raisedTo_reads ascending).numberChange _, fun _ => ⟨s.changedZone_stage _, s.changedZone_hold _, ?_,
          fun watching => ?_, fun other => ?_⟩, fun le => absurd le (by omega), fun eq => absurd eq (by omega),
        fun lt => absurd lt (by omega)⟩
      · rw [raises]
        exact State.stageChanged_same loaded
      · rw [raises, State.stageChanged_notices_eq, State.changedZone_causes, State.changedZone_peakSector]
        rfl
      · obtain ⟨serial, undispatched, refresh⟩ := State.changedZone_watching (x := x.raisedTo cs) watching
        refine ⟨serial, undispatched, refresh.trans (if_congr (or_iff_right high) rfl rfl), ?_⟩
        rw [raises, State.stageChanged_dispatch_watching _ _ _ _ _ watching]
      · obtain ⟨serial, undispatched, refresh⟩ := State.changedZone_other (x := x.raisedTo cs) other
        refine ⟨serial, undispatched, refresh, ?_⟩
        rw [raises, State.stageChanged_dispatch_other _ _ _ _ _ other]
    · have stays : u = s.setZone z (some (x.keptAt cs none)) := State.evaluateZone_stays loaded same.symm
      refine ⟨x.keptAt cs none, ?_, rfl, rfl, rfl, x.keptAt_reads ascending none, fun lt => absurd lt (by omega),
        fun _ => ⟨rfl, rfl, rfl, rfl, ?_, ?_⟩, fun _ => rfl, fun lt => absurd lt (by omega)⟩
      · rw [stays, State.zone_setZone_same _ _ _ place]
      · rw [stays, State.setZone_dispatch]
      · rw [stays, State.setZone_notices]
    · have holds : u = s.setZone z (some (x.keptAt cs (some (x.hold.getD x.cfg.holdDown)))) :=
        State.evaluateZone_holds loaded below
      refine ⟨x.keptAt cs (some (x.hold.getD x.cfg.holdDown)), ?_, rfl, rfl, rfl, x.keptAt_reads ascending _,
        fun lt => absurd lt (by omega), fun _ => ⟨rfl, rfl, rfl, rfl, ?_, ?_⟩, fun eq => absurd eq (by omega), fun _ => rfl⟩
      · rw [holds, State.zone_setZone_same _ _ _ place]
      · rw [holds, State.setZone_dispatch]
      · rw [holds, State.setZone_notices]

/-! ## The countdowns of a zone (R112 to R116) -/

theorem Zone.forceOut_iff {x : Zone} : x.forceOut = true ↔ ∃ f, x.force = some f ∧ f.left = 0 := by
  simp [Zone.forceOut]

theorem Zone.forceOut_eq_false {x : Zone} (h : ∀ f ∈ x.force, f.left ≠ 0) : x.forceOut = false := by
  rw [← Bool.not_eq_true, Zone.forceOut_iff]
  rintro ⟨f, force, out⟩
  exact h f force out

/-- The zone the end of a hold leaves, not yet numbered (R112). -/
def Zone.releasedTo (cs : List (Nat × Sector)) (x : Zone) : Zone :=
  let y := ({ x with hold := none } : Zone).look cs
  ({ y with stage := y.target } : Zone).recause cs

theorem Zone.releasedTo_reads {cs : List (Nat × Sector)} (ascending : cs.Pairwise (fun p q => p.1 < q.1)) (x : Zone) :
    (x.releasedTo cs).Reads cs := Zone.reads_of ascending rfl rfl rfl

section
variable {z : Nat} {x : Zone} {s : State}

theorem State.takeForce_out {f : Force} (loaded : s.zone z = some x) (force : x.force = some f) (out : f.left = 0) :
    s.takeForce z = (s.setZone z (some { x with force := none })).evaluateZone z := by
  unfold State.takeForce State.setForce
  rw [loaded]
  exact if_pos (Zone.forceOut_iff.mpr ⟨f, force, out⟩)

theorem State.takeForce_still (still : ∀ x ∈ s.zone z, ∀ f ∈ x.force, f.left ≠ 0) : s.takeForce z = s := by
  unfold State.takeForce
  cases loaded : s.zone z with
  | none => rfl
  | some x => exact if_neg (by simp [Zone.forceOut_eq_false (still x loaded)])

theorem State.takeHold_out (loaded : s.zone z = some x) (out : x.hold = some 0) (force : ∀ f ∈ x.force, f.left ≠ 0) :
    s.takeHold z = s.stageChanged z x.stage true (x.releasedTo (contributing s x.cfg.sectors)) := by
  unfold State.takeHold State.holdEnds
  rw [loaded]
  exact if_pos ⟨out, Zone.forceOut_eq_false force⟩

theorem State.takeHold_still (still : ∀ x ∈ s.zone z, x.hold ≠ some 0 ∨ ∃ f, x.force = some f ∧ f.left = 0) :
    s.takeHold z = s := by
  unfold State.takeHold
  cases loaded : s.zone z with
  | none => rfl
  | some x =>
    refine if_neg fun ⟨out, force⟩ => ?_
    rcases still x loaded with running | forced
    · exact running out
    · rw [Zone.forceOut_iff.mpr forced] at force
      cases force

theorem State.takeRefresh_out (loaded : s.zone z = some x) (out : x.refreshCd = some 0) (hold : x.hold ≠ some 0)
    (force : ∀ f ∈ x.force, f.left ≠ 0) :
    s.takeRefresh z = (s.setZone z (some { x with refreshCd := some x.cfg.refresh })).refreshDue z := by
  unfold State.takeRefresh State.refreshRunsOut
  rw [loaded]
  exact if_pos ⟨out, hold, Zone.forceOut_eq_false force⟩

theorem State.takeRefresh_still
    (still : ∀ x ∈ s.zone z, x.refreshCd ≠ some 0 ∨ x.hold = some 0 ∨ ∃ f, x.force = some f ∧ f.left = 0) :
    s.takeRefresh z = s := by
  unfold State.takeRefresh
  cases loaded : s.zone z with
  | none => rfl
  | some x =>
    refine if_neg fun ⟨out, hold, force⟩ => ?_
    rcases still x loaded with running | held | forced
    · exact running out
    · exact hold held
    · rw [Zone.forceOut_iff.mpr forced] at force
      cases force

end

/-- A running out at its own row. -/
theorem exec_of_runOut {r : RunningOut} {s t : State} (taken : s.runOut r = t) :
    exec r.row s = .next (State.finish s t) := by
  rw [exec_row, taken]

/-- Settles O31: each countdown that has run out takes its course, and none takes any before its turn. -/
theorem zoneCountdownsRunOut : Obligations.ZoneCountdownsRunOut := by
  unfold Obligations.ZoneCountdownsRunOut
  intro z s
  refine ⟨fun x f loaded force out => ?force, fun still => ?noForce, fun x loaded out force => ?hold, fun still => ?noHold,
    fun x loaded out hold force => ?refresh, fun still => ?noRefresh⟩
  case force => exact exec_of_runOut (r := .force z) (State.takeForce_out loaded force out)
  case noForce => exact exec_of_runOut (r := .force z) (State.takeForce_still still)
  case noHold => exact exec_of_runOut (r := .hold z) (State.takeHold_still still)
  case refresh => exact exec_of_runOut (r := .refresh z) (State.takeRefresh_out loaded out hold force)
  case noRefresh => exact exec_of_runOut (r := .refresh z) (State.takeRefresh_still still)
  case hold =>
    intro cs target
    have ascending : cs.Pairwise (fun p q => p.1 < q.1) := contributing_ascending s x.cfg.sectors
    refine ⟨_, s.changedZone (x.releasedTo cs), exec_of_runOut (r := .hold z) (State.takeHold_out loaded out force),
      State.stageChanged_same loaded, s.changedZone_cfg _, s.changedZone_force _, s.changedZone_stage _,
      s.changedZone_target _, s.changedZone_hold _, ?_, (x.releasedTo_reads ascending).numberChange _, ?_,
      fun watching => ?_, fun other => ?_, fun j other => State.stageChanged_other s other,
      s.stageChanged_layer z _ _ _⟩
    · rw [State.changedZone_causes]
      rfl
    · rw [State.stageChanged_notices_eq, State.changedZone_causes, State.changedZone_peakSector]
      rfl
    · obtain ⟨serial, undispatched, refresh⟩ := State.changedZone_watching (x := x.releasedTo cs) watching
      exact ⟨serial, undispatched, refresh, State.stageChanged_dispatch_watching _ _ _ _ _ watching⟩
    · obtain ⟨serial, undispatched, refresh⟩ := State.changedZone_other (x := x.releasedTo cs) other
      exact ⟨serial, undispatched, refresh, State.stageChanged_dispatch_other _ _ _ _ _ other⟩

end Sys2Proof.Machine

end

section
/-! Proofs of the statements on the Dispatch Queue (chapter 8): where the content of an alert takes its place, and what an
ACK and the running out of a repeat countdown make of a record. -/

namespace Sys2Proof.Machine

/-! ## Placing an entry (R122, R124, R125) -/

theorem insertEntry_split (e : Entry) (q : List Entry) : ∃ before after, q = before ++ after ∧
    insertEntry e q = before ++ e :: after ∧ (∀ d ∈ before, e.stage.num ≤ d.stage.num) ∧
    ∀ d ∈ after.head?, d.stage.num < e.stage.num := by
  refine ⟨_, _, List.takeWhile_append_dropWhile.symm, rfl, fun d member => ?_, fun d head => ?_⟩
  · simpa using List.mem_takeWhile_imp member
  · have stops := List.head?_dropWhile_not (fun x : Entry => decide (e.stage.num ≤ x.stage.num)) q
    rw [Option.mem_def.mp head] at stops
    simpa using stops

theorem State.alertRaised_of_loaded {z : Nat} {x : Zone} {s : State} (loaded : s.zone z = some x) :
    s.alertRaised z = { s with dispatch := { s.dispatch with
      queue := insertEntry (s.entryFor z x false) (withoutZone z s.dispatch.queue) } } := by
  unfold State.alertRaised
  rw [loaded]

theorem entryOf_eq_none {z : Nat} {q : List Entry} (none : ∀ e ∈ q, e.zone ≠ z) : entryOf z q = .none :=
  List.find?_eq_none.mpr fun e member => by simpa using none e member

theorem State.refreshDue_present {z : Nat} {s : State} (present : ∃ e ∈ s.dispatch.queue, e.zone = z) :
    s.refreshDue z = s := by
  unfold State.refreshDue
  split
  next absent _ =>
    obtain ⟨e, member, zone⟩ := present
    exact absurd zone (entryOf_none absent e member)
  · rfl

theorem State.refreshDue_absent {z : Nat} {x : Zone} {s : State} (loaded : s.zone z = some x)
    (absent : ∀ e ∈ s.dispatch.queue, e.zone ≠ z) :
    s.refreshDue z = { s with dispatch := { s.dispatch with queue := insertEntry (s.entryFor z x true) s.dispatch.queue } } := by
  unfold State.refreshDue
  rw [entryOf_eq_none absent, loaded]

/-- Settles O32: the content is the zone as it stands, placed behind every entry of its stage or higher. -/
theorem alertsAndRefreshesSetContent : Obligations.AlertsAndRefreshesSetContent := by
  unfold Obligations.AlertsAndRefreshesSetContent
  intro z x s loaded content
  refine ⟨?alert, State.refreshDue_present, fun absent => ?refresh⟩
  case alert =>
    obtain ⟨before, after, split, placed, ahead, behind⟩ :=
      insertEntry_split (s.entryFor z x false) (withoutZone z s.dispatch.queue)
    refine ⟨before, after, split, ?_, ahead, behind⟩
    rw [State.alertRaised_of_loaded loaded, placed]
    rfl
  case refresh =>
    obtain ⟨before, after, split, placed, ahead, behind⟩ := insertEntry_split (s.entryFor z x true) s.dispatch.queue
    refine ⟨before, after, split, ?_, ahead, behind⟩
    rw [State.refreshDue_absent loaded absent, placed]
    rfl

/-! ## One record of one entry (R127, R128) -/

/-- Where keys are distinct, a search by key finds the member it names. -/
theorem find?_at {α κ : Type} [DecidableEq κ] {key : α → κ} {before after : List α} {a : α}
    (distinct : ((before ++ a :: after).map key).Nodup) :
    (before ++ a :: after).find? (fun x => decide (key x = key a)) = some a := by
  rw [List.map_append, List.map_cons, List.nodup_middle, List.nodup_cons, List.mem_append] at distinct
  refine List.find?_eq_some_iff_append.mpr ⟨decide_eq_true rfl, before, after, rfl, fun x member => ?_⟩
  have apart : key x ≠ key a := fun same => distinct.1 (.inl (same ▸ List.mem_map_of_mem member))
  simpa using apart

/-- The rewriting of the records of one entry, which retires if none of them is PENDING. -/
theorem State.updEntry_at {z : Nat} {f : List SirenRecord → List SirenRecord} {s : State} {before after : List Entry}
    {e : Entry} (queue : s.dispatch.queue = before ++ e :: after) (zone : e.zone = z)
    (zones : (s.dispatch.queue.map Entry.zone).Nodup) :
    s.updEntry z f = { s with dispatch := { s.dispatch with
      queue := if ({ e with records := f e.records } : Entry).active then
        before ++ { e with records := f e.records } :: after else before ++ after } } := by
  subst zone
  rw [queue] at zones
  have written := map_at (key := Entry.zone) (fun x => { x with records := f x.records }) zones
  rw [List.map_append, List.map_cons, List.nodup_middle, List.nodup_cons, List.mem_append] at zones
  have others : ∀ l : List Entry, (∀ x ∈ l, x.zone ≠ e.zone) →
      l.filter (fun x => decide (x.zone ≠ e.zone) || x.active) = l := fun l apart =>
    List.filter_eq_self.mpr fun x member => by simp [apart x member]
  have front := others before fun x member same => zones.1 (.inl (same ▸ List.mem_map_of_mem member))
  have back := others after fun x member same => zones.1 (.inr (same ▸ List.mem_map_of_mem member))
  unfold State.updEntry
  rw [queue, written, List.filter_append, front, List.filter_cons, back]
  simp only [ne_eq, not_true_eq_false, decide_false, Bool.false_or]
  split <;> rfl

theorem updRecord_at {a : Byte} {f : SirenRecord → SirenRecord} {waiting rest : List SirenRecord} {r : SirenRecord}
    (addr : r.addr = a) (addrs : ((waiting ++ r :: rest).map SirenRecord.addr).Nodup) :
    updRecord a f (waiting ++ r :: rest) = waiting ++ f r :: rest := by
  subst addr
  exact map_at f addrs

theorem Entry.active_iff {e : Entry} : e.active = true ↔ ∃ r ∈ e.records, r.state = .pending := by
  simp [Entry.active]

/-- An entry whose one changed record is not PENDING is active by the others. -/
theorem active_middle {e : Entry} {waiting rest : List SirenRecord} {r : SirenRecord}
    (records : e.records = waiting ++ r :: rest) (settled : r.state ≠ .pending) :
    e.active = true ↔ ∃ q ∈ waiting ++ rest, q.state = .pending := by
  rw [Entry.active_iff, records]
  constructor
  · rintro ⟨q, member, pending⟩
    rcases List.mem_append.mp member with first | later
    · exact ⟨q, List.mem_append_left _ first, pending⟩
    · rcases List.mem_cons.mp later with rfl | beyond
      · exact absurd pending settled
      · exact ⟨q, List.mem_append_right _ beyond, pending⟩
  · rintro ⟨q, member, pending⟩
    refine ⟨q, ?_, pending⟩
    rcases List.mem_append.mp member with first | later
    · exact List.mem_append_left _ first
    · exact List.mem_append_right _ (List.mem_cons_of_mem r later)

section
variable {z : Nat} {a : Byte} {f : SirenRecord → SirenRecord} {s : State} {before after : List Entry} {e : Entry}
  {waiting rest : List SirenRecord} {r : SirenRecord}
  (queue : s.dispatch.queue = before ++ e :: after) (zone : e.zone = z)
  (zones : (s.dispatch.queue.map Entry.zone).Nodup) (records : e.records = waiting ++ r :: rest) (addr : r.addr = a)
  (addrs : (e.records.map SirenRecord.addr).Nodup)
include queue zone zones records addr addrs

theorem State.updEntry_record_kept
    (active : (f r).state = .pending ∨ ∃ q ∈ waiting ++ rest, q.state = .pending) :
    s.updEntry z (updRecord a f) = { s with dispatch := { s.dispatch with
      queue := before ++ { e with records := waiting ++ f r :: rest } :: after } } := by
  have changed : updRecord a f e.records = waiting ++ f r :: rest := by
    rw [records] at addrs ⊢
    exact updRecord_at addr addrs
  have stays : ({ e with records := waiting ++ f r :: rest } : Entry).active = true := by
    by_cases pending : (f r).state = .pending
    · exact Entry.active_iff.mpr ⟨f r, List.mem_append_right waiting List.mem_cons_self, pending⟩
    · exact (active_middle rfl pending).mpr (active.resolve_left pending)
  rw [State.updEntry_at queue zone zones, changed, if_pos stays]

theorem State.updEntry_record_retires (settled : (f r).state ≠ .pending)
    (others : ∀ q ∈ waiting ++ rest, q.state ≠ .pending) :
    s.updEntry z (updRecord a f) = { s with dispatch := { s.dispatch with queue := before ++ after } } := by
  have changed : updRecord a f e.records = waiting ++ f r :: rest := by
    rw [records] at addrs ⊢
    exact updRecord_at addr addrs
  have leaves : ¬ ({ e with records := waiting ++ f r :: rest } : Entry).active = true := by
    rw [active_middle rfl settled]
    rintro ⟨q, member, pending⟩
    exact others q member pending
  rw [State.updEntry_at queue zone zones, changed, if_neg leaves]

end

theorem entryOf_at {z : Nat} {before after : List Entry} {e : Entry} (zone : e.zone = z)
    (zones : ((before ++ e :: after).map Entry.zone).Nodup) : entryOf z (before ++ e :: after) = some e := by
  subst zone
  exact find?_at zones

theorem find_record_at {a : Byte} {waiting rest : List SirenRecord} {r : SirenRecord} (addr : r.addr = a)
    (addrs : ((waiting ++ r :: rest).map SirenRecord.addr).Nodup) :
    (waiting ++ r :: rest).find? (fun q => decide (q.addr = a)) = some r := by
  subst addr
  exact find?_at addrs

/-! ## ACKs (R127) -/

section
variable {src z serial stage : Byte} {s : State} {e : Entry}

theorem State.takeAck_length {p : List Byte} (length : p.length ≠ 3) : s.takeAck src p = s.countMismatchedAck := by
  unfold State.takeAck
  split
  · exact absurd rfl length
  · rfl

theorem State.takeAck_vacant (absent : entryOf z.toNat s.dispatch.queue = none) :
    s.takeAck src [z, serial, stage] = s.countStaleAck := by
  unfold State.takeAck
  dsimp only
  rw [absent]

theorem State.takeAck_stale (present : entryOf z.toNat s.dispatch.queue = some e) (other : e.serial ≠ serial) :
    s.takeAck src [z, serial, stage] = s.countStaleAck := by
  unfold State.takeAck
  dsimp only
  rw [present]
  exact if_pos other

theorem State.takeAck_noRecord (present : entryOf z.toNat s.dispatch.queue = some e) (same : e.serial = serial)
    (none : e.records.find? (fun r => decide (r.addr = src)) = .none) :
    s.takeAck src [z, serial, stage] = s.countMismatchedAck := by
  unfold State.takeAck
  dsimp only
  rw [present]
  dsimp only
  rw [if_neg (not_not.mpr same), none]

theorem State.takeAck_record {r : SirenRecord} (present : entryOf z.toNat s.dispatch.queue = some e)
    (same : e.serial = serial) (found : e.records.find? (fun r => decide (r.addr = src)) = some r) :
    s.takeAck src [z, serial, stage] =
      if stage.toNat ≠ e.stage.num then s.countMismatchedAck
      else if r.state = .delivered then s
      else s.updEntry z.toNat (updRecord src SirenRecord.deliver) := by
  unfold State.takeAck
  dsimp only
  rw [present]
  dsimp only
  rw [if_neg (not_not.mpr same), found]

end

/-! ## Repeat countdowns (R126) -/

section
variable {z : Nat} {a : Byte} {s : State}

theorem State.takeRepeat_still
    (still : ∀ e ∈ s.dispatch.queue, e.zone = z → ∀ r ∈ e.records, r.addr = a → r.cd ≠ some 0) : s.takeRepeat z a = s := by
  have none : s.ranOut z a = .none := by
    unfold State.ranOut
    cases present : entryOf z s.dispatch.queue with
    | none => rfl
    | some e =>
      obtain ⟨member, zone⟩ := entryOf_some present
      rw [Option.bind_some]
      cases found : e.records.find? (fun r => decide (r.addr = a)) with
      | none => rfl
      | some r =>
        have addr : r.addr = a := by simpa using List.find?_some found
        have running : r.cd ≠ some 0 := still e member zone r (List.mem_of_find?_eq_some found) addr
        rw [Option.bind_some, if_neg running]
  unfold State.takeRepeat
  rw [none]

theorem State.takeRepeat_out {e : Entry} {r : SirenRecord} (out : s.ranOut z a = some (e, r)) :
    s.takeRepeat z a =
      if r.tries < s.triesLimit z then s.updEntry z (updRecord a (SirenRecord.judge (s.triesLimit z)))
      else (s.updEntry z (updRecord a (SirenRecord.judge (s.triesLimit z)))).raise (e.unreachedDetail r) := by
  unfold State.takeRepeat
  rw [out]

end

/-- Settles O33: an ACK by the first line that fits it, and a repeat countdown by the tries its record has. -/
theorem acksAndRepeatsMoveRecords : Obligations.AcksAndRepeatsMoveRecords := by
  unfold Obligations.AcksAndRepeatsMoveRecords
  refine ⟨fun src s => ⟨fun p => State.takeAck_length, fun z serial stage => ⟨?vacant, ?entry⟩⟩,
    fun z a s => ⟨?out, fun still => exec_of_runOut (r := .again z a) (State.takeRepeat_still still)⟩⟩
  case vacant => exact fun absent => State.takeAck_vacant (entryOf_eq_none absent)
  case entry =>
    intro before e after queue zone zones
    have present : entryOf z.toNat s.dispatch.queue = some e := by
      rw [queue] at zones ⊢
      exact entryOf_at zone zones
    refine ⟨State.takeAck_stale present, fun same none => ?_, fun same recorded mismatch => ?_, ?_⟩
    · exact State.takeAck_noRecord present same (List.find?_eq_none.mpr fun r member => by simpa using none r member)
    · obtain ⟨r, found⟩ : ∃ r, e.records.find? (fun r => decide (r.addr = src)) = some r := by
        obtain ⟨r, member, addr⟩ := recorded
        exact Option.isSome_iff_exists.mp (List.find?_isSome.mpr ⟨r, member, decide_eq_true addr⟩)
      rw [State.takeAck_record present same found, if_pos mismatch]
      rfl
    · intro waiting r rest same stages records addr addrs
      have found : e.records.find? (fun r => decide (r.addr = src)) = some r := by
        rw [records] at addrs ⊢
        exact find_record_at addr addrs
      have taken := State.takeAck_record (stage := stage) present same found
      rw [if_neg (not_not.mpr stages)] at taken
      refine ⟨fun delivered => ?_, fun undelivered others => ?_, fun undelivered others => ?_⟩
      · rw [taken, if_pos delivered]
      · rw [taken, if_neg undelivered]
        exact State.updEntry_record_kept queue zone zones records addr addrs (.inr others)
      · rw [taken, if_neg undelivered]
        exact State.updEntry_record_retires queue zone zones records addr addrs (fun h => nomatch h) others
  case out =>
    intro before e after waiting r rest x queue zone zones records addr addrs pending out loaded left retired
    have present : entryOf z s.dispatch.queue = some e := by
      rw [queue] at zones ⊢
      exact entryOf_at zone zones
    have found : e.records.find? (fun r => decide (r.addr = a)) = some r := by
      rw [records] at addrs ⊢
      exact find_record_at addr addrs
    have ran : s.ranOut z a = some (e, r) := by
      unfold State.ranOut
      rw [present, Option.bind_some, found, Option.bind_some, if_pos out]
    have limit : s.triesLimit z = x.cfg.tries := by
      unfold State.triesLimit
      rw [loaded]
      rfl
    have taken := State.takeRepeat_out ran
    rw [limit] at taken
    have detail : e.unreachedDetail r = .delivery z e.serial e.stage a r.tries := by
      unfold Entry.unreachedDetail
      rw [zone, addr]
    refine ⟨fun below => ?_, fun reached others => ?_, fun reached others => ?_⟩
    · have again : r.judge x.cfg.tries = { r with cd := none } := if_pos below
      refine exec_of_runOut (r := .again z a) (taken.trans ?_)
      rw [if_pos below,
        State.updEntry_record_kept queue zone zones records addr addrs (.inl (by rw [again]; exact pending)), again]
    · have unreached : r.judge x.cfg.tries = { r with state := .unreached, cd := none } := if_neg (by omega)
      refine exec_of_runOut (r := .again z a) (taken.trans ?_)
      rw [if_neg (by omega), State.updEntry_record_kept queue zone zones records addr addrs (.inr others), unreached, detail]
    · have unreached : r.judge x.cfg.tries = { r with state := .unreached, cd := none } := if_neg (by omega)
      refine exec_of_runOut (r := .again z a) (taken.trans ?_)
      rw [if_neg (by omega), State.updEntry_record_retires queue zone zones records addr addrs
        (by rw [unreached]; exact fun h => nomatch h) others, detail]

end Sys2Proof.Machine

end

section
/-! Proofs of the statements on the contact outputs (chapter 8), and on notices, status and saves (chapters 10, 11). -/

namespace Sys2Proof.Machine

/-! ## Conditions and cadences (R134, R135) -/

theorem State.anySector_iff {p : Sector → Bool} {s : State} :
    s.anySector p = true ↔ ∃ i x, s.sector i = some x ∧ p x = true := by
  unfold State.anySector
  rw [List.any_eq_true]
  constructor
  · rintro ⟨i, _, holds⟩
    cases loaded : s.sector i with
    | none =>
      rw [loaded] at holds
      cases holds
    | some x =>
      rw [loaded] at holds
      exact ⟨i, x, loaded, holds⟩
  · rintro ⟨i, x, loaded, holds⟩
    refine ⟨i, List.mem_range.mpr (lt_of_entryAt loaded), ?_⟩
    rw [loaded]
    exact holds

theorem sourceStage_zone {s : State} {c : OutputConfig} (code : c.code = 2) :
    sourceStage s c = (s.zone c.argIndex).map Zone.stage := if_pos code

theorem sourceStage_sector {s : State} {c : OutputConfig} (code : c.code = 3) :
    sourceStage s c = (s.sector c.argIndex).map Sector.stage := by
  unfold sourceStage
  rw [if_neg (by omega), if_pos code]

theorem sourceStage_none {s : State} {c : OutputConfig} (zone : c.code ≠ 2) (sector : c.code ≠ 3) :
    sourceStage s c = none := by
  unfold sourceStage
  rw [if_neg zone, if_neg sector]

/-- The condition of a source's stage: the source is loaded and stands at the stage or above. -/
theorem stageReached_iff {α : Type} {stage : α → Stage} {x : Option α} {st : Stage} :
    (((x.map stage).map (fun u => decide (st.num ≤ u.num))).getD false) = true ↔ ∃ y, x = some y ∧ st.num ≤ (stage y).num := by
  cases x <;> simp

theorem conditionOf_zone {s : State} {c : OutputConfig} (code : c.code = 2) :
    conditionOf s c = true ↔ ∃ x, s.zone c.argIndex = some x ∧ c.argStage.num ≤ x.stage.num := by
  unfold conditionOf
  simp only [code, sourceStage_zone code]
  exact stageReached_iff

theorem conditionOf_sector {s : State} {c : OutputConfig} (code : c.code = 3) :
    conditionOf s c = true ↔ ∃ x, s.sector c.argIndex = some x ∧ c.argStage.num ≤ x.stage.num := by
  unfold conditionOf
  simp only [code, sourceStage_sector code]
  exact stageReached_iff

theorem cadenceFor_zone {s : State} {c : OutputConfig} (code : c.code = 2) {x : Zone}
    (loaded : s.zone c.argIndex = some x) : cadenceFor s c = x.stage.num := by
  unfold cadenceFor
  rw [sourceStage_zone code, loaded]
  rfl

theorem cadenceFor_sector {s : State} {c : OutputConfig} (code : c.code = 3) {x : Sector}
    (loaded : s.sector c.argIndex = some x) : cadenceFor s c = x.stage.num := by
  unfold cadenceFor
  rw [sourceStage_sector code, loaded]
  rfl

theorem cadenceFor_other {s : State} {c : OutputConfig} (zone : c.code ≠ 2) (sector : c.code ≠ 3) :
    cadenceFor s c = 1 := by
  unfold cadenceFor
  rw [sourceStage_none zone sector]
  rfl

/-- A condition of a source that holds has its source. -/
theorem sourceStage_isSome {s : State} {c : OutputConfig} (code : c.code = 2 ∨ c.code = 3) (holds : conditionOf s c = true) :
    (sourceStage s c).isNone = false := by
  rcases code with zone | sector
  · obtain ⟨x, loaded, _⟩ := (conditionOf_zone zone).mp holds
    rw [sourceStage_zone zone, loaded]
    rfl
  · obtain ⟨x, loaded, _⟩ := (conditionOf_sector sector).mp holds
    rw [sourceStage_sector sector, loaded]
    rfl

/-! ## The re-evaluation of an output (R134) -/

section
variable {s : State} {o : Output}

theorem Output.evaluate_true (holds : conditionOf s o.cfg = true) : o.evaluate s =
    if o.condition && ((sourceStage s o.cfg).isNone || decide (o.inUse = some (cadenceFor s o.cfg))) then o
    else o.start (cadenceFor s o.cfg) := if_pos holds

theorem Output.evaluate_starts (holds : conditionOf s o.cfg = true) (was : o.condition = false) :
    o.evaluate s = o.start (cadenceFor s o.cfg) := by
  rw [Output.evaluate_true holds, was]
  rfl

theorem Output.evaluate_stops (fails : conditionOf s o.cfg = false) (was : o.condition = true) : o.evaluate s = o.stop := by
  unfold Output.evaluate
  rw [if_neg (by simp [fails]), if_pos was]

theorem Output.evaluate_rest (fails : conditionOf s o.cfg = false) (was : o.condition = false) : o.evaluate s = o := by
  unfold Output.evaluate
  rw [if_neg (by simp [fails]), if_neg (by simp [was])]

theorem Output.evaluate_runs (holds : conditionOf s o.cfg = true) (was : o.condition = true)
    (same : (o.cfg.code ≠ 2 ∧ o.cfg.code ≠ 3) ∨ o.inUse = some (cadenceFor s o.cfg)) : o.evaluate s = o := by
  rw [Output.evaluate_true holds, was, Bool.true_and]
  refine if_pos ?_
  rcases same with ⟨zone, sector⟩ | same
  · rw [sourceStage_none zone sector]
    rfl
  · rw [decide_eq_true same, Bool.or_true]

theorem Output.evaluate_restarts (holds : conditionOf s o.cfg = true) (was : o.condition = true)
    (code : o.cfg.code = 2 ∨ o.cfg.code = 3) (other : o.inUse ≠ some (cadenceFor s o.cfg)) :
    o.evaluate s = o.start (cadenceFor s o.cfg) := by
  rw [Output.evaluate_true holds, was, sourceStage_isSome code holds, decide_eq_false other]
  rfl

end

/-! ## The two moments of a running cycle (R135) -/

section
variable {o : Output} {n p : Nat} (inUse : o.inUse = some n) (phase : o.phase = some p)
include inUse phase

theorem Output.cadence_of_inUse : o.cadence = some (o.working.get n) ∧ o.phase = some p := by
  unfold Output.cadence
  rw [inUse]
  exact ⟨rfl, phase⟩

theorem Output.reachOnTime_eq : o.reachOnTime =
    if (o.working.get n).onTime ≤ p ∧ p < (o.working.get n).cycle then { o with closed := false } else o := by
  obtain ⟨cadence, _⟩ := Output.cadence_of_inUse inUse phase
  unfold Output.reachOnTime
  rw [cadence, phase]

theorem Output.boundary_eq : o.boundary =
    if (o.working.get n).cycle ≤ p then { o with working := o.cfg.written, phase := some 0, closed := true } else o := by
  obtain ⟨cadence, _⟩ := Output.cadence_of_inUse inUse phase
  unfold Output.boundary
  rw [cadence, phase]

end

theorem Output.moments_stopped {o : Output} (stopped : o.inUse = none ∨ o.phase = none) :
    o.reachOnTime = o ∧ o.boundary = o := by
  unfold Output.reachOnTime Output.boundary Output.cadence
  rcases stopped with inUse | phase
  · rw [inUse]
    exact ⟨rfl, rfl⟩
  · rw [phase]
    cases o.inUse <;> exact ⟨rfl, rfl⟩

theorem State.setOutput_self {k : Nat} {o : Output} {s : State} (low : 1 ≤ k) (high : k ≤ 6) (found : s.output k = some o) :
    s.setOutput k o = s := by
  unfold State.output at found
  rw [if_neg (by omega)] at found
  refine congrArg (fun v => { s with outputs := v }) (Vector.ext fun j small => ?_)
  rw [Vector.getElem_setIfInBounds]
  split
  next here =>
    subst here
    rw [Vector.getElem?_eq_getElem small] at found
    exact (Option.some.inj found).symm
  · rfl

theorem State.updOutput_of_found {k : Nat} {f : Output → Output} {o : Output} {s : State} (found : s.output k = some o) :
    s.updOutput k f = s.setOutput k (f o) := by
  unfold State.updOutput
  rw [found]

theorem State.output_exists {k : Nat} (s : State) (low : 1 ≤ k) (high : k ≤ 6) : ∃ o, s.output k = some o := by
  unfold State.output
  rw [if_neg (by omega), Vector.getElem?_eq_getElem (show k - 1 < 6 by omega)]
  exact ⟨_, rfl⟩

/-- Settles O34: the conditions code by code, the branches of a re-evaluation, and the two moments of a cycle. -/
theorem outputsFollowConditionsAndCadences : Obligations.OutputsFollowConditionsAndCadences := by
  unfold Obligations.OutputsFollowConditionsAndCadences
  refine ⟨fun s c => ⟨?zero, ?one, conditionOf_zone, conditionOf_sector, ?blind, ?latched, ?delivery, ?fault, ?watching,
    fun code x => cadenceFor_zone code, fun code x => cadenceFor_sector code, cadenceFor_other, rfl, sourceStage_zone,
    sourceStage_sector, sourceStage_none⟩, fun s o => ⟨Output.evaluate_starts, Output.evaluate_stops, Output.evaluate_rest,
    Output.evaluate_runs, Output.evaluate_restarts⟩, fun k s low high => ?moments⟩
  case zero => intro code; simp only [conditionOf, code]
  case one => intro code; simp only [conditionOf, code]
  case blind =>
    intro code
    simp only [conditionOf, code]
    exact State.anySector_iff
  case latched =>
    intro code
    simp only [conditionOf, code, State.anySector_iff, Sector.latched, Option.isSome_iff_ne_none]
  case delivery =>
    intro code
    simp only [conditionOf, code]
    exact Option.isSome_iff_ne_none
  case fault =>
    intro code
    simp only [conditionOf, code]
    exact Option.isSome_iff_ne_none
  case watching =>
    intro code
    simp only [conditionOf, code]
    exact decide_eq_true_iff
  case moments =>
    obtain ⟨o, found⟩ := s.output_exists low high
    have onTime {t : Output} (h : o.reachOnTime = t) :
        exec (.cadenceOnTimeReached k) s = .next (State.finish s (s.setOutput k t)) :=
      exec_of_runOut (r := .onTime k) ((State.updOutput_of_found found).trans (by rw [h]))
    have cycle {t : Output} (h : o.boundary = t) :
        exec (.cycleBoundary k) s = .next (State.finish s (s.setOutput k t)) :=
      exec_of_runOut (r := .cycle k) ((State.updOutput_of_found found).trans (by rw [h]))
    have self : s.setOutput k o = s := State.setOutput_self low high found
    refine ⟨o, found, fun n p inUse phase => ⟨fun reached within => ?_, fun reached => ?_, fun outside => ?_, fun before => ?_⟩,
      fun stopped => ?_⟩
    · exact onTime ((Output.reachOnTime_eq inUse phase).trans (if_pos ⟨reached, within⟩))
    · exact cycle ((Output.boundary_eq inUse phase).trans (if_pos reached))
    · have still := onTime ((Output.reachOnTime_eq inUse phase).trans (if_neg (by omega)))
      rwa [self] at still
    · have still := cycle ((Output.boundary_eq inUse phase).trans (if_neg (by omega)))
      rwa [self] at still
    · obtain ⟨noOnTime, noBoundary⟩ := Output.moments_stopped stopped
      have still := And.intro (onTime noOnTime) (cycle noBoundary)
      rwa [self] at still

end Sys2Proof.Machine

end

section
/-! Proof of the statement on notices, status and saves (chapters 10 and 11). -/

namespace Sys2Proof.Machine

/-! ## A raising (R186) -/

section
variable {d : Detail} {console : List Byte} {u : NoticeUnit}

theorem NoticeUnit.raise_again (flag : (u.get d.cls).detail ≠ none) :
    u.raise d console = u.set d.cls { u.get d.cls with count := satInc (u.get d.cls).count } := by
  obtain ⟨held, detail⟩ := Option.ne_none_iff_exists'.mp flag
  unfold NoticeUnit.raise
  dsimp only
  rw [detail]

theorem NoticeUnit.raise_first (clear : (u.get d.cls).detail = none) : u.raise d console =
    if (u.get d.cls).enable then (u.set d.cls { u.get d.cls with detail := some d }).enqueueNotices d.cls console
    else u.set d.cls { u.get d.cls with detail := some d } := by
  unfold NoticeUnit.raise
  dsimp only
  rw [clear]

end

/-! ## The outgoing list (R187) -/

section
variable {it : OutItem} {u : NoticeUnit}

theorem NoticeUnit.enqueue_waiting (waits : it ∈ u.out) : u.enqueue it = u := if_pos (.inl waits)

theorem NoticeUnit.enqueue_full (full : 28 ≤ u.out.length) : u.enqueue it = u := if_pos (.inr full)

theorem NoticeUnit.enqueue_joins (absent : it ∉ u.out) (place : u.out.length < 28) :
    u.enqueue it = { u with out := u.out ++ [it] } :=
  if_neg (not_or.mpr ⟨absent, by omega⟩)

end

/-! ## The status countdown (R190) and the completion of a save (R199) -/

theorem State.takeStatus_out {s : State} (out : s.notices.statusCd = some 0) : s.takeStatus =
    { s with notices := ({ s.notices with statusCd := loadStatus s.notices.period }).enqueueStatuses s.console } :=
  if_pos out

theorem State.takeStatus_still {s : State} (still : s.notices.statusCd ≠ some 0) : s.takeStatus = s := if_neg still

theorem State.completeSave_of_job {s : State} {j : SaveJob} (job : s.save = some j) : s.completeSave =
    { s with store := j.content, save := none,
             replies := s.replies ++ [{ dst := j.dst, payload := [0x52, j.tag, 0], effect := .nothing }] } := by
  unfold State.completeSave
  rw [job]
  rfl

theorem State.completeSave_none {s : State} (idle : s.save = none) : s.completeSave = s := by
  unfold State.completeSave
  rw [idle]

theorem exec_saveCompletion (s : State) :
    exec .saveCompletion s = .next (State.finish s.settle s.settle.completeSave) := rfl

/-- Settles O35: the branches of a raising, of the queueing of an item, of the status countdown and of a save's end. -/
theorem noticesStatusAndSavesComplete : Obligations.NoticesStatusAndSavesComplete := by
  unfold Obligations.NoticesStatusAndSavesComplete
  refine ⟨⟨fun d console u => ⟨NoticeUnit.raise_again, ?disabled, ?enabled⟩,
    fun it u => ⟨NoticeUnit.enqueue_waiting, NoticeUnit.enqueue_joins, fun _ => NoticeUnit.enqueue_full⟩,
    fun c d x u => ⟨u.get_set_same c x, fun other => u.get_set_other x other.symm, u.set_out c x, u.set_period c x,
      u.set_statusCd c x⟩⟩,
    fun s => ⟨fun out => exec_of_runOut (r := .status) (State.takeStatus_out out),
      fun still => exec_of_runOut (r := .status) (State.takeStatus_still still)⟩, fun s₀ => ?save⟩
  case disabled =>
    intro clear off
    rw [NoticeUnit.raise_first clear, off]
    rfl
  case enabled =>
    intro clear on
    rw [NoticeUnit.raise_first clear, on]
    rfl
  case save =>
    refine ⟨fun j job => ?_, fun idle => ?_⟩
    · rw [exec_saveCompletion, State.completeSave_of_job job]
    · rw [exec_saveCompletion, State.completeSave_none idle]

end Sys2Proof.Machine

end

section
/-! Proof of the statement on start-up without a valid image (R198, R200, R202). -/

namespace Sys2Proof.Machine

/-! ## The start of the empty tables -/

theorem mapTable_replicate {α β : Type} {n : Nat} (f : α → β) (x : α) :
    mapTable f (Vector.replicate n x) = Vector.replicate n (f x) := by
  apply Vector.toList_inj.mp
  simp [mapTable]

/-- The FAULT class after a start-up from an empty or invalid store (R185, R192, R200 steps 6 and 7). -/
def ClassState.storeFault (power : Bool) : ClassState :=
  { enable := true, detail := some (if power then .clockUnset else .storeFault), count := if power then 1 else 0 }

/-- The state a start-up from an empty or invalid store leaves (R200). -/
def State.blankStart (power : Bool) (v : State) : State :=
  { State.reset with
    straps := v.straps, rate := v.straps.rate, node := nodeOf v.straps
    crestA := CrestPort.fresh v.crestA.port.line
    crestB := CrestPort.fresh v.crestB.port.line
    valley := ValleyPort.fresh v.valley.port.line
    time := v.time
    notices := { State.reset.notices with fault := ClassState.storeFault power }
    store := if v.save = none then v.store else .void
    cause := { v.cause with storeFault := true }
    pending := v.pending }

theorem startPorts_store (v : State) : v.startPorts.store = if v.save = none then v.store else .void := by
  unfold State.startPorts
  cases v.save <;> rfl

/-- A start-up without a valid image finds none at step 5. -/
theorem NoValidImage.judged {v : State} (h : NoValidImage v) (m : Image) :
    judgeStore v.startPorts.node v.startPorts.store ≠ .valid m := by
  rw [startPorts_store]
  rcases h with saving | void | empty | ⟨n, image, own⟩
  · rw [if_neg saving]
    exact nofun
  · rw [void, ite_self]
    exact nofun
  · rw [empty]
    split <;> exact nofun
  · rw [image]
    split
    · show (if nodeOf v.straps ∈ n.addresses then StoreCondition.invalid else .valid n) ≠ _
      rw [if_pos own]
      exact nofun
    · exact nofun

theorem NoValidImage.startTables {v : State} (h : NoValidImage v) (power : Bool) :
    v.startPorts.startTables power = (v.startPorts.startEmpty.raiseClock power).raise .storeFault := by
  unfold State.startTables
  split
  case h_1 m valid => exact absurd valid (h.judged m)
  case h_2 => rfl

/-- An output that no condition drives stays as it is. -/
theorem Output.evaluate_unset (s : State) :
    (Output.idle OutputConfig.unset).evaluate s = Output.idle OutputConfig.unset :=
  Output.evaluate_rest rfl rfl

/-- A start-up from an empty or invalid store (R198, R200). -/
theorem NoValidImage.startUp {v : State} (h : NoValidImage v) (power : Bool) : v.startUp power = v.blankStart power := by
  have outputs (s : State) : mapTable (Output.evaluate s) (Vector.replicate 6 (Output.idle OutputConfig.unset)) =
      Vector.replicate 6 (Output.idle OutputConfig.unset) := by
    rw [mapTable_replicate, Output.evaluate_unset]
  unfold State.startUp
  rw [h.startTables]
  unfold State.startLast
  generalize eq : (((v.startPorts.startEmpty.raiseClock power).raise .storeFault)) = t
  have unset : t.outputs = Vector.replicate 6 (Output.idle OutputConfig.unset) := by
    rw [← eq]
    cases power <;> rfl
  unfold State.evaluateAll
  simp only [unset, outputs]
  subst eq
  unfold State.blankStart
  rw [← startPorts_store]
  cases power <;> rfl

/-- The end of a start-up that leaves nothing to send changes nothing. -/
theorem State.finish_blankStart (power : Bool) (v : State) :
    State.finish (v.blankStart power) (v.blankStart power) = v.blankStart power := by
  rw [State.finish_self]
  rfl

theorem startStep_blankStart (power : Bool) (v : State) : startStep (v.blankStart power) = .next (v.blankStart power) := by
  unfold startStep
  rw [State.finish_blankStart]

/-! ## The three events that start the part up -/

theorem exec_powerOn (s : State) : exec .powerOn s = startStep (s.powerUp.startUp true) := rfl

theorem exec_lineReset_spent {s : State} (spent : s.valley.port.line = .spent) :
    exec .lineReset s = .next (State.finish s.settle s.settle) := by
  show execLineReset s = _
  unfold execLineReset
  rw [if_pos spent, eventStep_eq, id]

theorem exec_lineReset {s : State} (fresh : s.valley.port.line ≠ .spent) :
    exec .lineReset s = startStep s.lineReset := by
  show execLineReset s = _
  unfold execLineReset
  rw [if_neg fresh]

/-- The state at the completion of the reply of a RESET, before its effect (R17, R182). -/
def State.resetSent (s : State) : State :=
  { (s.updPort .valley fun q => { q.countSent with tx := none }) with cause := { s.cause with fullCommand := true } }

theorem exec_transmitCompletion_reset {s : State} {f : Frame}
    (sending : s.valley.port.tx = some { frame := f, effect := .reset }) :
    exec (.transmitCompletion .valley) s = startStep (s.resetSent.startUp false) := by
  have sends : (s.port .valley).tx = some { frame := f, effect := .reset } := sending
  have completes : s.completesReset .valley = true := by
    unfold State.completesReset
    rw [sends]
    rfl
  rw [exec_transmitCompletion, execTransmitCompletion, if_neg (by rw [sends]; exact nofun), if_pos completes]
  unfold State.completeTransmit
  rw [sends]
  rfl

/-- Settles O36: the three start-ups from an empty or invalid store, each of which leaves nothing to send. -/
theorem startUpWithoutAnImage : Obligations.StartUpWithoutAnImage := by
  unfold Obligations.StartUpWithoutAnImage
  refine ⟨fun line => ⟨rfl, rfl⟩, fun s => ⟨fun noImage => ?power, fun noImage fresh => ?line, exec_lineReset_spent,
    fun f noImage sending => ?reset⟩⟩
  case power =>
    have none : NoValidImage s.powerUp := noImage
    rw [exec_powerOn, none.startUp, startStep_blankStart]
    rfl
  case line =>
    have none : NoValidImage { s with cause := { s.cause with line := true } } := noImage
    have start : State.finish s.lineReset s.lineReset = s.lineReset := by
      unfold State.lineReset
      rw [none.startUp, State.finish_self]
      rfl
    rw [exec_lineReset fresh, startStep, start]
    unfold State.lineReset
    rw [none.startUp]
    rfl
  case reset =>
    have none : NoValidImage s.resetSent := noImage
    rw [exec_transmitCompletion_reset sending, none.startUp, startStep_blankStart]
    rfl

end Sys2Proof.Machine

end

section
/-! The first evaluation of zones loaded afresh (R120, R200): the stages, alerts and raisings it leaves, and what it does
not read. -/

namespace Sys2Proof.Machine

/-! ## The zones read neither the outputs nor the Valley port -/

/-- A state with other outputs and another Valley port. -/
def State.dress (os : Vector Output 6) (v : ValleyPort) (s : State) : State :=
  { s with outputs := os, valley := v }

section
variable (os : Vector Output 6) (v : ValleyPort)

theorem State.alertRaised_dress (z : Nat) (s : State) : (s.dress os v).alertRaised z = (s.alertRaised z).dress os v := by
  have zone : (s.dress os v).zone z = s.zone z := rfl
  unfold State.alertRaised
  rw [zone]
  cases s.zone z <;> rfl

theorem State.stageChanged_dress (z : Nat) (old : Stage) (b : Bool) (x : Zone) (s : State) :
    (s.dress os v).stageChanged z old b x = (s.stageChanged z old b x).dress os v := by
  have mode : (s.dress os v).mode = s.mode := rfl
  unfold State.stageChanged
  rw [mode]
  dsimp only
  split
  · exact State.alertRaised_dress os v z ((s.setZone z _).raise _)
  · rfl

theorem State.evaluateZone_dress (z : Nat) (s : State) :
    (s.dress os v).evaluateZone z = (s.evaluateZone z).dress os v := by
  have zone : (s.dress os v).zone z = s.zone z := rfl
  have sectors (l : List Nat) : contributing (s.dress os v) l = contributing s l := contributing_congr (fun _ => rfl) l
  unfold State.evaluateZone
  rw [zone]
  cases s.zone z with
  | none => rfl
  | some x =>
    dsimp only
    rw [sectors]
    split
    · exact State.stageChanged_dress os v z _ _ _ s
    · split <;> rfl

theorem State.evaluateZones_dress (l : List Nat) (s : State) :
    l.foldl (fun t z => t.evaluateZone z) (s.dress os v) = (l.foldl (fun t z => t.evaluateZone z) s).dress os v := by
  induction l generalizing s with
  | nil => rfl
  | cons z l ih => rw [List.foldl_cons, List.foldl_cons, State.evaluateZone_dress, ih]

end

/-! ## A zone loaded afresh, evaluated -/

/-- What the first evaluation leaves in a zone (R110, R111, R116, R117). -/
structure Zone.FirstEvaluated (watching : Bool) (x : Zone) : Prop where
  force : x.force = none
  hold : x.hold = none
  target : x.stage = x.target
  computed : x.target = x.computed
  quiet : x.stage = .quiet → x.serial = 0 ∧ x.refreshCd = none ∧ x.undispatched = 0
  dispatched : x.stage ≠ .quiet → watching = true → x.serial = 1 ∧ x.undispatched = 0 ∧
    x.refreshCd = if x.cfg.refresh = 0 then none else some x.cfg.refresh
  undispatched : x.stage ≠ .quiet → watching = false → x.serial = 0 ∧ x.undispatched = 1 ∧ x.refreshCd = none

theorem Zone.targetOver_fresh (c : ZoneConfig) (cs : List (Nat × Sector)) :
    (Zone.fresh c).targetOver cs = computedStage cs := Stage.max_quiet _

theorem Zone.evaluated_raises {cs : List (Nat × Sector)} {x : Zone} (watching : Bool)
    (above : x.stage.num < (x.targetOver cs).num) : x.evaluated cs watching = (x.raisedTo cs).numberChange watching :=
  if_pos above

theorem Zone.evaluated_stays {cs : List (Nat × Sector)} {x : Zone} (watching : Bool)
    (same : (x.targetOver cs).num = x.stage.num) : x.evaluated cs watching = x.keptAt cs none := by
  have notAbove : ¬ x.stage.num < (x.targetOver cs).num := by omega
  exact (if_neg notAbove).trans (if_pos same)

/-- A zone loaded afresh is raised unless its sectors are all QUIET. -/
theorem Zone.fresh_above {c : ZoneConfig} {cs : List (Nat × Sector)} (high : computedStage cs ≠ .quiet) :
    (Zone.fresh c).stage.num < ((Zone.fresh c).targetOver cs).num := by
  rw [Zone.targetOver_fresh]
  exact Nat.pos_of_ne_zero fun zero => high (Stage.num_inj zero)

theorem Zone.fresh_same {c : ZoneConfig} {cs : List (Nat × Sector)} (quiet : computedStage cs = .quiet) :
    ((Zone.fresh c).targetOver cs).num = (Zone.fresh c).stage.num := by
  rw [Zone.targetOver_fresh, quiet]
  rfl

theorem Zone.evaluated_fresh (c : ZoneConfig) (cs : List (Nat × Sector)) (watching : Bool) :
    ((Zone.fresh c).evaluated cs watching).FirstEvaluated watching := by
  have target : ((Zone.fresh c).look cs).target = computedStage cs := Zone.targetOver_fresh c cs
  by_cases quiet : computedStage cs = .quiet
  · rw [Zone.evaluated_stays watching (Zone.fresh_same quiet)]
    exact ⟨rfl, rfl, (target.trans quiet).symm, target, fun _ => ⟨rfl, rfl, rfl⟩, fun h => absurd rfl h, fun h => absurd rfl h⟩
  · have high : ((Zone.fresh c).look cs).target ≠ .quiet := fun h => quiet (target.symm.trans h)
    rw [Zone.evaluated_raises watching (Zone.fresh_above quiet)]
    cases watching with
    | true =>
      exact ⟨rfl, rfl, rfl, target, fun h => absurd h high, fun _ _ => ⟨rfl, rfl, if_congr (or_iff_right high) rfl rfl⟩,
        fun _ h => nomatch h⟩
    | false =>
      exact ⟨rfl, rfl, rfl, target, fun h => absurd h high, fun _ h => (nomatch h), fun _ _ => ⟨rfl, rfl, rfl⟩⟩

/-! ## The first evaluation of all of them -/

/-- The alerts the first evaluation of a zone leaves in the Dispatch Queue: its own in WATCHING, unless it is QUIET. -/
def State.firstAlerts (s : State) (z : Nat) (x : Option Zone) : List Entry :=
  match x with
  | none => []
  | some x => if s.mode = .watching ∧ x.stage ≠ .quiet then [s.entryFor z x false] else []

/-- The entries of a zone in the queue. -/
def entriesOf (z : Nat) (q : List Entry) : List Entry :=
  q.filter (fun e => decide (e.zone = z))

theorem entriesOf_withoutZone_same (z : Nat) (q : List Entry) : entriesOf z (withoutZone z q) = [] := by
  refine List.filter_eq_nil_iff.mpr fun e member => ?_
  simpa using (mem_withoutZone.mp member).2

theorem entriesOf_withoutZone_other {z j : Nat} (other : z ≠ j) (q : List Entry) :
    entriesOf j (withoutZone z q) = entriesOf j q := by
  unfold entriesOf withoutZone
  rw [List.filter_filter]
  refine List.filter_congr fun e _ => ?_
  have : e.zone = j → e.zone ≠ z := fun here there => other (there.symm.trans here)
  simpa using this

theorem entriesOf_insertEntry (e : Entry) (j : Nat) (q : List Entry) :
    (entriesOf j (insertEntry e q)).Perm (if e.zone = j then e :: entriesOf j q else entriesOf j q) := by
  refine ((insertEntry_perm e q).filter _).trans ?_
  rw [List.filter_cons]
  simp only [decide_eq_true_eq]
  exact List.Perm.refl _

theorem entriesOf_insertEntry_other {e : Entry} {j : Nat} (other : e.zone ≠ j) (q : List Entry) :
    entriesOf j (insertEntry e q) = entriesOf j q := by
  obtain ⟨before, after, rfl, inserted, _⟩ := insertEntry_split e q
  rw [inserted]
  simp [entriesOf, List.filter_append, other]

theorem entriesOf_insertEntry_new {e : Entry} {j : Nat} {q : List Entry} (zone : e.zone = j) (none : entriesOf j q = []) :
    entriesOf j (insertEntry e q) = [e] := by
  have perm := entriesOf_insertEntry e j q
  rw [if_pos zone, none] at perm
  exact List.perm_singleton.mp perm

end Sys2Proof.Machine

end

section
/-! The pass of first evaluations over the Zone Table (R120, R200 step 8), and the notice unit it leaves. -/

namespace Sys2Proof.Machine

/-! ## The pass, zone by zone -/

theorem State.entryFor_congr {s t : State} (sectors : t.sectors = s.sectors) (time : t.time = s.time) (z : Nat) (x : Zone)
    (refresh : Bool) : t.entryFor z x refresh = s.entryFor z x refresh := by
  have sector : t.sector = s.sector := by
    funext i
    unfold State.sector
    rw [sectors]
  unfold State.entryFor
  rw [sector, time]

/-- Every loaded zone stands as it is loaded, not yet evaluated. -/
def State.ZonesFresh (s : State) : Prop :=
  s.AllZones fun x => x = Zone.fresh x.cfg

/-- The pass of first evaluations once it has come to the place `n`. -/
structure State.FirstPass (s : State) (n : Nat) (t : State) : Prop where
  layer : OnlyZones s t
  ahead : ∀ j, n ≤ j → t.zone j = s.zone j
  alerts : ∀ z, entriesOf z t.dispatch.queue = s.firstAlerts z (t.zone z)
  raised : t.notices.stage.detail = none ↔ ∀ z x, t.zone z = some x → x.stage = .quiet

section
variable {s : State}

theorem State.firstAlerts_quiet {z : Nat} {x : Zone} (quiet : x.stage = .quiet) : s.firstAlerts z (some x) = [] :=
  if_neg fun h => h.2 quiet

theorem State.FirstPass.start (fresh : s.ZonesFresh) (queue : s.dispatch.queue = [])
    (clear : s.notices.stage.detail = none) : s.FirstPass 0 s where
  layer := OnlyZones.refl s
  ahead _ _ := rfl
  alerts z := by
    rw [queue]
    cases loaded : s.zone z with
    | none => rfl
    | some x => rw [State.firstAlerts_quiet (congrArg Zone.stage (fresh z x loaded))]; rfl
  raised := ⟨fun _ z x loaded => congrArg Zone.stage (fresh z x loaded), fun _ => clear⟩

/-- The queue a zone's first rise leaves: the alert of the zone in WATCHING, and nothing out of it. -/
theorem State.stageChanged_alerts {n : Nat} {x y : Zone} {t : State} (layer : OnlyZones s t) (loaded : t.zone n = some x)
    (none : entriesOf n t.dispatch.queue = []) (high : y.stage ≠ .quiet) (z : Nat) :
    entriesOf z (t.stageChanged n x.stage false y).dispatch.queue =
      if z = n then s.firstAlerts n (some (t.changedZone y)) else entriesOf z t.dispatch.queue := by
  have stage : (t.changedZone y).stage ≠ .quiet := by rwa [State.changedZone_stage]
  by_cases watching : t.mode = .watching
  · have written : (t.setZone n (some (t.changedZone y))).zone n = some (t.changedZone y) :=
      State.zone_setZone_same _ _ _ (lt_of_entryAt loaded)
    have mode : s.mode = .watching := layer.mode.symm.trans watching
    have entry : (t.setZone n (some (t.changedZone y))).entryFor n (t.changedZone y) false =
        s.entryFor n (t.changedZone y) false :=
      State.entryFor_congr (congrArg State.sectors layer) (congrArg State.time layer) _ _ _
    rw [State.stageChanged_dispatch_watching _ _ _ _ _ watching, State.alertRaised_of_loaded written]
    dsimp only
    rw [entry]
    by_cases here : z = n
    · subst here
      rw [if_pos rfl]
      refine Eq.trans (entriesOf_insertEntry_new (j := z) ?_ (entriesOf_withoutZone_same z _)) ?_
      · rfl
      exact (if_pos (And.intro mode stage)).symm
    · rw [if_neg here, entriesOf_insertEntry_other (Ne.symm here), entriesOf_withoutZone_other (Ne.symm here)]
      rfl
  · have mode : ¬ s.mode = .watching := fun h => watching (layer.mode.trans h)
    rw [State.stageChanged_dispatch_other _ _ _ _ _ watching]
    by_cases here : z = n
    · subst here
      rw [if_pos rfl, none]
      exact (if_neg fun h => mode h.1).symm
    · rw [if_neg here]

theorem ClassState.raised_detail (d : Detail) (c : ClassState) : (c.raised d).detail ≠ none := by
  unfold ClassState.raised
  split
  case h_1 held detail => simp [detail]
  case h_2 => simp

theorem State.stageChanged_stage (z : Nat) (old : Stage) (b : Bool) (x : Zone) (t : State) :
    ∃ d, (t.stageChanged z old b x).notices.stage = t.notices.stage.raised d := by
  rw [State.stageChanged_notices_eq]
  exact ⟨_, NoticeUnit.raise_get_same (.stage z old x.stage (t.changedZone x).serial x.causes x.peakSector b) _ _⟩

theorem State.FirstPass.ahead_next {n : Nat} {t : State} (h : s.FirstPass n t) (j : Nat) (later : n + 1 ≤ j) :
    (t.evaluateZone n).zone j = s.zone j := by
  rw [State.evaluateZone_other t (by omega), h.ahead j (by omega)]

section
variable {n : Nat} {t : State} {c : ZoneConfig} (h : s.FirstPass n t) (loaded : t.zone n = some (Zone.fresh c))
include h loaded

/-- The turn of a zone whose sectors are all QUIET. -/
theorem State.FirstPass.next_quiet (quiet : computedStage (contributing t c.sectors) = .quiet) :
    s.FirstPass (n + 1) (t.evaluateZone n) := by
  have stays : t.evaluateZone n = t.setZone n (some ((Zone.fresh c).keptAt (contributing t c.sectors) none)) :=
    State.evaluateZone_stays loaded (Zone.fresh_same quiet)
  have here : (t.evaluateZone n).zone n = some ((Zone.fresh c).keptAt (contributing t c.sectors) none) := by
    rw [stays, State.zone_setZone_same _ _ _ (lt_of_entryAt loaded)]
  have others (z : Nat) (other : n ≠ z) : (t.evaluateZone n).zone z = t.zone z := State.evaluateZone_other t other
  have queue : (t.evaluateZone n).dispatch = t.dispatch := by rw [stays]; rfl
  have notices : (t.evaluateZone n).notices = t.notices := by rw [stays]; rfl
  refine ⟨h.layer.trans (t.evaluateZone_layer n), h.ahead_next, fun z => ?_, ?_⟩
  · rw [queue, h.alerts]
    by_cases same : n = z
    · rw [← same, here, loaded, State.firstAlerts_quiet rfl, State.firstAlerts_quiet rfl]
    · rw [others z same]
  · rw [notices, h.raised]
    refine forall_congr' fun z => ?_
    by_cases same : n = z
    · rw [← same, here, loaded]
      exact ⟨fun _ y there => Option.some.inj there ▸ rfl, fun _ y there => Option.some.inj there ▸ rfl⟩
    · rw [others z same]

/-- The turn of a zone with a sector above QUIET. -/
theorem State.FirstPass.next_rises (rises : computedStage (contributing t c.sectors) ≠ .quiet) :
    s.FirstPass (n + 1) (t.evaluateZone n) := by
  have raises := State.evaluateZone_raises loaded (Zone.fresh_above rises)
  have high : ((Zone.fresh c).raisedTo (contributing t c.sectors)).stage ≠ .quiet :=
    fun low => rises ((Zone.targetOver_fresh c _).symm.trans low)
  have none : entriesOf n t.dispatch.queue = [] := by
    rw [h.alerts, loaded]
    exact State.firstAlerts_quiet rfl
  refine ⟨h.layer.trans (t.evaluateZone_layer n), h.ahead_next, fun z => ?_, ?_⟩
  · rw [raises]
    refine (State.stageChanged_alerts h.layer loaded none high z).trans ?_
    by_cases same : z = n
    · rw [if_pos same, same]
      exact congrArg _ (State.stageChanged_same loaded).symm
    · rw [if_neg same, h.alerts, State.stageChanged_other t same]
  · rw [raises]
    obtain ⟨d, stage⟩ := t.stageChanged_stage n (Zone.fresh c).stage false
      ((Zone.fresh c).raisedTo (contributing t c.sectors))
    have set : (t.stageChanged n (Zone.fresh c).stage false
        ((Zone.fresh c).raisedTo (contributing t c.sectors))).notices.stage.detail ≠ Option.none := by
      rw [stage]
      exact ClassState.raised_detail _ _
    refine ⟨fun clear => absurd clear set, fun all => absurd ?_ high⟩
    rw [← State.changedZone_stage t]
    exact all n _ (State.stageChanged_same loaded)

end

/-- One zone's turn in the pass. -/
theorem State.FirstPass.next (fresh : s.ZonesFresh) {n : Nat} {t : State} (h : s.FirstPass n t) :
    s.FirstPass (n + 1) (t.evaluateZone n) := by
  cases loaded : t.zone n with
  | none =>
    have layer := h.layer.trans (t.evaluateZone_layer n)
    have ahead := h.ahead_next
    rw [State.evaluateZone_vacant loaded] at layer ahead ⊢
    exact ⟨layer, ahead, h.alerts, h.raised⟩
  | some x =>
    have here : x = Zone.fresh x.cfg := fresh n x ((h.ahead n le_rfl).symm.trans loaded)
    rw [here] at loaded
    by_cases quiet : computedStage (contributing t x.cfg.sectors) = .quiet
    · exact h.next_quiet loaded quiet
    · exact h.next_rises loaded quiet

theorem State.FirstPass.all (fresh : s.ZonesFresh) (queue : s.dispatch.queue = []) (clear : s.notices.stage.detail = none) :
    s.FirstPass 12 (eachBelow 12 State.evaluateZone s) :=
  eachBelow_induct (P := s.FirstPass) (fun _ _ h => h.next fresh) (.start fresh queue clear) 12

end

/-! ## The notice unit (R111, R186) -/

/-- Only the class STAGE has taken raisings. -/
def StageRaised (u v : NoticeUnit) : Prop :=
  v = { u with stage := v.stage, out := v.out } ∧ v.stage.enable = u.stage.enable

theorem StageRaised.refl (u : NoticeUnit) : StageRaised u u := ⟨rfl, rfl⟩

theorem StageRaised.trans {u v w : NoticeUnit} (h : StageRaised u v) (k : StageRaised v w) : StageRaised u w := by
  refine ⟨?_, k.2.trans h.2⟩
  rw [k.1, h.1]

theorem ClassState.raised_enable (d : Detail) (c : ClassState) : (c.raised d).enable = c.enable := by
  unfold ClassState.raised
  split <;> rfl

theorem StageRaised.raise {d : Detail} (stage : d.cls = .stage) (l : List Byte) (u : NoticeUnit) :
    StageRaised u (u.raise d l) := by
  have only := u.raise_only d l
  rw [stage] at only
  unfold OnlyOut at only
  rw [only]
  exact ⟨rfl, ClassState.raised_enable d _⟩

theorem State.stageChanged_raised (z : Nat) (old : Stage) (b : Bool) (x : Zone) (s : State) :
    StageRaised s.notices (s.stageChanged z old b x).notices := by
  rw [State.stageChanged_notices_eq]
  exact StageRaised.raise rfl _ _

theorem State.evaluateZone_raised (z : Nat) (s : State) : StageRaised s.notices (s.evaluateZone z).notices := by
  unfold State.evaluateZone
  split
  · exact .refl _
  · dsimp only
    split
    · exact State.stageChanged_raised _ _ _ _ _
    · split <;> exact .refl _

theorem State.evaluateZones_raised (s : State) : StageRaised s.notices (eachBelow 12 State.evaluateZone s).notices :=
  eachBelow_keeps (P := fun t => StageRaised s.notices t.notices) (fun z _ t h => h.trans (t.evaluateZone_raised z))
    (.refl _)

theorem State.evaluateZones_acks (s : State) : SameAcks s (eachBelow 12 State.evaluateZone s) :=
  (ZoneSteps.pass (fun z t => t.evaluateZone_steps z) s).acks

end Sys2Proof.Machine

end

section
/-! Proof of the statement on start-up from a valid image (R19, R46, R65, R89, R120, R138, R192, R198, R200). -/

namespace Sys2Proof.Machine

/-! ## The start from an image, step by step (R200) -/

/-- Steps 3 to 7 of a start-up from an image: restored, and CLOCK UNSET raised at a power-on. -/
def State.imageStart (power : Bool) (m : Image) (v : State) : State :=
  (v.restored m).raiseClock power

/-- Step 8: every zone evaluated. -/
def State.imageEvaluated (power : Bool) (m : Image) (v : State) : State :=
  eachBelow 12 State.evaluateZone (v.imageStart power m)

/-- The state with the status countdown loaded, as step 9 finds the outputs (R192). -/
def State.loadStatusCd (s : State) : State :=
  { s with notices := { s.notices with statusCd := loadStatus s.notices.period } }

/-- Step 9: the status countdown and the outputs, the Valley receiver at a line level. -/
def State.lastStep (line : LineLevel) (t : State) : State :=
  { t.loadStatusCd.evaluateAll with valley := ValleyPort.fresh line }

/-- The state a start-up from an image leaves, its Valley receiver at a line level. -/
def State.imageStarted (power : Bool) (m : Image) (line : LineLevel) (v : State) : State :=
  (v.imageEvaluated power m).lastStep line

theorem ValidImage.startTables {m : Image} {v : State} (h : ValidImage m v) (power : Bool) :
    v.startPorts.startTables power = v.imageEvaluated power m := by
  obtain ⟨idle, image, others⟩ := h
  have valid : judgeStore v.startPorts.node v.startPorts.store = .valid m := by
    rw [startPorts_store, if_pos idle, image]
    exact if_neg others
  unfold State.startTables
  rw [valid]
  rfl

section
variable (power : Bool) (m : Image) (v : State)

theorem State.imageEvaluated_layer : OnlyZones (v.restored m) (v.imageEvaluated power m) :=
  (State.raiseClock_zones power _).trans (OnlyZones.pass (fun z t => t.evaluateZone_layer z) _)

theorem ValidImage.startUp {m : Image} {v : State} (h : ValidImage m v) (power : Bool) :
    v.startUp power = v.imageStarted power m v.valley.port.line := by
  have valley : (v.imageEvaluated power m).valley = ValleyPort.fresh v.valley.port.line :=
    congrArg State.valley (v.imageEvaluated_layer power m)
  unfold State.startUp
  rw [h.startTables]
  unfold State.imageStarted State.lastStep
  rw [← valley]
  generalize v.imageEvaluated power m = t
  rfl

/-! ## The zones (R120) -/

theorem State.imageStart_zone (z : Nat) : (v.imageStart power m).zone z = (entryAt m.zones z).map Zone.fresh := by
  have same : (v.imageStart power m).zone z = (v.restored m).zone z := by
    unfold State.imageStart State.raiseClock
    split <;> rfl
  rw [same, State.restored_zone]

theorem State.imageStart_fresh : (v.imageStart power m).ZonesFresh := by
  intro z x loaded
  rw [State.imageStart_zone] at loaded
  obtain ⟨c, _, rfl⟩ := Option.map_eq_some_iff.mp loaded
  rfl

theorem State.imageEvaluated_zone (z : Nat) : (v.imageEvaluated power m).zone z =
    (entryAt m.zones z).map (fun c => (v.imageStart power m).evaluated (Zone.fresh c)) := by
  unfold State.imageEvaluated
  rw [State.evaluateZones_zone, State.imageStart_zone, Option.map_map]
  rfl

theorem State.imageStart_mode : (v.imageStart power m).mode = if m.watching then .watching else .commissioning :=
  congrArg State.mode (State.raiseClock_zones power (v.restored m))

theorem State.imageStart_watching : decide ((v.imageStart power m).mode = .watching) = m.watching := by
  rw [State.imageStart_mode]
  cases m.watching <;> rfl

theorem State.imageEvaluated_first {z : Nat} {x : Zone} (loaded : (v.imageEvaluated power m).zone z = some x) :
    x.FirstEvaluated m.watching := by
  rw [State.imageEvaluated_zone] at loaded
  obtain ⟨c, _, rfl⟩ := Option.map_eq_some_iff.mp loaded
  unfold State.evaluated
  rw [State.imageStart_watching]
  exact Zone.evaluated_fresh c _ m.watching

theorem State.imageStart_dispatch : (v.imageStart power m).dispatch = { queue := [], stale := 0, mismatched := 0 } := by
  unfold State.imageStart State.raiseClock
  split <;> rfl

end

/-! ## The notice unit (R192, R200 step 7) -/

/-- The class FAULT as a start-up from an image leaves it. -/
def ClassState.startFault (power : Bool) (m : Image) : ClassState :=
  { enable := m.enables.fault, detail := if power then some .clockUnset else none, count := 0 }

section
variable (power : Bool) (m : Image) (v : State)

theorem State.imageStart_notices :
    OnlyOut { NoticeUnit.fresh m.enables m.period with fault := ClassState.startFault power m }
      (v.imageStart power m).notices := by
  unfold State.imageStart State.raiseClock
  split
  case isTrue on =>
    rw [on]
    exact NoticeUnit.raise_only .clockUnset m.console (NoticeUnit.fresh m.enables m.period)
  case isFalse off =>
    rw [Bool.not_eq_true] at off
    rw [off]
    rfl

theorem State.imageStart_pass :
    (v.imageStart power m).FirstPass 12 (v.imageEvaluated power m) := by
  have clear : (v.imageStart power m).notices.stage.detail = none := by
    have start := v.imageStart_notices power m
    unfold OnlyOut at start
    rw [start]
    rfl
  exact State.FirstPass.all (v.imageStart_fresh power m) (congrArg DispatchQueue.queue (v.imageStart_dispatch power m)) clear

/-- Only the class STAGE and the outgoing list are left open. -/
theorem State.imageEvaluated_notices :
    (v.imageEvaluated power m).notices = { NoticeUnit.fresh m.enables m.period with
      fault := ClassState.startFault power m, stage := (v.imageEvaluated power m).notices.stage
      out := (v.imageEvaluated power m).notices.out } ∧
    (v.imageEvaluated power m).notices.stage.enable = m.enables.stage := by
  have start := v.imageStart_notices power m
  have raised : StageRaised (v.imageStart power m).notices (v.imageEvaluated power m).notices :=
    (v.imageStart power m).evaluateZones_raised
  generalize (v.imageStart power m).notices = u at start raised
  generalize (v.imageEvaluated power m).notices = w at raised
  obtain ⟨only, enable⟩ := raised
  unfold OnlyOut at start
  rw [start] at only enable
  exact ⟨only, enable⟩

end

end Sys2Proof.Machine

end

section
/-! What a start-up from a valid image leaves, field by field, and the three events that start so (R200). -/

namespace Sys2Proof.Machine

/-! ## Ports, sectors and outputs afresh -/

theorem CrestPort.fresh_zero (line : LineLevel) : ∀ n ∈ (CrestPort.fresh line).counts, n = 0 := by
  simp [CrestPort.counts, CrestPort.fresh, Port.counts, Port.fresh]

theorem ValleyPort.fresh_zero (line : LineLevel) : ∀ n ∈ (ValleyPort.fresh line).counts, n = 0 := by
  simp [ValleyPort.counts, ValleyPort.fresh, Port.counts, Port.fresh]

/-- A sector starts afresh from the stations and the lanes alone. -/
theorem Sector.afresh_congr {s t : State} (stations : t.stations = s.stations) (lanes : t.lanes = s.lanes) :
    Sector.afresh t = Sector.afresh s := by
  have station (i : Nat) : t.station i = s.station i := by unfold State.station; rw [stations]
  have reading : readLink t = readLink s := by
    funext k
    unfold readLink
    rw [station]
  funext c r
  unfold Sector.afresh Sector.start
  rw [reading, Sector.laneUpdate_congr lanes]

/-- What R134 asks of an output on a state. -/
def Output.Follows (s : State) (o : Output) : Prop :=
  o.condition = conditionOf s o.cfg ∧ o.phase.isSome = o.condition ∧
    (o.condition = true → o.inUse = some (cadenceFor s o.cfg)) ∧
    (o.condition = false → o.inUse = none ∧ o.closed = false)

theorem Output.evaluate_idle_follows (s : State) (c : OutputConfig) :
    ((Output.idle c).evaluate s).Follows s ∧ ((Output.idle c).evaluate s).cfg = c := by
  cases holds : conditionOf s c with
  | true =>
    rw [Output.evaluate_starts holds rfl]
    exact ⟨⟨holds.symm, rfl, fun _ => rfl, fun h => nomatch h⟩, rfl⟩
  | false =>
    rw [Output.evaluate_rest holds rfl]
    exact ⟨⟨holds.symm, rfl, fun h => (nomatch h), fun _ => ⟨rfl, rfl⟩⟩, rfl⟩

/-! ## The last step -/

section
variable (line : LineLevel) (t : State)

theorem State.lastStep_zone (z : Nat) : (t.lastStep line).zone z = t.zone z := rfl

theorem State.lastStep_sector (i : Nat) : (t.lastStep line).sector i = t.sector i := rfl

theorem State.lastStep_dispatch : (t.lastStep line).dispatch = t.dispatch := rfl

theorem State.lastStep_notices :
    (t.lastStep line).notices = { t.notices with statusCd := loadStatus t.notices.period } := rfl

theorem State.lastStep_dress : t.lastStep line =
    (t.loadStatusCd).dress (mapTable (Output.evaluate t.loadStatusCd) t.outputs) (ValleyPort.fresh line) := rfl

/-- The outputs, evaluated from rest on the state they are left in (R138). -/
theorem State.lastStep_output {os : Vector OutputConfig 6} (idle : t.outputs = mapTable Output.idle os) {k : Nat}
    {o : Output} (low : 1 ≤ k) (found : (t.lastStep line).output k = some o) :
    ∃ c, os[k - 1]? = some c ∧ o.cfg = c ∧ o.Follows (t.lastStep line) := by
  have outputs : (t.lastStep line).output k = (os[k - 1]?).map (fun c => (Output.idle c).evaluate t.loadStatusCd) := by
    unfold State.output
    rw [if_neg (by omega)]
    show (mapTable (Output.evaluate t.loadStatusCd) t.outputs)[k - 1]? = _
    rw [idle, mapTable_getElem?, mapTable_getElem?, Option.map_map]
    rfl
  rw [outputs] at found
  obtain ⟨c, config, rfl⟩ := Option.map_eq_some_iff.mp found
  obtain ⟨follows, cfg⟩ := Output.evaluate_idle_follows t.loadStatusCd c
  exact ⟨c, config, cfg, follows⟩

end

/-! ## The state the start leaves -/

section
variable (power : Bool) (m : Image) (line : LineLevel) (v : State)

theorem State.imageEvaluated_outputs : (v.imageEvaluated power m).outputs = mapTable Output.idle m.outputs :=
  congrArg State.outputs (v.imageEvaluated_layer power m)

theorem State.imageStarted_layer : v.imageStarted power m line = { v.restored m with
    zones := (v.imageStarted power m line).zones, dispatch := (v.imageStarted power m line).dispatch
    notices := (v.imageStarted power m line).notices, outputs := (v.imageStarted power m line).outputs
    valley := ValleyPort.fresh line } := by
  have layer := v.imageEvaluated_layer power m
  unfold State.imageStarted
  generalize v.imageEvaluated power m = t at layer
  unfold OnlyZones at layer
  rw [layer]
  rfl

/-- The notice unit but for the class STAGE and the outgoing list (R192). -/
theorem State.imageStarted_notices :
    (v.imageStarted power m line).notices = { NoticeUnit.fresh m.enables m.period with
      fault := ClassState.startFault power m, stage := (v.imageEvaluated power m).notices.stage
      statusCd := loadStatus m.period, out := (v.imageEvaluated power m).notices.out } := by
  unfold State.imageStarted
  rw [State.lastStep_notices]
  have eq := (v.imageEvaluated_notices power m).1
  generalize (v.imageEvaluated power m).notices = u at eq
  rw [eq]
  rfl

theorem State.imageStarted_enables : (v.imageStarted power m line).notices.enables = m.enables := by
  have enable := (v.imageEvaluated_notices power m).2
  rw [State.imageStarted_notices]
  unfold NoticeUnit.enables
  dsimp only
  rw [enable]
  rfl

theorem State.imageStarted_follows : OutputsFollow (v.imageStarted power m line) := by
  intro k low _ o found
  obtain ⟨_, _, _, follows⟩ := State.lastStep_output line _ (v.imageEvaluated_outputs power m) low found
  exact follows

theorem State.imageStarted_configs {k : Nat} (low : 1 ≤ k) (high : k ≤ 6) :
    ((v.imageStarted power m line).output k).map Output.cfg = m.outputs[k - 1]? := by
  obtain ⟨o, found⟩ := (v.imageStarted power m line).output_exists low high
  obtain ⟨c, config, cfg, _⟩ := State.lastStep_output line _ (v.imageEvaluated_outputs power m) low found
  rw [found, config, Option.map_some, cfg]

theorem State.imageStarted_zone (z : Nat) :
    (v.imageStarted power m line).zone z = (v.imageEvaluated power m).zone z := State.lastStep_zone line _ z

theorem State.imageEvaluated_covered : (v.imageEvaluated power m).Covered :=
  State.evaluateZones_covered (v.imageStart power m)

theorem State.imageStarted_covered : ZonesCovered (v.imageStarted power m line) := by
  rw [zonesCovered_iff]
  exact (v.imageEvaluated_covered power m).same (State.lastStep_sector line _) (v.imageStarted_zone power m line)

/-- The entries of a zone after the start (R111, R124): its alert in WATCHING, unless the zone is QUIET. -/
theorem State.imageStarted_entries (z : Nat) : entriesOf z (v.imageStarted power m line).dispatch.queue =
    (v.imageStart power m).firstAlerts z ((v.imageStarted power m line).zone z) := by
  rw [State.imageStarted_zone, State.imageStarted, State.lastStep_dispatch]
  exact (v.imageStart_pass power m).alerts z

end

end Sys2Proof.Machine

end

section
/-! The statement on start-up from a valid image, put together. -/

namespace Sys2Proof.Machine

theorem mem_loadedEntries {α : Type} {n : Nat} {v : Vector (Option α) n} {x : α} :
    x ∈ loadedEntries v ↔ ∃ i, entryAt v i = some x := by
  unfold loadedEntries
  rw [List.mem_filterMap]
  constructor
  · rintro ⟨y, member, rfl⟩
    obtain ⟨i, small, here⟩ := List.mem_iff_getElem.mp member
    refine ⟨i, ?_⟩
    unfold entryAt
    rw [← Vector.getElem?_toList, List.getElem?_eq_getElem small, here]
    rfl
  · rintro ⟨i, here⟩
    refine ⟨some x, ?_, rfl⟩
    unfold entryAt at here
    rw [← Vector.getElem?_toList] at here
    cases found : v.toList[i]? with
    | none => rw [found] at here; cases here
    | some y =>
      rw [found] at here
      cases here
      exact List.mem_of_getElem? found

/-- The node addresses of an image (R198). -/
theorem Image.mem_addresses {m : Image} {a : Byte} : a ∈ m.addresses ↔
    (∃ i c, entryAt m.stations i = some c ∧ c.addr = a) ∨ a ∈ m.console ∨
      ∃ z c, entryAt m.zones z = some c ∧ a ∈ c.sirens := by
  unfold Image.addresses
  rw [List.mem_append, List.mem_append, List.mem_map, List.mem_flatMap, or_assoc]
  simp only [mem_loadedEntries, ← exists_and_right]
  exact or_congr exists_comm (or_congr_right exists_comm)

section
variable (power : Bool) (m : Image) (line : LineLevel) (v : State)

theorem State.imageStarted_ports (p : PortId) :
    ((v.imageStarted power m line).port p).rx = .hunt ∧ ((v.imageStarted power m line).port p).tx = none ∧
      ∀ n ∈ portCounts p (v.imageStarted power m line), n = 0 := by
  have layer := v.imageStarted_layer power m line
  generalize v.imageStarted power m line = u at layer
  rw [layer]
  cases p with
  | crestA => exact ⟨rfl, rfl, CrestPort.fresh_zero _⟩
  | crestB => exact ⟨rfl, rfl, CrestPort.fresh_zero _⟩
  | valley => exact ⟨rfl, rfl, ValleyPort.fresh_zero _⟩

theorem State.imageStarted_sector (i : Nat) : (v.imageStarted power m line).sector i = (entryAt m.sectors i).map (fun c =>
    if c.parked then Sector.parkedFrom c else Sector.afresh (v.imageStarted power m line) c none) := by
  have layer := v.imageStarted_layer power m line
  have field {α : Type} (f : State → α) := congrArg f layer
  have afresh : Sector.afresh (v.imageStarted power m line) = Sector.afresh (v.startPorts.restore m) :=
    Sector.afresh_congr (field State.stations) (field State.lanes)
  rw [afresh]
  generalize v.imageStarted power m line = u at layer
  rw [layer]
  exact State.restored_sector m v i

/-- The alerts of a start-up in WATCHING (R111, R124). -/
theorem State.imageStarted_alert {z : Nat} {x : Zone} (watching : m.watching = true)
    (loaded : (v.imageStarted power m line).zone z = some x) (high : x.stage ≠ .quiet) :
    ∃ e, (v.imageStarted power m line).dispatch.queue.filter (fun (e : Entry) => decide (e.zone = z)) = [e] ∧
      e.serial = 1 ∧ e.stage = x.stage ∧ e.causes = x.causes ∧ e.refresh = false ∧
      e.records = x.cfg.sirens.map (fun a => { addr := a, state := .pending, tries := 0, cd := none }) := by
  have entries := v.imageStarted_entries power m line z
  have mode : (v.imageStart power m).mode = .watching := by rw [State.imageStart_mode, if_pos watching]
  have first := v.imageEvaluated_first power m ((v.imageStarted_zone power m line z).symm.trans loaded)
  rw [loaded] at entries
  refine ⟨_, entries.trans (if_pos ⟨mode, high⟩), (first.dispatched high watching).1, rfl, rfl, rfl, rfl⟩

/-- No other entry stands in the queue. -/
theorem State.imageStarted_queue {e : Entry} (member : e ∈ (v.imageStarted power m line).dispatch.queue) :
    m.watching = true ∧ ∃ x, (v.imageStarted power m line).zone e.zone = some x ∧ x.stage ≠ .quiet := by
  have here : e ∈ entriesOf e.zone (v.imageStarted power m line).dispatch.queue :=
    List.mem_filter.mpr ⟨member, decide_eq_true rfl⟩
  rw [State.imageStarted_entries] at here
  have watches : (v.imageStart power m).mode = .watching → m.watching = true := fun mode => by
    rw [← v.imageStart_watching power m]
    exact decide_eq_true mode
  generalize (v.imageStarted power m line).zone e.zone = place at here
  cases place with
  | none => cases here
  | some x =>
    unfold State.firstAlerts at here
    dsimp only at here
    split at here
    case isTrue announced => exact ⟨watches announced.1, x, rfl, announced.2⟩
    case isFalse => cases here

theorem State.imageStarted_from (idle : v.save = none) : StartedFrom m v (v.imageStarted power m line) := by
  have layer := v.imageStarted_layer power m line
  have notices := v.imageStarted_notices power m line
  have pass := v.imageStart_pass power m
  have acks : SameAcks (v.imageStart power m) (v.imageEvaluated power m) := State.evaluateZones_acks _
  have dispatch := v.imageStart_dispatch power m
  have field {α : Type} (f : State → α) := congrArg f layer
  refine ⟨field State.straps, field State.rate, field State.node, field State.pending,
    v.imageStarted_ports power m line, ?crestA, ?crestB, ?forward, ?seq, field State.replies,
    field State.lost, field State.save, ?store, field State.console, field State.mode,
    v.imageStarted_enables power m line, ?period, ?statusCd,
    ?stale, ?mismatched, ?stations, ?lanes, v.imageStarted_sector power m line, ?zones, v.imageStarted_covered power m line,
    fun z x loaded => ?first, ?raised, fun e member => v.imageStarted_queue power m line member,
    fun watching z x loaded high => v.imageStarted_alert power m line watching loaded high,
    fun k low high => v.imageStarted_configs power m line low high, v.imageStarted_follows power m line⟩

  case crestA => exact congrArg CrestPort.queue (field State.crestA)
  case crestB => exact congrArg CrestPort.queue (field State.crestB)
  case forward => exact congrArg ValleyPort.forward (field State.valley)
  case seq => exact congrArg ValleyPort.seq (field State.valley)
  case store =>
    refine (field State.store).trans ((startPorts_store v).trans ?_)
    rw [if_pos idle]
  case period => rw [notices]; rfl
  case statusCd => rw [notices]; rfl
  case stale =>
    refine Eq.trans ?_ (acks.1.trans (congrArg DispatchQueue.stale dispatch))
    rw [State.imageStarted, State.lastStep_dispatch]
  case mismatched =>
    refine Eq.trans ?_ (acks.2.trans (congrArg DispatchQueue.mismatched dispatch))
    rw [State.imageStarted, State.lastStep_dispatch]
  case stations =>
    intro i
    rw [State.station, field State.stations]
    exact State.restored_station m v i
  case lanes =>
    intro i
    rw [State.lane, field State.lanes]
    exact State.restored_lane m v i
  case zones =>
    intro z
    rw [State.imageStarted_zone, State.imageEvaluated_zone, Option.map_map]
    cases entryAt m.zones z with
    | none => rfl
    | some c => exact congrArg some (Zone.evaluated_follows _ _ (Zone.fresh c)).cfg
  case first =>
    obtain ⟨force, hold, target, computed, quiet, dispatched, undispatched⟩ :=
      v.imageEvaluated_first power m ((v.imageStarted_zone power m line z).symm.trans loaded)
    exact ⟨force, hold, target, computed, quiet, dispatched, undispatched⟩
  case raised =>
    rw [notices]
    simp only [State.imageStarted_zone]
    exact pass.raised

/-! ## The first evaluation, from the state it leaves (R120) -/

theorem State.imageStart_notices_eq : (v.imageStart power m).notices =
    if power then (NoticeUnit.fresh m.enables m.period).raise .clockUnset m.console
    else NoticeUnit.fresh m.enables m.period := by
  unfold State.imageStart State.raiseClock
  split <;> rfl

/-- The zones that a start-up evaluates for the first time, put back as they were loaded. -/
theorem State.imageStarted_rewound : { v.imageStarted power m line with
      zones := mapEntries Zone.fresh m.zones
      dispatch := { queue := [], stale := 0, mismatched := 0 }
      notices := if power then (NoticeUnit.fresh m.enables m.period).raise .clockUnset m.console
        else NoticeUnit.fresh m.enables m.period } =
    (v.imageStart power m).dress (v.imageStarted power m line).outputs (ValleyPort.fresh line) := by
  have start : OnlyNotices (v.restored m) (v.imageStart power m) := by
    unfold State.imageStart State.raiseClock
    split
    · exact (v.restored m).raise_layer .clockUnset
    · exact OnlyNotices.refl _
  rw [← State.imageStart_notices_eq power m v]
  have layer := v.imageStarted_layer power m line
  generalize v.imageStarted power m line = u at layer
  generalize v.imageStart power m = t at start
  rw [layer]
  unfold OnlyNotices at start
  rw [start]
  rfl

/-- The state a pass of first evaluations leaves, as `FirstEvaluated` says it. -/
theorem FirstEvaluated.of_pass {m : Image} {power : Bool} {u t : State}
    (pass : (List.range 12).foldl (fun t z => t.evaluateZone z) { u with
      zones := mapEntries Zone.fresh m.zones
      dispatch := { queue := [], stale := 0, mismatched := 0 }
      notices := if power then (NoticeUnit.fresh m.enables m.period).raise .clockUnset m.console
        else NoticeUnit.fresh m.enables m.period } = t)
    (zones : u.zones = t.zones) (dispatch : u.dispatch = t.dispatch)
    (notices : u.notices = { t.notices with statusCd := loadStatus m.period }) : FirstEvaluated m power u := by
  unfold FirstEvaluated
  dsimp only
  generalize List.range 12 = l at pass ⊢
  subst pass
  exact ⟨zones, dispatch, notices⟩

theorem State.imageStarted_first : FirstEvaluated m power (v.imageStarted power m line) := by
  have pass : v.imageEvaluated power m = (List.range 12).foldl (fun t z => t.evaluateZone z) (v.imageStart power m) := rfl
  have dressed := State.evaluateZones_dress (v.imageStarted power m line).outputs (ValleyPort.fresh line) (List.range 12)
    (v.imageStart power m)
  rw [← State.imageStarted_rewound, ← pass] at dressed
  have period : (v.imageEvaluated power m).notices.period = m.period :=
    congrArg NoticeUnit.period (v.imageEvaluated_notices power m).1
  have last : v.imageStarted power m line = (v.imageEvaluated power m).lastStep line := rfl
  generalize v.imageStarted power m line = u at dressed last
  generalize v.imageEvaluated power m = t at dressed last period
  refine FirstEvaluated.of_pass dressed ?_ ?_ ?_
  · rw [last]
    rfl
  · rw [last]
    rfl
  · rw [last, State.lastStep_notices, period]
    rfl

end

end Sys2Proof.Machine

end

section
/-! The three events that start the part up from a valid image (R6, R28, R182, R200). -/

namespace Sys2Proof.Machine

section
variable (power : Bool) (m : Image) (line : LineLevel) (v : State)

theorem State.lastStep_line (l : LineLevel) (t : State) :
    (t.lastStep line).updPort .valley (fun p => { p with line := l }) = t.lastStep l := rfl

/-- The time base, the reset cause record and the class FAULT are not of the tables. -/
theorem State.imageStarted_apart : (v.imageStarted power m line).time = v.time ∧
    (v.imageStarted power m line).cause = v.cause ∧ (v.imageStarted power m line).valley = ValleyPort.fresh line ∧
    (v.imageStarted power m line).notices.fault = ClassState.startFault power m := by
  have layer := v.imageStarted_layer power m line
  have field {α : Type} (f : State → α) := congrArg f layer
  refine ⟨field State.time, field State.cause, field State.valley, ?_⟩
  rw [State.imageStarted_notices]

end

/-- Settles O37: a start-up from a valid image leaves the state `State.imageStarted`. -/
theorem startUpFromAnImage : Obligations.StartUpFromAnImage := by
  unfold Obligations.StartUpFromAnImage
  refine ⟨fun m a => Image.mem_addresses, fun s m valid => ⟨?power, fun fresh => ?line, fun f sending => ?reset⟩⟩
  case power =>
    have valid' : ValidImage m s.powerUp := valid
    have started := s.powerUp.imageStarted_from true m .mark valid.1
    have first := s.powerUp.imageStarted_first true m .mark
    obtain ⟨time, cause, _, fault⟩ := s.powerUp.imageStarted_apart true m .mark
    refine ⟨s.powerUp.imageStarted true m .mark, ?_, ?_, first, time, cause, fault⟩
    · rw [exec_powerOn, valid'.startUp]
      rfl
    · generalize s.powerUp.imageStarted true m .mark = u at started
      exact started
  case line =>
    let v : State := { s with cause := { s.cause with line := true } }
    have valid' : ValidImage m v := valid
    have started := v.imageStarted_from false m .spent valid.1
    have first := v.imageStarted_first false m .spent
    obtain ⟨time, cause, valley, fault⟩ := v.imageStarted_apart false m .spent
    have leaves : s.lineReset = v.imageStarted false m .spent := by
      have start := valid'.startUp false
      unfold State.lineReset
      rw [start]
      exact State.lastStep_line _ _ _
    refine ⟨v.imageStarted false m .spent, ?_, ?_, first, time, cause, ?_, fault⟩
    · rw [exec_lineReset fresh, leaves]
      rfl
    · generalize v.imageStarted false m .spent = u at started
      exact started
    · rw [valley]
      rfl
  case reset =>
    have valid' : ValidImage m s.resetSent := valid
    have started := s.resetSent.imageStarted_from false m s.resetSent.valley.port.line valid.1
    have first := s.resetSent.imageStarted_first false m s.resetSent.valley.port.line
    obtain ⟨time, cause, _, fault⟩ := s.resetSent.imageStarted_apart false m s.resetSent.valley.port.line
    refine ⟨s.resetSent.imageStarted false m s.resetSent.valley.port.line, ?_, ?_, first, time, cause, fault⟩
    · rw [exec_transmitCompletion_reset sending, valid'.startUp]
      rfl
    · generalize s.resetSent.imageStarted false m s.resetSent.valley.port.line = u at started
      exact started

end Sys2Proof.Machine

end

section
/-! The zones at the effect of a RESTART (R121, R201): a repeated evaluation, the changes of the sectors handed on, and
what stands where no stage has risen. -/

namespace Sys2Proof.Machine

/-! ## A zone evaluated twice (R110) -/

theorem Zone.evaluated_holds {cs : List (Nat × Sector)} {x : Zone} (watching : Bool)
    (below : (x.targetOver cs).num < x.stage.num) :
    x.evaluated cs watching = x.keptAt cs (some (x.hold.getD x.cfg.holdDown)) := by
  have notAbove : ¬ x.stage.num < (x.targetOver cs).num := by omega
  have notSame : ¬ (x.targetOver cs).num = x.stage.num := by omega
  exact (if_neg notAbove).trans (if_neg notSame)

theorem Zone.targetOver_congr {x y : Zone} (force : y.force = x.force) (cs : List (Nat × Sector)) :
    y.targetOver cs = x.targetOver cs := by
  unfold Zone.targetOver Zone.forceStage
  rw [force]

/-- An evaluated zone is left as it is by another evaluation over the same sectors. -/
theorem Zone.evaluated_again (cs : List (Nat × Sector)) (watching : Bool) (x : Zone) :
    (x.evaluated cs watching).evaluated cs watching = x.evaluated cs watching := by
  rcases Nat.lt_trichotomy x.stage.num (x.targetOver cs).num with above | same | below
  · rw [Zone.evaluated_raises watching above]
    have still : (((x.raisedTo cs).numberChange watching).targetOver cs).num =
        ((x.raisedTo cs).numberChange watching).stage.num := by cases watching <;> rfl
    rw [Zone.evaluated_stays watching still]
    cases watching <;> rfl
  · rw [Zone.evaluated_stays watching same.symm]
    exact Zone.evaluated_stays (x := x.keptAt cs none) watching same.symm
  · rw [Zone.evaluated_holds watching below]
    exact Zone.evaluated_holds (x := x.keptAt cs _) watching below

theorem Zone.evaluated_force (cs : List (Nat × Sector)) (watching : Bool) (x : Zone) :
    (x.evaluated cs watching).force = x.force := by
  rcases Nat.lt_trichotomy x.stage.num (x.targetOver cs).num with above | same | below
  · rw [Zone.evaluated_raises watching above]
    cases watching <;> rfl
  · rw [Zone.evaluated_stays watching same.symm]
    rfl
  · rw [Zone.evaluated_holds watching below]
    rfl

theorem State.evaluated_again (s : State) (x : Zone) : s.evaluated (s.evaluated x) = s.evaluated x := by
  have cfg : (s.evaluated x).cfg = x.cfg := (Zone.evaluated_follows _ _ x).cfg
  rw [State.evaluated, cfg]
  exact Zone.evaluated_again _ _ x

/-! ## The changed sectors hand their changes on (R82, R201) -/

/-- The sectors that `changed` names hand their changes on, ascending. -/
def State.handChanges (changed : Nat → Bool) (s : State) : State :=
  eachBelow 8 (fun i u => if changed i then u.sectorChange i else u) s

section
variable {changed : Nat → Bool}

theorem State.handChanges_layer (s : State) : OnlyZones s (s.handChanges changed) := by
  refine OnlyZones.pass (fun i t => ?_) s
  split
  · exact t.sectorChange_layer i
  · exact .refl t

/-- The zones once the sectors below `n` have handed on their changes. -/
structure State.Handed (changed : Nat → Bool) (s : State) (n : Nat) (t : State) : Prop where
  layer : OnlyZones s t
  vacant : ∀ z, s.zone z = none → t.zone z = none
  unmoved : ∀ z x, s.zone z = some x → (∀ j ∈ x.cfg.sectors, j < n → changed j = false) → t.zone z = some x
  moved : ∀ z x, s.zone z = some x → (∃ j ∈ x.cfg.sectors, j < n ∧ changed j = true) → t.zone z = some (s.evaluated x)

theorem State.Handed.next_still {s t : State} {n : Nat} (h : s.Handed changed n t) (still : changed n = false) :
    s.Handed changed (n + 1) t := by
  refine ⟨h.layer, h.vacant, fun z x loaded none => h.unmoved z x loaded fun j listed small => none j listed (by omega),
    fun z x loaded ⟨j, listed, small, change⟩ => h.moved z x loaded ⟨j, listed, ?_, change⟩⟩
  have other : j ≠ n := fun same => by
    rw [same, still] at change
    cases change
  omega

theorem State.Handed.next_changed {s t : State} {n : Nat} (h : s.Handed changed n t) (change : changed n = true) :
    s.Handed changed (n + 1) (t.sectorChange n) := by
  have after (x : Zone) : t.afterChange n x = if n ∈ x.cfg.sectors then s.evaluated x else x := by
    unfold State.afterChange
    rw [h.layer.evaluated]
  refine ⟨h.layer.trans (t.sectorChange_layer n), fun z vacant => ?_, fun z x loaded none => ?_,
    fun z x loaded ⟨j, listed, small, changes⟩ => ?_⟩
  · rw [State.sectorChange_zone, h.vacant z vacant]
    rfl
  · have unlisted : n ∉ x.cfg.sectors := fun listed => by
      have still := none n listed (by omega)
      rw [change] at still
      cases still
    rw [State.sectorChange_zone, h.unmoved z x loaded fun j listed small => none j listed (by omega), Option.map_some, after,
      if_neg unlisted]
  · have cfg : (s.evaluated x).cfg = x.cfg := (Zone.evaluated_follows _ _ x).cfg
    by_cases before : ∃ j ∈ x.cfg.sectors, j < n ∧ changed j = true
    · rw [State.sectorChange_zone, h.moved z x loaded before, Option.map_some, after, s.evaluated_again, ite_self]
    · have here : n ∈ x.cfg.sectors := by
        have last : j = n := by
          by_contra other
          exact before ⟨j, listed, by omega, changes⟩
        exact last ▸ listed
      have still : ∀ j ∈ x.cfg.sectors, j < n → changed j = false := fun j listed small =>
        Bool.not_eq_true _ ▸ fun changes => before ⟨j, listed, small, changes⟩
      rw [State.sectorChange_zone, h.unmoved z x loaded still, Option.map_some, after, if_pos here]

theorem State.handChanges_handed (s : State) : s.Handed changed 8 (s.handChanges changed) := by
  refine eachBelow_induct (P := s.Handed changed) (fun n t h => ?_) ⟨.refl s, fun _ h => h, fun _ _ h _ => h,
    fun _ _ _ ⟨_, _, small, _⟩ => absurd small (Nat.not_lt_zero _)⟩ 8
  split
  · rename_i change
    exact h.next_changed change
  · rename_i still
    exact h.next_still (Bool.eq_false_iff.mpr still)

end

/-! ## Where no stage rises (R111) -/

/-- The height of a zone's stage, 0 at a VACANT place. -/
def State.height (s : State) (z : Nat) : Nat :=
  ((s.zone z).map (fun x => x.stage.num)).getD 0

/-- No stage falls, and where none rises the Dispatch Queue and the notice unit stand. -/
def RisesOrRests (s t : State) : Prop :=
  (∀ z, s.height z ≤ t.height z) ∧ ((∀ z, t.height z = s.height z) → t.dispatch = s.dispatch ∧ t.notices = s.notices)

theorem RisesOrRests.refl (s : State) : RisesOrRests s s := ⟨fun _ => le_rfl, fun _ => ⟨rfl, rfl⟩⟩

theorem RisesOrRests.trans {s t u : State} (h : RisesOrRests s t) (k : RisesOrRests t u) : RisesOrRests s u := by
  refine ⟨fun z => (h.1 z).trans (k.1 z), fun same => ?_⟩
  have before (z : Nat) : t.height z = s.height z := le_antisymm (same z ▸ k.1 z) (h.1 z)
  obtain ⟨dispatch, notices⟩ := h.2 before
  obtain ⟨dispatch', notices'⟩ := k.2 fun z => (same z).trans (before z).symm
  exact ⟨dispatch'.trans dispatch, notices'.trans notices⟩

/-- A zone written with the stage it had. -/
theorem RisesOrRests.setZone {z : Nat} {x y : Zone} {s : State} (loaded : s.zone z = some x) (stage : y.stage = x.stage) :
    RisesOrRests s (s.setZone z (some y)) := by
  have same (j : Nat) : (s.setZone z (some y)).height j = s.height j := by
    unfold State.height
    rw [setZone_zone]
    split
    case isTrue here => rw [← here.1, loaded, Option.map_some, Option.map_some, stage]
    case isFalse => rfl
  exact ⟨fun j => (same j).ge, fun _ => ⟨rfl, rfl⟩⟩

theorem State.evaluateZone_risesOrRests (z : Nat) (s : State) : RisesOrRests s (s.evaluateZone z) := by
  cases loaded : s.zone z with
  | none =>
    rw [State.evaluateZone_vacant loaded]
    exact .refl s
  | some x =>
    rcases Nat.lt_trichotomy x.stage.num (x.targetOver (contributing s x.cfg.sectors)).num with above | same | below
    · have before : s.height z = x.stage.num := by
        unfold State.height
        rw [loaded]
        rfl
      have after : (s.evaluateZone z).height z = (x.targetOver (contributing s x.cfg.sectors)).num := by
        unfold State.height
        rw [State.evaluateZone_raises loaded above, State.stageChanged_same loaded, Option.map_some, State.changedZone_stage]
        rfl
      refine ⟨fun j => ?_, fun same => absurd (same z) (by omega)⟩
      by_cases here : z = j
      · subst here
        omega
      · unfold State.height
        rw [State.evaluateZone_other s here]
    · rw [State.evaluateZone_stays loaded same.symm]
      exact .setZone loaded rfl
    · rw [State.evaluateZone_holds loaded below]
      exact .setZone loaded rfl

theorem State.sectorChange_risesOrRests (i : Nat) (s : State) : RisesOrRests s (s.sectorChange i) := by
  rw [State.sectorChange_steps_eq]
  refine eachBelow_keeps (P := RisesOrRests s) (fun z _ t h => h.trans ?_) (.refl s)
  unfold changeStep
  split
  · split
    · exact t.evaluateZone_risesOrRests z
    · exact .refl t
  · exact .refl t

theorem State.handChanges_risesOrRests {changed : Nat → Bool} (s : State) : RisesOrRests s (s.handChanges changed) := by
  refine eachBelow_keeps (P := RisesOrRests s) (fun i _ t h => h.trans ?_) (.refl s)
  split
  · exact t.sectorChange_risesOrRests i
  · exact .refl t

end Sys2Proof.Machine

end

section
/-! Proof of the statement on the effect of a RESTART (R20, R121, R181, R201). -/

namespace Sys2Proof.Machine

/-! ## The changes handed on, seen from the zones as they stood -/

/-- Two states whose zones are configured alike. -/
def SameZoneConfigs (s t : State) : Prop :=
  ∀ z, (t.zone z).map Zone.cfg = (s.zone z).map Zone.cfg

theorem State.changeAt_congr {s t : State} (same : SameZoneConfigs s t) (j : Nat) : t.changeAt j = s.changeAt j := by
  funext z v
  have cfg := same z
  unfold State.changeAt
  cases here : s.zone z with
  | none =>
    rw [here, Option.map_none, Option.map_eq_none_iff] at cfg
    rw [cfg]
  | some x =>
    rw [here, Option.map_some] at cfg
    obtain ⟨y, there, config⟩ := Option.map_eq_some_iff.mp cfg
    rw [there]
    dsimp only
    rw [config]

/-- One sector of a RESTART tells the zones that list it, as the zones stood before. -/
def State.tell (s : State) (changed : Nat → Bool) (j : Nat) (t : State) : State :=
  if changed j then eachBelow 12 (s.changeAt j) t else t

theorem State.tell_eq {s t : State} (configs : SameZoneConfigs s t) (changed : Nat → Bool) (j : Nat) :
    s.tell changed j t = if changed j then t.sectorChange j else t := by
  have step : eachBelow 12 (s.changeAt j) t = t.sectorChange j := by
    rw [State.sectorChange_eq, State.changeAt_congr configs]
  unfold State.tell
  rw [step]

theorem SameZoneConfigs.change {s t : State} (configs : SameZoneConfigs s t) (changed : Nat → Bool) (j : Nat) :
    SameZoneConfigs s (if changed j then t.sectorChange j else t) := by
  split
  · exact fun z => ((t.sectorChange_follows j z).cfg).trans (configs z)
  · exact configs

theorem eachBelow_zero (f : Nat → State → State) (s : State) : eachBelow 0 f s = s := rfl

theorem State.handChanges_told {changed : Nat → Bool} {s start : State} (same : SameZoneConfigs s start) :
    start.handChanges changed = eachBelow 8 (s.tell changed) start := by
  have passed (n : Nat) : SameZoneConfigs s (eachBelow n (s.tell changed) start) ∧
      eachBelow n (fun i u => if changed i then u.sectorChange i else u) start = eachBelow n (s.tell changed) start := by
    induction n with
    | zero =>
      rw [eachBelow_zero, eachBelow_zero]
      exact ⟨same, rfl⟩
    | succ n ih =>
      obtain ⟨configs, eq⟩ := ih
      rw [eachBelow_succ, eachBelow_succ, eq, State.tell_eq configs]
      exact ⟨configs.change changed n, rfl⟩
  exact (passed 8).2

/-! ## The effect (R201) -/

/-- The state at the completion of the reply of a RESTART, before its effect (R17, R181). -/
def State.restartSent (s : State) : State :=
  s.updPort .valley fun q => { q.countSent with tx := none }

/-- Stations, lanes and sectors started afresh, holds loaded afresh, before any sector hands its change on. -/
def State.restartStart (s : State) : State :=
  ({ s.restartSent with
    cause := { s.cause with warmCommand := true }
    zones := mapEntries Zone.restart s.zones }).restartLanes.sectorsAfresh

/-- A sector that stands otherwise after the start. -/
def State.restartChanged (s : State) (j : Nat) : Bool :=
  !decide (sectorView (s.restartStart.sector j) = sectorView (s.sector j))

/-- The state the effect of a RESTART leaves. -/
def State.restarted (s : State) : State :=
  (s.restartStart.handChanges s.restartChanged).restartOutputs

theorem State.restartChanged_iff {s : State} {j : Nat} :
    s.restartChanged j = true ↔ sectorView (s.restartStart.sector j) ≠ sectorView (s.sector j) := by
  simp [State.restartChanged]

theorem State.restartChanged_eq_false {s : State} {j : Nat} :
    s.restartChanged j = false ↔ sectorView (s.restartStart.sector j) = sectorView (s.sector j) := by
  simp [State.restartChanged]

theorem State.restartSectors_eq (a : State) : a.restartSectors = a.sectorsAfresh.handChanges
    (fun j => !decide (sectorView (a.sectorsAfresh.sector j) = sectorView (a.sector j))) := by
  have turn : (fun (i : Nat) (u : State) => if sectorView (a.sector i) = sectorView (a.sectorsAfresh.sector i) then u
      else u.sectorChange i) = fun i u =>
      if (!decide (sectorView (a.sectorsAfresh.sector i) = sectorView (a.sector i))) = true then u.sectorChange i else u := by
    funext i u
    by_cases same : sectorView (a.sectorsAfresh.sector i) = sectorView (a.sector i)
    · rw [if_pos same.symm, if_neg (by simp [same])]
    · rw [if_neg (Ne.symm same), if_pos (by simp [same])]
  unfold State.handChanges
  rw [← turn]
  rfl

theorem State.restartEffect_eq (s : State) : s.restartSent.restartEffect = s.restarted := by
  unfold State.restartEffect
  dsimp only
  rw [State.restartSectors_eq]
  rfl

theorem exec_transmitCompletion_restart {s : State} {f : Frame}
    (sending : s.valley.port.tx = some { frame := f, effect := .restart }) :
    exec (.transmitCompletion .valley) s = .next (State.finish s.settle s.settle.restarted) := by
  have sends : (s.port .valley).tx = some { frame := f, effect := .restart } := sending
  have kept : (s.settle.port .valley).tx = some { frame := f, effect := .restart } := by
    rw [State.settle_port (by rw [sends]; rfl), sends]
  have busy : (s.port .valley).tx ≠ none := by simp [sends]
  have noReset : ¬ s.completesReset .valley = true := by simp [State.completesReset, sends]
  have completed : s.settle.completeTransmit .valley = s.settle.restarted := by
    rw [← State.restartEffect_eq]
    unfold State.completeTransmit
    rw [kept]
    rfl
  rw [exec_transmitCompletion, execTransmitCompletion, if_neg busy, if_neg noReset, eventStep_eq, completed]

/-! ## The state it leaves -/

section
variable (s : State)

theorem State.restarted_layer : s.restarted = { s.restartStart with
    zones := s.restarted.zones, dispatch := s.restarted.dispatch, notices := s.restarted.notices
    outputs := s.restarted.outputs } := by
  have layer := State.handChanges_layer (changed := s.restartChanged) s.restartStart
  unfold State.restarted
  generalize s.restartStart.handChanges s.restartChanged = t at layer
  generalize s.restartStart = a at layer
  unfold OnlyZones at layer
  rw [layer]
  rfl

theorem State.restarted_field {α : Type} (f : State → α) : f s.restarted = f { s.restartStart with
    zones := s.restarted.zones, dispatch := s.restarted.dispatch, notices := s.restarted.notices
    outputs := s.restarted.outputs } := congrArg f s.restarted_layer

theorem State.restartStart_zone (z : Nat) : s.restartStart.zone z = (s.zone z).map Zone.restart :=
  entryAt_mapEntries _ _ _

/-- The outputs restarted, all but they stand as they stood. -/
theorem State.restartOutputs_layer (t : State) : t.restartOutputs = { t with outputs := t.restartOutputs.outputs } := rfl

theorem State.restarted_field_handed {α : Type} (f : State → α) : f s.restarted =
    f { s.restartStart.handChanges s.restartChanged with outputs := s.restarted.outputs } :=
  congrArg f (State.restartOutputs_layer _)

theorem State.restarted_zone (z : Nat) :
    s.restarted.zone z = (s.restartStart.handChanges s.restartChanged).zone z :=
  congrArg (fun v => entryAt v z) (s.restarted_field_handed State.zones)

theorem State.restarted_sector (i : Nat) : s.restarted.sector i = s.restartStart.sector i :=
  congrArg (fun v => entryAt v i) (s.restarted_field State.sectors)

theorem State.restartStart_sector (i : Nat) :
    s.restartStart.sector i = (s.sector i).map (fun y => Sector.atReset s.restarted y.cfg y.trip) := by
  have afresh : Sector.afresh s.restarted = Sector.afresh s.restartStart :=
    Sector.afresh_congr (s.restarted_field State.stations) (s.restarted_field State.lanes)
  have reset : Sector.atReset s.restarted = Sector.atReset s.restartStart := by
    funext c r
    unfold Sector.atReset
    rw [afresh]
  rw [reset]
  exact State.sectorsAfresh_sector _ i

theorem State.restartStart_configs : SameZoneConfigs s s.restartStart := by
  intro z
  rw [State.restartStart_zone, Option.map_map]
  rfl

theorem State.restarted_outputs : s.restarted.outputs =
    mapTable (Output.evaluate s.restarted) (mapTable (fun (o : Output) => Output.idle o.cfg) s.outputs) := by
  have layer := State.handChanges_layer (changed := s.restartChanged) s.restartStart
  have same : (s.restartStart.handChanges s.restartChanged).outputs = s.outputs := by
    have h := congrArg State.outputs layer
    exact h
  unfold State.restarted
  generalize s.restartStart.handChanges s.restartChanged = t at same
  rw [← same]
  rfl

end

end Sys2Proof.Machine

end

section
/-! The statement on the effect of a RESTART, put together. -/

namespace Sys2Proof.Machine

section
variable (s : State)

theorem State.restarted_changed (j : Nat) : s.restartChanged j = true ↔
    sectorView (s.restarted.sector j) ≠ sectorView (s.sector j) := by
  rw [State.restartChanged_iff, State.restarted_sector]

/-- A sector that has changed is a place of the Sector Table. -/
theorem State.restartChanged_lt {j : Nat} (changed : s.restartChanged j = true) : j < 8 := by
  by_contra big
  rw [State.restartChanged_iff, State.sector, State.sector, entryAt_none_of_le _ _ (by omega),
    entryAt_none_of_le _ _ (by omega)] at changed
  exact changed rfl

theorem State.restartOutputs_evaluated (t : State) : t.restartOutputs.evaluated = t.evaluated := rfl

/-- A zone after a RESTART: kept with its hold loaded afresh, and evaluated where a listed sector has changed. -/
theorem State.restarted_zone_cases {z : Nat} {x : Zone} (loaded : s.zone z = some x) :
    ((∀ j ∈ x.cfg.sectors, s.restartChanged j = false) → s.restarted.zone z = some x.restart) ∧
    ((∃ j ∈ x.cfg.sectors, s.restartChanged j = true) → s.restarted.zone z = some (s.restarted.evaluated x.restart)) := by
  have start : s.restartStart.zone z = some x.restart := by rw [State.restartStart_zone, loaded, Option.map_some]
  have handed := State.handChanges_handed (changed := s.restartChanged) s.restartStart
  have evaluated : s.restarted.evaluated = s.restartStart.evaluated := by
    rw [State.restarted, State.restartOutputs_evaluated, handed.layer.evaluated]
  rw [State.restarted_zone, evaluated]
  exact ⟨fun none => handed.unmoved z _ start fun j listed _ => none j listed,
    fun ⟨j, listed, changes⟩ => handed.moved z _ start ⟨j, listed, s.restartChanged_lt changes, changes⟩⟩

theorem State.restarted_vacant {z : Nat} (vacant : s.zone z = none) : s.restarted.zone z = none := by
  have handed := State.handChanges_handed (changed := s.restartChanged) s.restartStart
  rw [State.restarted_zone]
  exact handed.vacant z (by rw [State.restartStart_zone, vacant, Option.map_none])

theorem State.restarted_kept (z : Nat) : (s.restarted.zone z).map Zone.cfg = (s.zone z).map Zone.cfg ∧
    (s.restarted.zone z).map Zone.force = (s.zone z).map Zone.force := by
  cases loaded : s.zone z with
  | none =>
    rw [s.restarted_vacant loaded]
    exact ⟨rfl, rfl⟩
  | some x =>
    obtain ⟨unmoved, moved⟩ := s.restarted_zone_cases loaded
    by_cases changed : ∃ j ∈ x.cfg.sectors, s.restartChanged j = true
    · rw [moved changed]
      exact ⟨congrArg some (Zone.evaluated_follows _ _ x.restart).cfg, congrArg some (Zone.evaluated_force _ _ x.restart)⟩
    · rw [unmoved fun j listed => Bool.not_eq_true _ ▸ fun changes => changed ⟨j, listed, changes⟩]
      exact ⟨rfl, rfl⟩

/-- The evaluation of a zone put back where it stood. -/
theorem State.setZone_evaluated {z : Nat} (place : z < 12) (x : Zone) (t : State) :
    ((t.setZone z (some x)).evaluateZone z).zone z = some (t.evaluated x) := by
  rw [State.evaluateZone_same, State.zone_setZone_same _ _ _ place]
  rfl

theorem State.restarted_output {k : Nat} {o : Output} (low : 1 ≤ k) (found : s.output k = some o) :
    s.restarted.output k = some ((Output.idle o.cfg).evaluate s.restarted) := by
  unfold State.output at found ⊢
  rw [if_neg (by omega)] at found ⊢
  rw [State.restarted_outputs, mapTable_getElem?, mapTable_getElem?, found]
  rfl

theorem State.restarted_height (z : Nat) (same : (s.restarted.zone z).map Zone.stage = (s.zone z).map Zone.stage) :
    (s.restartStart.handChanges s.restartChanged).height z = s.restartStart.height z := by
  have start : (s.restartStart.zone z).map Zone.stage = (s.zone z).map Zone.stage := by
    rw [State.restartStart_zone, Option.map_map]
    rfl
  have height (t : State) : t.height z = (((t.zone z).map Zone.stage).map Stage.num).getD 0 := by
    unfold State.height
    rw [Option.map_map]
    rfl
  rw [height, height, ← State.restarted_zone, same, start]

/-- Where no zone's stage has risen, the Dispatch Queue and the notice unit keep all they hold (R201). -/
theorem State.restarted_rests (same : ∀ z, (s.restarted.zone z).map Zone.stage = (s.zone z).map Zone.stage) :
    s.restarted.dispatch = s.dispatch ∧ s.restarted.notices = s.notices := by
  obtain ⟨dispatch, notices⟩ := (State.handChanges_risesOrRests (changed := s.restartChanged) s.restartStart).2
    fun z => s.restarted_height z (same z)
  exact ⟨(s.restarted_field_handed State.dispatch).trans dispatch, (s.restarted_field_handed State.notices).trans notices⟩

/-- The sectors told in turn, as the statement writes them. -/
theorem State.restarted_told : s.restarted = { eachBelow 8 (s.tell s.restartChanged) s.restartStart with
    outputs := s.restarted.outputs } := by
  rw [← State.handChanges_told s.restartStart_configs]
  unfold State.restarted
  generalize s.restartStart.handChanges s.restartChanged = t
  rfl

end

end Sys2Proof.Machine

end

section
/-! RESTART settled (O38). -/

namespace Sys2Proof.Machine

section
variable (s : State)

/-- One sector of a RESTART tells the zones that list it, by the views of the sectors before and after. -/
def State.tellByViews (s u : State) (t : State) (j : Nat) : State :=
  if sectorView (u.sector j) = sectorView (s.sector j) then t else (List.range 12).foldl (fun v z => s.changeAt j z v) t

theorem State.tellByViews_eq (t : State) (j : Nat) : s.tellByViews s.restarted t j = s.tell s.restartChanged j t := by
  unfold State.tellByViews State.tell
  by_cases same : sectorView (s.restarted.sector j) = sectorView (s.sector j)
  · have still : ¬ s.restartChanged j = true := fun changed => (s.restarted_changed j).mp changed same
    rw [if_pos same, if_neg still]
  · rw [if_neg same, if_pos ((s.restarted_changed j).mpr same)]
    rfl

/-- The state the sectors are told from, written with the tables of the state the effect leaves. -/
def State.startedAs (s u : State) : State :=
  { s with
    cause := u.cause, valley := u.valley, stations := u.stations, lanes := u.lanes, sectors := u.sectors
    zones := mapEntries (fun (x : Zone) => { x with hold := x.hold.map (fun _ => x.cfg.holdDown) }) s.zones }

theorem State.restarted_stations :
    s.restarted.stations = mapEntries (fun (y : Station) => Station.afresh y.cfg y.counts) s.stations :=
  s.restarted_field State.stations

theorem State.restarted_cause : s.restarted.cause = { s.cause with warmCommand := true } :=
  s.restarted_field State.cause

theorem State.restarted_valley : s.restarted.valley =
    { s.valley with port := { s.valley.port with tx := none, sent := satInc s.valley.port.sent } } :=
  s.restarted_field State.valley

theorem State.restarted_lanes : s.restarted.lanes = mapEntries (fun (y : Lane) => Lane.fresh y.cfg) s.lanes :=
  s.restarted_field State.lanes

theorem State.startedAs_eq : s.startedAs s.restarted = s.restartStart := by
  unfold State.startedAs
  rw [s.restarted_field State.cause, s.restarted_field State.valley, s.restarted_field State.stations,
    s.restarted_field State.lanes, s.restarted_field State.sectors]
  rfl

theorem State.restarted_from : s.restarted = { (List.range 8).foldl (s.tellByViews s.restarted) (s.startedAs s.restarted) with
    outputs := s.restarted.outputs } := by
  have turn : s.tellByViews s.restarted = fun t j => s.tell s.restartChanged j t := by
    funext t j
    exact s.tellByViews_eq t j
  rw [turn, State.startedAs_eq]
  exact s.restarted_told

theorem State.restarted_only : s.restarted = { s with
    cause := s.restarted.cause, valley := s.restarted.valley, stations := s.restarted.stations, lanes := s.restarted.lanes
    sectors := s.restarted.sectors, zones := s.restarted.zones, dispatch := s.restarted.dispatch
    notices := s.restarted.notices, outputs := s.restarted.outputs } := by
  have layer := s.restarted_layer
  generalize s.restarted = u at layer
  rw [layer]
  rfl

end

/-- Settles O38: the effect leaves the state `State.restarted`. -/
theorem restartTakesEffectAtItsReply : Obligations.RestartTakesEffectAtItsReply := by
  unfold Obligations.RestartTakesEffectAtItsReply
  intro s₀ f s sending
  refine ⟨s.restarted, exec_transmitCompletion_restart sending, s.restarted_cause, s.restarted_valley,
    ?stations, ?lanes, ?parked, ?afresh, s.restarted_kept, fun z x loaded => ?zones,
    fun k low _ o found => s.restarted_output low found, s.restarted_rests, ?told, s.restarted_only⟩
  case stations =>
    intro i
    rw [State.station, s.restarted_stations, entryAt_mapEntries]
    rfl
  case lanes =>
    intro i
    rw [State.lane, s.restarted_lanes, entryAt_mapEntries]
    rfl
  case parked =>
    intro i x loaded parked
    rw [State.restarted_sector, State.restartStart_sector, Option.mem_def.mp loaded, Option.map_some]
    exact congrArg some (if_pos parked)
  case afresh =>
    intro i x loaded unparked
    rw [State.restarted_sector, State.restartStart_sector, Option.mem_def.mp loaded, Option.map_some]
    exact congrArg some (if_neg (by simp [unparked]))
  case zones =>
    obtain ⟨unmoved, moved⟩ := s.restarted_zone_cases loaded
    intro kept
    refine ⟨fun none => unmoved fun j listed => ?_, fun ⟨j, listed, changes⟩ => ?_⟩
    · rw [State.restartChanged_eq_false, ← State.restarted_sector]
      exact none j listed
    · refine (moved ⟨j, listed, (s.restarted_changed j).mpr changes⟩).trans ?_
      exact (State.setZone_evaluated (lt_of_entryAt loaded) x.restart s.restarted).symm
  case told =>
    clear_value s
    intro started told
    exact s.restarted_from

end Sys2Proof.Machine

end

section
/-! Proof of the statement on the checks of a command (R140 to R143, R195). -/

namespace Sys2Proof.Machine

/-! ## The step of a command -/

theorem exec_instr (c : Command) (src tag : Byte) (args : List Byte) (s : State) :
    exec (c.instr src tag args) s =
      .next (State.finish s.settle (s.settle.takeCommand c (bodyOf c src tag args) src tag args)) := by
  cases c <;> rfl

section
variable {c : Command} {body : State → Verdict} {src tag : Byte} {args : List Byte} {s : State}

theorem State.takeCommand_lost (full : 4 ≤ s.heldPlaces) : s.takeCommand c body src tag args = s.loseCommand src c.code :=
  if_pos full

theorem State.takeCommand_refused {o : Outcome} (place : s.heldPlaces < 4) (refused : earlyRefusal c src args s = some o) :
    s.takeCommand c body src tag args = s.reply src c.code tag o [] .nothing := by
  unfold State.takeCommand
  rw [if_neg (by omega), refused]

/-! ## The first check that fails (R141) -/

theorem earlyRefusal_badForm (length : args.length ≠ requiredLength c args) : earlyRefusal c src args s = some .badForm := by
  have wrong : lengthOk c args = false := decide_eq_false length
  unfold earlyRefusal
  rw [wrong]
  rfl

section
variable (length : args.length = requiredLength c args)
include length

/-- Check 3 passed, the next three decide. -/
theorem earlyRefusal_of_length : earlyRefusal c src args s =
    if !isReading c && !s.console.isEmpty && decide (src ∉ s.console) then some .notConsole
    else if !isReading c && s.save.isSome then some .busy
    else if !modeOk c args s.mode then some .mode
    else none := by
  have right : lengthOk c args = true := decide_eq_true length
  unfold earlyRefusal
  rw [right]
  rfl

theorem earlyRefusal_notConsole (writes : isReading c = false) (console : s.console ≠ []) (stranger : src ∉ s.console) :
    earlyRefusal c src args s = some .notConsole := by
  rw [earlyRefusal_of_length length, if_pos (by simp [writes, console, stranger])]

theorem earlyRefusal_busy (writes : isReading c = false) (permitted : s.console = [] ∨ src ∈ s.console)
    (saving : s.save ≠ none) : earlyRefusal c src args s = some .busy := by
  have known : (!isReading c && !s.console.isEmpty && decide (src ∉ s.console)) = false := by
    rcases permitted with open_ | listed
    · simp [open_]
    · simp [listed]
  rw [earlyRefusal_of_length length, known, if_neg Bool.false_ne_true,
    if_pos (by simp [writes, Option.isSome_iff_ne_none, saving])]

theorem earlyRefusal_mode
    (permitted : isReading c = true ∨ ((s.console = [] ∨ src ∈ s.console) ∧ s.save = none))
    (forbidden : modeOk c args s.mode = false) : earlyRefusal c src args s = some .mode := by
  have known : (!isReading c && !s.console.isEmpty && decide (src ∉ s.console)) = false := by
    rcases permitted with reads | ⟨open_ | listed, _⟩
    · simp [reads]
    · simp [open_]
    · simp [listed]
  have idle : (!isReading c && s.save.isSome) = false := by
    rcases permitted with reads | ⟨_, none⟩
    · simp [reads]
    · simp [none]
  rw [earlyRefusal_of_length length, known, idle, forbidden]
  rfl

end

end

theorem modeOk_eq_false_iff (c : Command) (args : List Byte) (m : Mode) : modeOk c args m = false ↔
    (c = .goWatch ∧ m ≠ .commissioning) ∨ (c = .goCommission ∧ m ≠ .watching) ∨ (c = .eraseTables ∧ m = .watching) ∨
      ((c = .parkStation ∨ c = .clearTrip ∨ c = .forceStage) ∧ m = .blank) ∨
      (c = .loadConsole ∧ m = .watching ∧ (args.getD 0 0).toNat = 0) := by
  unfold modeOk
  split
  case h_8 => simp_all
  all_goals simp [arg]

theorem State.heldPlaces_eq (s : State) : s.heldPlaces = s.replies.length + if s.save = none then 0 else 1 := by
  unfold State.heldPlaces
  cases s.save <;> rfl

/-- Settles O39: the checks in their order, and the table of the thirty-nine commands. -/
theorem commandsAreCheckedInOrder : Obligations.CommandsAreCheckedInOrder := by
  unfold Obligations.CommandsAreCheckedInOrder
  refine ⟨fun c src tag args s₀ => ?checks, modeOk_eq_false_iff, State.heldPlaces_eq, fun args => ?table,
    ⟨rfl, rfl, rfl, rfl, rfl, rfl, rfl, rfl, rfl, rfl⟩, fun code tag o data => replyPayload_of_short code tag o⟩
  case checks =>
    intro s
    have refused {o : Outcome} (place : s.heldPlaces < 4) (early : earlyRefusal c src args s = some o) :
        exec (c.instr src tag args) s₀ = .next (State.finish s (s.reply src c.code tag o [] .nothing)) := by
      rw [exec_instr, State.takeCommand_refused place early]
    refine ⟨fun full => ?_, fun place length => refused place (earlyRefusal_badForm length),
      fun place length writes console stranger => refused place (earlyRefusal_notConsole length writes console stranger),
      fun place length writes permitted saving => refused place (earlyRefusal_busy length writes permitted saving),
      fun place length permitted forbidden => refused place (earlyRefusal_mode length permitted forbidden)⟩
    rw [exec_instr, State.takeCommand_lost full]
    rfl
  case table =>
    intro n table c
    refine List.mem_of_getElem? (i := c.ctorIdx) ?_
    cases c <;> rfl

end Sys2Proof.Machine

end

section
/-! Proof of the statement on COMMAND frames (R12, R139, R140, R141 checks 1 and 2, R144). -/

namespace Sys2Proof.Machine

/-! ## Codes (R207) -/

theorem Command.ofCode_code (c : Command) : Command.ofCode c.code = some c := by
  cases c <;> decide

theorem Command.ofCode_eq_none {code : Byte} (unknown : ∀ c : Command, c.code ≠ code) : Command.ofCode code = none :=
  List.find?_eq_none.mpr fun c _ same => unknown c (of_decide_eq_true same)

/-! ## Payloads (R139) -/

section
variable {src : Byte} {s : State}

theorem State.takePayload_command (c : Command) (tag : Byte) (args : List Byte) :
    s.takePayload src (c.code :: tag :: args) = s.takeCommand c (bodyOf c src tag args) src tag args := by
  simp only [State.takePayload, Command.ofCode_code]

theorem State.takePayload_unknown {code tag : Byte} {args : List Byte} (unknown : ∀ c : Command, c.code ≠ code) :
    s.takePayload src (code :: tag :: args) = s.refuseForm src code tag .unknown := by
  simp only [State.takePayload, Command.ofCode_eq_none unknown]

theorem State.refuseForm_answered (place : s.heldPlaces < 4) (code tag : Byte) (o : Outcome) :
    s.refuseForm src code tag o = s.reply src code tag o [] .nothing := if_neg (by omega)

theorem State.refuseForm_lost (full : 4 ≤ s.heldPlaces) (code tag : Byte) (o : Outcome) :
    s.refuseForm src code tag o = s.loseCommand src code := if_pos full

end

theorem State.arrived_heldPlaces (p : PortId) (s : State) : (s.arrived p).heldPlaces = s.heldPlaces := by
  cases p <;> rfl

/-- A COMMAND frame for the part hands its payload to the command unit (R12). -/
theorem exec_commandFrame {f : Frame} {s : State} (good : GoodArrival .valley f s.settle)
    (ok : AddressesOk s.settle.node f) (dst : f.dst = s.settle.node) (kind : f.kind = 0x20) :
    exec (.frameReceived .valley f) s =
      .next (State.finish s.settle ((s.settle.arrived .valley).takePayload f.src f.payload)) := by
  refine exec_goodArrival good ?_
  have node : (s.settle.arrived .valley).node = s.settle.node := State.arrived_node ..
  rw [State.decideFrame_forPart (node.symm ▸ ok) (dst.trans node.symm), State.frameForPart_command kind]

/-- Settles O40: a payload with a known code is taken as its command is, and any other answered or lost. -/
theorem commandFramesCarryCommands : Obligations.CommandFramesCarryCommands := by
  unfold Obligations.CommandFramesCarryCommands
  intro f s₀ s good ok dst kind
  have taken : exec (.frameReceived .valley f) s₀ =
      .next (State.finish s ((s.arrived .valley).takePayload f.src f.payload)) :=
    exec_commandFrame (s := s₀) good ok dst kind
  clear_value s
  have held : (s.arrived .valley).heldPlaces = s.heldPlaces := s.arrived_heldPlaces .valley
  refine ⟨fun c tag args payload => ?command, fun place => ?answered, fun full code form => ?lost⟩
  case command =>
    refine ⟨(s.arrived .valley).takeCommand c (bodyOf c f.src tag args) f.src tag args, ?_, fun s₁ same => ?_⟩
    · rw [taken, payload, State.takePayload_command]
    · rw [exec_instr, same]
  case answered =>
    have answers (code tag : Byte) (o : Outcome) : (s.arrived .valley).refuseForm f.src code tag o =
        (s.arrived .valley).reply f.src code tag o [] .nothing :=
      State.refuseForm_answered (by rw [held]; exact place) code tag o
    refine ⟨fun payload => ?_, fun code payload => ?_, fun code tag args payload unknown => ?_⟩
    · rw [taken, payload, State.takePayload, answers]
      rfl
    · rw [taken, payload, State.takePayload, answers]
      rfl
    · rw [taken, payload, State.takePayload_unknown unknown, answers]
      rfl
  case lost =>
    have loses (tag : Byte) (o : Outcome) : (s.arrived .valley).refuseForm f.src code tag o =
        (s.arrived .valley).loseCommand f.src code :=
      State.refuseForm_lost (by rw [held]; exact full) code tag o
    have lost : (s.arrived .valley).takePayload f.src f.payload = (s.arrived .valley).loseCommand f.src code := by
      rcases form with ⟨empty, zero⟩ | single | ⟨tag, args, payload, unknown⟩
      · rw [empty, State.takePayload, ← zero, loses]
      · rw [single, State.takePayload, loses]
      · rw [payload, State.takePayload_unknown unknown, loses]
    rw [taken, lost]
    rfl

end Sys2Proof.Machine

end

section
/-! The bytes of the reading replies (R204, R207): each field the model encodes, as the statement spells it. -/

namespace Sys2Proof.Machine

/-! ## Fields (R204) -/

theorem optByte_eq (x : Option Nat) : optByte x = orFF x := by
  cases x <;> rfl

theorem optWord_eq (x : Option Nat) : optWord x = orFFFF x := by
  cases x <;> rfl

theorem flaggedWord_eq (x : Option Nat) : flaggedWord x = present x := by
  cases x <;> rfl

theorem timeBytes_eq (t : Option TimeStamp) : timeBytes t = timeOr t := by
  cases t <;> rfl

theorem contentsBytes_eq (x : Option Contents) : contentsBytes x = lastContents x := by
  cases x with
  | none => rfl
  | some c =>
    cases c with
    | sweep vs => rfl
    | pulse interval counts =>
      have same : flaggedWord = present := funext flaggedWord_eq
      unfold contentsBytes lastContents
      dsimp only
      rw [same]
      rfl
    | trip ws =>
      refine congrArg (List.cons 1) (List.map_congr_left fun w _ => ?_)
      cases w <;> rfl

theorem counted_single {α : Type} (enc : α → Byte) (xs : List α) :
    counted (fun x => [enc x]) xs = byteOf xs.length :: xs.map enc := by
  unfold counted
  rw [List.map_eq_flatMap]

/-- A set of bit numbers is one byte: its bits are the numbers below 8. -/
theorem maskByte_bit (first : Nat) (m : List Nat) {k : Nat} (low : k < 8) :
    (maskByte first m).getLsbD k = true ↔ first + k ∈ m := by
  unfold maskByte
  rw [setByte_getLsbD]
  simp [low]

/-- The pending flags as a class set: bit k is the flag of the class with the number k. -/
theorem pendingSet_bit (u : NoticeUnit) (k : Nat) : (pendingSet u).getLsbD k =
    ([u.stage, u.source, u.silence, u.delivery, u.trip, u.fault].map (fun x => x.detail.isSome)).getD k false := by
  have member (c : NoticeClass) : c.num ∈ (NoticeClass.all.filter (fun c => (u.get c).flag)).map NoticeClass.num ↔
      (u.get c).flag = true := by
    rw [List.mem_map]
    constructor
    · rintro ⟨d, flagged, number⟩
      have same : d = c := by
        revert number
        cases c <;> cases d <;> decide
      exact same ▸ (List.mem_filter.mp flagged).2
    · exact fun flagged => ⟨c, List.mem_filter.mpr ⟨c.mem_all, flagged⟩, rfl⟩
  have bit (c : NoticeClass) (low : c.num < 8) : (pendingSet u).getLsbD c.num = (u.get c).detail.isSome := by
    unfold pendingSet
    rw [setByte_getLsbD, Bool.eq_iff_iff]
    simp only [decide_eq_true_eq, member, low, true_and]
    rfl
  match k with
  | 0 => exact bit .stage (by decide)
  | 1 => exact bit .source (by decide)
  | 2 => exact bit .silence (by decide)
  | 3 => exact bit .delivery (by decide)
  | 4 => exact bit .trip (by decide)
  | 5 => exact bit .fault (by decide)
  | k + 6 =>
    have none : k + 6 ∉ (NoticeClass.all.filter (fun c => (u.get c).flag)).map NoticeClass.num := by
      rw [List.mem_map]
      rintro ⟨c, _, number⟩
      cases c <;> simp [NoticeClass.num] at number
    unfold pendingSet
    rw [setByte_getLsbD, decide_eq_false (fun h => none h.2)]
    rfl

/-! ## The GAP set of a minute ring (R204) -/

/-- The GAP entries of a ring as a set of bit numbers. -/
def gapSet : List (Option Nat) → Nat
  | [] => 0
  | none :: ring => 1 + 2 * gapSet ring
  | some _ :: ring => 2 * gapSet ring

theorem gapSet_testBit (ring : List (Option Nat)) (k : Nat) : (gapSet ring).testBit k = true ↔ ring[k]? = some none := by
  induction ring generalizing k with
  | nil => simp [gapSet]
  | cons e ring ih =>
    cases e with
    | none =>
      cases k with
      | zero => simp [gapSet, Nat.testBit_zero]
      | succ k =>
        rw [Nat.testBit_succ, List.getElem?_cons_succ, ← ih]
        have half : gapSet (none :: ring) / 2 = gapSet ring := by
          simp only [gapSet]
          omega
        rw [half]
    | some n =>
      cases k with
      | zero => simp [gapSet, Nat.testBit_zero]
      | succ k =>
        rw [Nat.testBit_succ, List.getElem?_cons_succ, ← ih]
        have half : gapSet (some n :: ring) / 2 = gapSet ring := by
          simp only [gapSet]
          omega
        rw [half]

theorem foldl_gaps (ring : List (Option Nat)) (n acc : Nat) :
    ((ring.zipIdx n).filter (fun p => p.1.isNone)).foldl (fun n p => n + 2 ^ p.2) acc = acc + 2 ^ n * gapSet ring := by
  induction ring generalizing n acc with
  | nil => simp [gapSet]
  | cons e rest ih =>
    rw [List.zipIdx_cons, List.filter_cons]
    cases e with
    | none =>
      rw [if_pos (show (none : Option Nat).isNone = true from rfl), List.foldl_cons, ih, gapSet]
      ring
    | some m =>
      rw [if_neg (show ¬ (some m).isNone = true from Bool.false_ne_true), ih, gapSet]
      ring

theorem ringBytes_eq (ring : List (Option Nat)) : ringBytes ring =
    byteOf ring.length :: (be16 (gapSet ring) ++ ring.flatMap (fun e => be16 (e.getD 0))) := by
  unfold ringBytes
  rw [foldl_gaps]
  simp

end Sys2Proof.Machine

end

section
/-! Proof of the statement on the reading commands (R144, R146, R152, R157, R160, R166, R169, R171, R173, R175). -/

namespace Sys2Proof.Machine

/-! ## The data of the entries (log 15, log 16) -/

section
variable {s : State}

theorem stationData_eq {i : Nat} {x : Station} (loaded : s.station i = some x) : stationData i s =
    x.cfg.bytes ++ [x.live.byte] ++ flaggedByte x.lastSeq ++ be16 (x.silence.getD 0) ++ timeBytes x.lastHeard ++
      contentsBytes x.contents ++ x.counts.bytes := by
  unfold stationData
  rw [loaded]

theorem StationCounts.bytes_eq (c : StationCounts) : c.bytes = c.list.flatMap be16 := rfl

theorem laneData_eq {i : Nat} {l : Lane} (loaded : s.lane i = some l) : laneData i s =
    be16 l.cfg.datum ++ [byteOf l.cfg.lossLimit, byteOf l.cfg.restoreCount] ++
      counted (fun (c : Candidate) => [byteOf c.station, byteOf c.sweepLane]) l.cfg.cands ++
      [boolByte l.valid, optByte l.tracked] ++
      [optByte (((l.tracked.bind (fun r => l.cfg.cands[r]?))).map Candidate.station),
       optByte (((l.tracked.bind (fun r => l.cfg.cands[r]?))).map Candidate.sweepLane)] ++
      optWord l.clearance ++ optWord l.fill ++ timeBytes l.valueTime ++ [byteOf l.loss] ++
      counted (fun n => [byteOf n]) l.credits := by
  unfold laneData
  rw [loaded]

theorem Lane.valid_byte (l : Lane) : boolByte l.valid = if l.tracked = none then 0 else 1 := by
  unfold Lane.valid boolByte
  cases l.tracked <;> rfl

theorem sectorData_eq {i : Nat} {x : Sector} (loaded : s.sector i = some x) (part : Nat) : sectorData i part s =
    if part = 0 then sectorPart0 x.cfg else if part = 1 then sectorPart1 x else sectorPart2 s x := by
  unfold sectorData
  rw [loaded]

theorem zoneData_eq {z : Nat} {x : Zone} (loaded : s.zone z = some x) : zoneData z s =
    counted (fun n => [byteOf n]) x.cfg.sectors ++ counted (fun a => [a]) x.cfg.sirens ++ [byteOf x.cfg.holdDown] ++
      be16 x.cfg.repeatInterval ++ [byteOf x.cfg.tries, byteOf x.cfg.refresh, x.stage.byte, x.computed.byte] ++
      [optByte (x.force.map (fun f => f.stage.num))] ++ optWord (x.force.map Force.left) ++ [x.target.byte] ++
      optWord x.hold ++ [x.serial, x.causes.byte, optByte x.peakSector] ++ optWord x.refreshCd ++ be16 x.undispatched := by
  unfold zoneData
  rw [loaded]

theorem outputData_eq {k : Nat} {o : Output} (found : s.output k = some o) : outputData k s =
    [byteOf o.cfg.code, byteOf o.cfg.argIndex, o.cfg.argStage.byte] ++ o.cfg.written.bytes ++ o.working.bytes ++
      [boolByte o.condition, optByte o.inUse] ++ optWord o.phase ++ [boolByte o.closed] := by
  unfold outputData
  rw [found]

end

theorem sectorPart0_eq (c : SectorConfig) : sectorPart0 c =
    [byteOf c.first, byteOf c.count, byteOf c.quorum] ++ c.rise.bytes ++ c.fall.bytes ++ be16 c.blindDelay ++
      [byteOf c.rapidSpan] ++ be16 c.rapidLimit ++
      [orFF (c.pulse.map PulseLink.station), ((c.pulse.map (fun p => byteOf p.channel)).getD 0), byteOf c.binLength,
        byteOf c.surgeSpan] ++ be16 c.surgeLimit ++
      be16 c.surgeRelease ++ [byteOf c.trips.length] ++
      c.trips.flatMap (fun k => [byteOf k.station, byteOf k.wire]) ++ [yesNo c.parked] := by
  unfold sectorPart0
  rw [optByte_eq]
  simp [counted, boolByte, yesNo]

theorem sectorPart1_eq (x : Sector) : sectorPart1 x =
    byteOf x.valid :: [x.rise.watch, x.rise.prepare, x.rise.evacuate, x.hold.watch,
        x.hold.prepare, x.hold.evacuate].map (maskByte x.cfg.first) ++
      [byteOf x.level.num, orFF (x.peak.map Peak.lane)] ++ orFFFF (x.peak.map Peak.fill) ++ be16 x.index ++
      orFFFF x.blindCd ++ [yesNo x.blind, byteOf x.ring.length] ++ be16 (gapSet x.ring) ++
      x.ring.flatMap (fun e => be16 (e.getD 0)) ++ present x.lastRise ++
      [yesNo x.rapid, byteOf x.stage.num, x.causes.byte] := by
  unfold sectorPart1
  rw [optByte_eq, optWord_eq, optWord_eq, flaggedWord_eq, ringBytes_eq]
  simp [Masks.bytes, Stage.byte, boolByte, yesNo]

theorem sectorPart2_eq (s : State) (x : Sector) : sectorPart2 s x =
    [byteOf x.bins.length] ++ x.bins.flatMap be16 ++ orFFFF x.binCd ++ be16 x.window ++
      [yesNo x.surge, byteOf x.cfg.trips.length] ++ x.cfg.trips.map (fun k => (readLink s k).byte) ++
      [yesNo x.tripFault, boolByte x.latched] ++ (x.trip.map TripRecord.bytes).getD [] := by
  unfold sectorPart2
  rw [optWord_eq, counted_single]
  simp [counted, boolByte, yesNo]

/-- The bytes of READ STATION, READ LANE, READ SECTOR, READ ZONE and READ OUTPUT (R204). -/
theorem entryData_holds (s : State) : EntryData s := by
  unfold EntryData
  refine ⟨fun i x loaded => ?station, fun i l loaded => ?lane, fun i x loaded => ⟨?part0, ?part1, fun part late => ?part2⟩,
    fun z x loaded => ?zone, fun k o found => ?output⟩
  case station =>
    rw [stationData_eq loaded, timeBytes_eq, contentsBytes_eq, StationCounts.bytes_eq]
    simp only [StationConfig.bytes, List.append_assoc, List.cons_append, List.nil_append]
    cases x.lastSeq with
    | none => rfl
    | some q => rfl
  case lane =>
    intro c
    rw [laneData_eq loaded, timeBytes_eq, optWord_eq, optWord_eq, optByte_eq, optByte_eq, optByte_eq, counted_single,
      Lane.valid_byte]
    simp [counted, c]
  case part0 =>
    refine ⟨(x.cfg.pulse.map (fun p => byteOf p.channel)).getD 0, fun k link => ?_, ?_⟩
    · rw [Option.mem_def.mp link]
      rfl
    · rw [sectorData_eq loaded, if_pos rfl, sectorPart0_eq]
      rfl
  case part1 =>
    refine ⟨maskByte x.cfg.first, gapSet x.ring, fun m k low => maskByte_bit _ m low, fun k _ => gapSet_testBit _ k, ?_⟩
    rw [sectorData_eq loaded, if_neg (by decide), if_pos rfl, sectorPart1_eq]
  case part2 =>
    rw [sectorData_eq loaded, if_neg (by omega), if_neg (by omega), sectorPart2_eq]
    have latch : boolByte x.latched = if x.trip = none then 0 else 1 := by
      unfold Sector.latched boolByte
      cases x.trip <;> rfl
    rw [latch]
    simp only [List.append_assoc, List.cons_append, List.nil_append]
    cases x.trip with
    | none => rfl
    | some r => rfl
  case zone =>
    rw [zoneData_eq loaded, counted_single, optWord_eq, optWord_eq, optWord_eq, optByte_eq, optByte_eq]
    simp [counted, Stage.byte]
  case output =>
    intro three
    rw [outputData_eq found, optByte_eq, optWord_eq]
    simp [three, Cadences.bytes, Stage.byte, boolByte, yesNo]

end Sys2Proof.Machine

end

section
/-! The reading commands themselves, and the replies that R207 lays out (O41). -/

namespace Sys2Proof.Machine

/-! ## The data that R207 lays out -/

theorem identData_eq (s : State) : identData s =
    [0x41, 0x20, s.node, byteOf s.rate.val, s.mode.byte, if s.save = none then 0 else 1, byteOf s.console.length] ++
      s.console := by
  have saving : boolByte s.save.isSome = if s.save = none then 0 else 1 := by
    cases s.save <;> rfl
  unfold identData
  rw [saving]
  simp [counted]

theorem noticesData_eq (c : NoticeClass) (u : NoticeUnit) : noticesData c u =
    [byteOf c.num, if (u.get c).enable then 1 else 0] ++ (noticePayload c u).drop 1 ++ [pendingSet u] ++ be16 u.period := by
  unfold noticesData noticePayload
  simp [boolByte]

theorem dispatchData_none {pos : Nat} {s : State} (beyond : s.dispatch.queue[pos]? = none) :
    dispatchData pos s = [byteOf s.dispatch.queue.length] := by
  unfold dispatchData
  rw [beyond]
  rfl

theorem dispatchData_some {pos : Nat} {e : Entry} {s : State} (here : s.dispatch.queue[pos]? = some e) :
    dispatchData pos s = byteOf s.dispatch.queue.length :: byteOf pos :: e.bytes := by
  unfold dispatchData
  rw [here]
  rfl

theorem SirenRecord.bytes_eq (r : SirenRecord) : r.bytes = [r.addr, r.state.byte, byteOf r.tries] ++ orFFFF r.cd := by
  unfold SirenRecord.bytes
  rw [optWord_eq]

theorem Entry.bytes_eq (e : Entry) : e.bytes =
    [byteOf e.zone, e.serial, byteOf e.stage.num, e.causes.byte, if e.refresh then 1 else 0, orFF e.peakSector,
      orFF (e.peak.map Peak.lane)] ++ orFFFF (e.peak.map Peak.fill) ++ be16 e.index ++ e.created.bytes ++
      [byteOf e.records.length] ++ e.records.flatMap SirenRecord.bytes := by
  unfold Entry.bytes
  rw [optByte_eq, optByte_eq, optWord_eq]
  simp [counted, Stage.byte, Entry.flags, boolByte]

theorem reportData_holds (s : State) : ReportData s := by
  unfold ReportData
  refine ⟨identData_eq s, fun c u => ⟨pendingSet u, noticesData_eq c u, pendingSet_bit u⟩, fun p q port => ?ports, rfl, ?part,
    fun i x loaded => ?station, fun pos => ?dispatch⟩
  case ports =>
    rcases port with ⟨rfl, rfl⟩ | ⟨rfl, rfl⟩
    · rfl
    · rfl
  case part =>
    simp [partCountsData]
  case station =>
    unfold stationCountsData
    rw [loaded]
    rfl
  case dispatch =>
    cases here : s.dispatch.queue[pos]? with
    | none => exact dispatchData_none here
    | some e =>
      have records : e.records.flatMap SirenRecord.bytes =
          e.records.flatMap (fun r => [r.addr, r.state.byte, byteOf r.tries] ++ orFFFF r.cd) :=
        congrArg (fun f => e.records.flatMap f) (funext SirenRecord.bytes_eq)
      rw [dispatchData_some here, Entry.bytes_eq, records]
      rfl

/-! ## The commands (R144) -/

/-- An admitted command is answered by its body (R140, R141). -/
theorem exec_admitted {c : Command} {src tag : Byte} {args : List Byte} {s : State} (admitted : Admitted c src args s.settle) :
    exec (c.instr src tag args) s =
      .next (State.finish s.settle (s.settle.answer src c.code tag (bodyOf c src tag args s.settle))) := by
  rw [exec_instr, State.takeCommand_admitted admitted]

section
variable {c : Command} {src tag : Byte} {args : List Byte} {s : State} (admitted : Admitted c src args s.settle)
include admitted

theorem exec_reads {data : List Byte} (body : bodyOf c src tag args s.settle = reading data s.settle) :
    exec (c.instr src tag args) s =
      .next (State.finish s.settle (s.settle.reply src c.code tag .done data .nothing)) := by
  rw [exec_admitted admitted, body]
  rfl

theorem exec_writes {t : State} (body : bodyOf c src tag args s.settle = written t) :
    exec (c.instr src tag args) s =
      .next (State.finish s.settle (t.reply src c.code tag .done [] .nothing)) := by
  rw [exec_admitted admitted, body]
  rfl

theorem exec_refuses {o : Outcome} {data : List Byte} (body : bodyOf c src tag args s.settle = .refuse o data) :
    exec (c.instr src tag args) s =
      .next (State.finish s.settle (s.settle.reply src c.code tag o data .nothing)) := by
  rw [exec_admitted admitted, body]
  rfl

end

theorem NoticeClass.ofNum_num (c : NoticeClass) : NoticeClass.ofNum c.num = some c := by
  cases c <;> rfl

theorem NoticeClass.ofNum_big {n : Nat} (big : 6 ≤ n) : NoticeClass.ofNum n = none := by
  obtain ⟨k, rfl⟩ := Nat.exists_eq_add_of_le' big
  rfl

theorem selectorArgs_station {i : Nat} (low : i < 16) : selectorArgs (16 + i) = some (.station i) := by
  have beyond : selectorArgs (16 + i) = if inRange 16 31 (16 + i) then some (.station (16 + i - 16)) else none := by
    rw [Nat.add_comm]
    rfl
  rw [beyond, if_pos (inRange_iff.mpr (by omega)), Nat.add_sub_cancel_left]

theorem selectorArgs_none {n : Nat} (outside : 4 ≤ n ∧ n < 16 ∨ 32 ≤ n) : selectorArgs n = none := by
  obtain ⟨k, rfl⟩ := Nat.exists_eq_add_of_le' (show 4 ≤ n by omega)
  have beyond : selectorArgs (k + 4) = if inRange 16 31 (k + 4) then some (.station (k + 4 - 16)) else none := rfl
  rw [beyond, inRange_eq_false_iff.mpr (by omega)]
  rfl

theorem bodyReadNotices_class {args : List Byte} {c : NoticeClass} {s : State}
    (number : NoticeClass.ofNum (arg args 0) = some c) : bodyReadNotices args s = reading (noticesData c s.notices) s := by
  unfold bodyReadNotices
  rw [number]

theorem bodyReadNotices_none {args : List Byte} {s : State} (none : NoticeClass.ofNum (arg args 0) = .none) :
    bodyReadNotices args s = .refuse .range [] := by
  unfold bodyReadNotices
  rw [none]

theorem bodyReadCounters_group {args : List Byte} {g : CounterGroup} {s : State}
    (group : selectorArgs (arg args 0) = some g) : bodyReadCounters args s = reading (groupData g s) s := by
  unfold bodyReadCounters
  rw [group]

theorem bodyReadCounters_none {args : List Byte} {s : State} (none : selectorArgs (arg args 0) = .none) :
    bodyReadCounters args s = .refuse .range [] := by
  unfold bodyReadCounters
  rw [none]

/-- Settles O41: each reading command answers its data in range and RANGE out of it. -/
theorem readingCommandsReportTheirData : Obligations.ReadingCommandsReportTheirData := by
  unfold Obligations.ReadingCommandsReportTheirData
  intro src tag args s₀ s done range
  have reads (c : Command) {data : List Byte} (admitted : Admitted c src args s)
      (body : bodyOf c src tag args s = reading data s) : exec (c.instr src tag args) s₀ = done c.code data :=
    exec_reads (s := s₀) admitted body
  have refuses (c : Command) (admitted : Admitted c src args s) (body : bodyOf c src tag args s = .refuse .range []) :
      exec (c.instr src tag args) s₀ = range c.code := exec_refuses (s := s₀) admitted body
  refine ⟨fun admitted => reads .readIdent admitted rfl,
    fun admitted => ⟨fun low => reads .readStation admitted (if_neg (by omega)),
      fun high => refuses .readStation admitted (if_pos high)⟩,
    fun admitted => ⟨fun low => reads .readLane admitted (if_neg (by omega)),
      fun high => refuses .readLane admitted (if_pos high)⟩,
    fun admitted => ⟨fun low part => reads .readSector admitted (if_neg (by omega)),
      fun high => refuses .readSector admitted (if_pos high)⟩,
    fun admitted => ⟨fun low => reads .readZone admitted (if_neg (by omega)),
      fun high => refuses .readZone admitted (if_pos high)⟩,
    fun admitted => ⟨fun low => reads .readDispatch admitted (if_neg (by omega)),
      fun high => refuses .readDispatch admitted (if_pos high)⟩,
    fun admitted => ⟨fun low high => reads .readOutput admitted (if_pos (inRange_iff.mpr ⟨low, high⟩)),
      fun outside => refuses .readOutput admitted (if_neg (by rw [inRange_eq_false_iff.mpr (by omega)]; exact Bool.false_ne_true))⟩,
    fun admitted => ⟨fun c number => ?class_, fun big => ?noClass⟩,
    fun admitted => ⟨fun number => ?crestA, fun number => ?crestB, fun number => ?valley, fun number => ?part,
      fun i low number => ?station, fun outside => ?noGroup⟩,
    reportData_holds s, entryData_holds s, fun i vacant => ?stationVacant, fun i vacant => ?laneVacant,
    fun i part vacant => ?sectorVacant, fun z vacant => ?zoneVacant⟩
  case class_ =>
    exact reads .readNotices admitted <| bodyReadNotices_class (by rw [number, NoticeClass.ofNum_num])
  case noClass =>
    exact refuses .readNotices admitted <| bodyReadNotices_none (NoticeClass.ofNum_big big)
  case crestA => exact reads .readCounters admitted (bodyReadCounters_group (g := .port .crestA) (by rw [number]; rfl))
  case crestB => exact reads .readCounters admitted (bodyReadCounters_group (g := .port .crestB) (by rw [number]; rfl))
  case valley => exact reads .readCounters admitted (bodyReadCounters_group (g := .port .valley) (by rw [number]; rfl))
  case part => exact reads .readCounters admitted (bodyReadCounters_group (g := .part) (by rw [number]; rfl))
  case station =>
    exact reads .readCounters admitted (bodyReadCounters_group (g := .station i)
      (by rw [number]; exact selectorArgs_station low))
  case noGroup => exact refuses .readCounters admitted (bodyReadCounters_none (selectorArgs_none outside))
  case stationVacant =>
    unfold stationData stationCountsData
    rw [vacant]
    exact ⟨rfl, rfl⟩
  case laneVacant =>
    unfold laneData
    rw [vacant]
    rfl
  case sectorVacant =>
    unfold sectorData
    rw [vacant]
    rfl
  case zoneVacant =>
    unfold zoneData
    rw [vacant]
    rfl

end Sys2Proof.Machine

end

section
/-! What the writing commands share: bytes that read back, the check of the tables, and the move out of BLANK. -/

namespace Sys2Proof.Machine

/-! ## Bytes that read back (R203) -/

theorem byteOf_byte (a : Byte) : byteOf a.toNat = a := by
  refine BitVec.eq_of_toNat_eq (byteOf_toNat ?_)
  have := a.isLt
  omega

theorem be16_bytes (a b : Byte) : be16 (a.toNat * 256 + b.toNat) = [a, b] := by
  have high := a.isLt
  have low := b.isLt
  have first : (a.toNat * 256 + b.toNat) / 256 = a.toNat := by omega
  have second : byteOf (a.toNat * 256 + b.toNat) = b := by
    refine BitVec.eq_of_toNat_eq ?_
    simp only [byteOf, BitVec.toNat_ofNat]
    omega
  unfold be16
  rw [first, second, byteOf_byte]

theorem arg_lt (args : List Byte) (i : Nat) : arg args i < 256 := (args.getD i 0).isLt

theorem arg_single {i : Nat} (low : i ≤ 255) : arg [byteOf i] 0 = i := byteOf_toNat low

theorem arg_byte (a : Byte) : arg [a] 0 = a.toNat := rfl

theorem byte_eq_of_toNat {a : Byte} {n : Nat} (same : a.toNat = n) : a = byteOf n := by
  rw [← same, byteOf_byte]

/-- An admitted command has an argument block of its length (R141 check 3). -/
theorem Admitted.length {c : Command} {src : Byte} {args : List Byte} {s : State} (admitted : Admitted c src args s) :
    args.length = requiredLength c args := by
  obtain ⟨_, length, _⟩ := admitted
  exact length

/-! ## The check of the tables (R141 check 10, R145) -/

section
variable {s after result : State}

theorem checkedWrite_consistent (consistent : StaysConsistent s after) : checkedWrite s after result = written result := by
  have passes : s.writeFailure after = none := by
    unfold State.writeFailure
    split
    case isTrue watching => exact consistent watching
    case isFalse => rfl
  unfold checkedWrite
  rw [passes]

theorem checkedWrite_fails {data : List Byte} (watching : s.mode = .watching) (fails : after.firstFailure = some data) :
    checkedWrite s after result = .refuse .incomplete data := by
  have failure : s.writeFailure after = some data := by
    unfold State.writeFailure
    rw [if_pos watching, fails]
  unfold checkedWrite
  rw [failure]

end

/-- The move out of BLANK (R195). -/
theorem State.leaveBlank_eq (s : State) :
    s.leaveBlank = { s with mode := if s.mode = Mode.blank then Mode.commissioning else s.mode } := by
  unfold State.leaveBlank
  split
  · rfl
  · rfl

/-! ## An entry written with what it holds -/

theorem setIfInBounds_entryAt {α : Type} {n i : Nat} {x : Option α} {v : Vector (Option α) n} (here : entryAt v i = x) :
    v.setIfInBounds i x = v := by
  refine Vector.ext fun j small => ?_
  rw [Vector.getElem_setIfInBounds]
  split
  next same =>
    subst same
    unfold entryAt at here
    rw [Vector.getElem?_eq_getElem small] at here
    exact here.symm
  · rfl

theorem State.setStation_self {i : Nat} {x : Option Station} {s : State} (here : s.station i = x) : s.setStation i x = s :=
  congrArg (fun v => { s with stations := v }) (setIfInBounds_entryAt here)

theorem State.setLane_self {i : Nat} {x : Option Lane} {s : State} (here : s.lane i = x) : s.setLane i x = s :=
  congrArg (fun v => { s with lanes := v }) (setIfInBounds_entryAt here)

theorem State.setSector_self {i : Nat} {x : Option Sector} {s : State} (here : s.sector i = x) : s.setSector i x = s :=
  congrArg (fun v => { s with sectors := v }) (setIfInBounds_entryAt here)

theorem State.setZone_self {z : Nat} {x : Option Zone} {s : State} (here : s.zone z = x) : s.setZone z x = s :=
  congrArg (fun v => { s with zones := v }) (setIfInBounds_entryAt here)

end Sys2Proof.Machine

end

section
/-! Proof of the statement on the station commands that write (R41 to R44, R150, R151, R153, R154). -/

namespace Sys2Proof.Machine

/-! ## The block of LOAD STATION (R150, R208) -/

theorem sideArgs_byte (p : Side) : sideArgs (sideByte p).toNat = some p := by
  cases p <;> rfl

theorem sideArgs_some {a : Byte} {p : Side} (read : sideArgs a.toNat = some p) : a = sideByte p := by
  unfold sideArgs at read
  split at read
  case h_1 zero =>
    cases read
    exact byte_eq_of_toNat zero
  case h_2 one =>
    cases read
    exact byte_eq_of_toNat one
  case h_3 => cases read

/-- The ranges of R30 on a class. -/
def StationClass.Legal : StationClass → Prop
  | .sweep n => 1 ≤ n ∧ n ≤ 8
  | .pulse n => 1 ≤ n ∧ n ≤ 4
  | .trip n => 1 ≤ n ∧ n ≤ 8

theorem classArgs_some {a b : Byte} {c : StationClass} (read : classArgs a.toNat b.toNat = some c) :
    c.bytes = [a, b] ∧ c.Legal := by
  unfold classArgs at read
  split at read
  case h_1 code =>
    split at read
    case isTrue inside =>
      cases read
      rw [byte_eq_of_toNat code]
      exact ⟨congrArg (fun d => [0, d]) (byteOf_byte b), inRange_iff.mp inside⟩
    case isFalse => cases read
  case h_2 code =>
    split at read
    case isTrue inside =>
      cases read
      rw [byte_eq_of_toNat code]
      exact ⟨congrArg (fun d => [1, d]) (byteOf_byte b), inRange_iff.mp inside⟩
    case isFalse => cases read
  case h_3 code =>
    split at read
    case isTrue inside =>
      cases read
      rw [byte_eq_of_toNat code]
      exact ⟨congrArg (fun d => [2, d]) (byteOf_byte b), inRange_iff.mp inside⟩
    case isFalse => cases read
  case h_4 => cases read

/-- A class in range is two bytes that read back. -/
theorem StationClass.Legal.bytes {c : StationClass} (legal : c.Legal) :
    ∃ a b, c.bytes = [a, b] ∧ classArgs a.toNat b.toNat = some c := by
  cases c with
  | sweep n =>
    have count : (byteOf n).toNat = n := byteOf_toNat (legal.2.trans (by decide))
    exact ⟨0, byteOf n, rfl, (congrArg (classArgs 0) count).trans (if_pos (inRange_iff.mpr legal))⟩
  | pulse n =>
    have count : (byteOf n).toNat = n := byteOf_toNat (legal.2.trans (by decide))
    exact ⟨1, byteOf n, rfl, (congrArg (classArgs 1) count).trans (if_pos (inRange_iff.mpr legal))⟩
  | trip n =>
    have count : (byteOf n).toNat = n := byteOf_toNat (legal.2.trans (by decide))
    exact ⟨2, byteOf n, rfl, (congrArg (classArgs 2) count).trans (if_pos (inRange_iff.mpr legal))⟩

theorem StationConfig.legal_iff {c : StationConfig} : c.Legal ↔ c.addr ≠ 0 ∧ c.addr ≠ 255 ∧ 10 ≤ c.limit ∧ c.limit ≤ 3600 ∧
    c.divisor ≤ 255 ∧ c.parked = false ∧ c.cls.Legal := by
  unfold StationConfig.Legal
  cases c.cls <;> exact Iff.rfl

theorem byte_ne_zero {a : Byte} : a ≠ 0 ↔ 1 ≤ a.toNat := by
  bv_omega

theorem byte_ne_last {a : Byte} : a ≠ 255 ↔ a.toNat ≤ 254 := by
  bv_omega

theorem stationArgs_block {i : Nat} (place : i < 16) {c : StationConfig} (legal : c.Legal) :
    stationArgs (stationBlock i c) = some c := by
  obtain ⟨first, last, low, high, divisor, parked, cls⟩ := StationConfig.legal_iff.mp legal
  obtain ⟨a, b, bytes, classRead⟩ := cls.bytes
  have block : stationBlock i c =
      [byteOf i, c.addr, sideByte c.port, a, b, byteOf (c.limit / 256), byteOf c.limit, byteOf c.divisor] := by
    unfold stationBlock
    rw [bytes]
    rfl
  have limit : arg16 (stationBlock i c) 5 = c.limit := by
    rw [block]
    exact word16_be16 (by omega)
  have index : arg (stationBlock i c) 0 = i := by
    rw [block]
    exact byteOf_toNat (by omega)
  have div : arg (stationBlock i c) 7 = c.divisor := by
    rw [block]
    exact byteOf_toNat divisor
  have side : sideArgs (arg (stationBlock i c) 2) = some c.port := by
    rw [block]
    exact sideArgs_byte c.port
  have cls : classArgs (arg (stationBlock i c) 3) (arg (stationBlock i c) 4) = some c.cls := by
    rw [block]
    exact classRead
  have addr : (stationBlock i c).getD 1 0 = c.addr := by
    rw [block]
    rfl
  have address : inRange 1 254 (arg (stationBlock i c) 1) = true := by
    unfold arg
    rw [addr]
    exact inRange_iff.mpr ⟨byte_ne_zero.mp first, byte_ne_last.mp last⟩
  unfold stationArgs
  rw [side, cls]
  dsimp only
  rw [limit, index, div, addr, address, inRange_iff.mpr ⟨low, high⟩, decide_eq_true place, ← parked]
  rfl

/-- A block that reads back is the block of what it reads back as. -/
theorem stationArgs_some {args : List Byte} {c : StationConfig} (length : args.length = 8)
    (read : stationArgs args = some c) : arg args 0 < 16 ∧ c.Legal ∧ args = stationBlock (arg args 0) c := by
  match args, length with
  | [a₀, a₁, a₂, a₃, a₄, a₅, a₆, a₇], _ =>
    unfold stationArgs at read
    split at read
    case h_1 p cls side classRead =>
      split at read
      case isTrue inside =>
        cases read
        simp only [Bool.and_eq_true, decide_eq_true_eq, inRange_iff] at inside
        obtain ⟨⟨place, address⟩, limit⟩ := inside
        obtain ⟨bytes, legal⟩ := classArgs_some classRead
        refine ⟨place, StationConfig.legal_iff.mpr ⟨byte_ne_zero.mpr address.1, byte_ne_last.mpr address.2, limit.1, limit.2,
          Nat.le_of_lt_succ (arg_lt _ 7), rfl, legal⟩, ?_⟩
        have index : byteOf a₀.toNat = a₀ := byteOf_byte a₀
        have word : be16 (a₅.toNat * 256 + a₆.toNat) = [a₅, a₆] := be16_bytes a₅ a₆
        have divisor : byteOf a₇.toNat = a₇ := byteOf_byte a₇
        show _ = [byteOf a₀.toNat, a₁, sideByte p] ++ cls.bytes ++ be16 (a₅.toNat * 256 + a₆.toNat) ++ [byteOf a₇.toNat]
        rw [index, word, divisor, bytes, ← sideArgs_some side]
        rfl
      case isFalse => cases read
    case h_2 => cases read

/-! ## The other entries (R150) -/

theorem addressTaken_eq_false_iff {s : State} {i : Nat} {a : Byte} :
    addressTaken s i a = false ↔ OnlyStation i a s := by
  unfold addressTaken OnlyStation
  rw [List.any_eq_false]
  constructor
  · intro none j inside other y loaded same
    refine none j (List.mem_range.mpr inside) ?_
    rw [Option.mem_def.mp loaded, Option.map_some, same]
    simp [other]
  · intro only j inside taken
    simp only [Bool.and_eq_true, decide_eq_true_eq] at taken
    obtain ⟨y, loaded, same⟩ := Option.map_eq_some_iff.mp taken.2
    exact only j (List.mem_range.mp inside) taken.1 y loaded same

theorem stationParked_eq_false {s : State} {i : Nat} (unparked : ∀ x ∈ s.station i, x.cfg.parked = false) :
    stationParked s i = false := by
  unfold stationParked
  cases loaded : s.station i with
  | none => rfl
  | some x => exact unparked x loaded

theorem stationParked_eq_true {s : State} {i : Nat} {x : Station} (loaded : s.station i = some x)
    (parked : x.cfg.parked = true) : stationParked s i = true := by
  unfold stationParked
  rw [loaded]
  exact parked

end Sys2Proof.Machine

end

section
/-! The station commands, each at its checks and its execution (O43). -/

namespace Sys2Proof.Machine

/-! ## LOAD STATION -/

theorem bodyLoadStation_unread {args : List Byte} {s : State} (unread : stationArgs args = none) :
    bodyLoadStation args s = .refuse .range [] := by
  unfold bodyLoadStation
  dsimp only
  rw [unread]

section
variable {args : List Byte} {i : Nat} {s : State} {c : StationConfig} (index : arg args 0 = i)
  (read : stationArgs args = some c)
include index read

/-- LOAD STATION on arguments in range. -/
theorem bodyLoadStation_read : bodyLoadStation args s =
    if decide (c.addr = s.node) || addressTaken s i c.addr then .refuse .range []
    else if stationParked s i then .refuse .parked []
    else checkedWrite s (s.setStation i (some (Station.afresh c StationCounts.zero))) (s.leaveBlank.writeStation i c) := by
  unfold bodyLoadStation
  dsimp only
  rw [read, index]

theorem bodyLoadStation_taken (taken : c.addr = s.node ∨ ¬ OnlyStation i c.addr s) :
    bodyLoadStation args s = .refuse .range [] := by
  rw [bodyLoadStation_read index read, if_pos]
  rcases taken with own | other
  · rw [decide_eq_true own, Bool.true_or]
  · have held : addressTaken s i c.addr = true :=
      Bool.of_not_eq_false fun free => other (addressTaken_eq_false_iff.mp free)
    rw [held, Bool.or_true]

variable (foreign : c.addr ≠ s.node) (only : OnlyStation i c.addr s)
include foreign only

theorem bodyLoadStation_free : bodyLoadStation args s =
    if stationParked s i then .refuse .parked []
    else checkedWrite s (s.setStation i (some (Station.afresh c StationCounts.zero))) (s.leaveBlank.writeStation i c) := by
  rw [bodyLoadStation_read index read, decide_eq_false foreign, addressTaken_eq_false_iff.mpr only]
  rfl

theorem bodyLoadStation_parked {x : Station} (loaded : s.station i = some x) (parked : x.cfg.parked = true) :
    bodyLoadStation args s = .refuse .parked [] := by
  rw [bodyLoadStation_free index read foreign only, stationParked_eq_true loaded parked]
  rfl

theorem bodyLoadStation_unparked (unparked : ∀ x ∈ s.station i, x.cfg.parked = false) : bodyLoadStation args s =
    checkedWrite s (s.setStation i (some (Station.afresh c StationCounts.zero))) (s.leaveBlank.writeStation i c) := by
  rw [bodyLoadStation_free index read foreign only, stationParked_eq_false unparked]
  rfl

end

/-- A station loaded afresh (R31, R41). -/
def Station.start (c : StationConfig) : Station :=
  { cfg := c, live := .absent, lastSeq := none, silence := some c.limit, lastHeard := none, contents := none
    phase := 0, counts := StationCounts.zero }

theorem Station.afresh_unparked {c : StationConfig} (unparked : c.parked = false) :
    Station.afresh c StationCounts.zero = Station.start c := by
  unfold Station.afresh
  rw [unparked]
  rfl

/-! ## CLEAR STATION, PARK STATION, UNPARK STATION -/

section
variable {args : List Byte} {i : Nat} {s : State} (index : arg args 0 = i)
include index

theorem bodyClearStation_outside (outside : 16 ≤ i) : bodyClearStation args s = .refuse .range [] :=
  if_pos (index ▸ outside)

theorem bodyClearStation_inside (inside : i < 16) : bodyClearStation args s =
    if stationParked s i then .refuse .parked [] else checkedWrite s (s.setStation i none) (s.clearStationEntry i) := by
  subst index
  exact if_neg (Nat.not_le_of_lt inside)

theorem bodyClearStation_parked {x : Station} (loaded : s.station i = some x) (parked : x.cfg.parked = true) :
    bodyClearStation args s = .refuse .parked [] := by
  rw [bodyClearStation_inside index (lt_of_entryAt loaded), if_pos (stationParked_eq_true loaded parked)]

theorem bodyClearStation_unparked (inside : i < 16) (unparked : ∀ x ∈ s.station i, x.cfg.parked = false) :
    bodyClearStation args s = checkedWrite s (s.setStation i none) (s.clearStationEntry i) := by
  rw [bodyClearStation_inside index inside, stationParked_eq_false unparked]
  rfl

theorem bodyParkStation_vacant (vacant : s.station i = none) : bodyParkStation args s = .refuse .range [] := by
  unfold bodyParkStation
  rw [index, vacant]

theorem bodyParkStation_loaded {x : Station} (loaded : s.station i = some x) :
    bodyParkStation args s = written (s.parkStationEntry i) := by
  unfold bodyParkStation
  rw [index, loaded]

theorem bodyUnparkStation_vacant (vacant : s.station i = none) : bodyUnparkStation args s = .refuse .range [] := by
  unfold bodyUnparkStation
  rw [index, vacant]

theorem bodyUnparkStation_loaded {x : Station} (loaded : s.station i = some x) :
    bodyUnparkStation args s = written (s.unparkStationEntry i) := by
  unfold bodyUnparkStation
  rw [index, loaded]

end

section
variable {i : Nat} {x : Station} {s : State}

theorem State.clearStationEntry_vacant (vacant : s.station i = none) : s.clearStationEntry i = s := by
  unfold State.clearStationEntry
  rw [vacant]

section
variable (loaded : s.station i = some x)
include loaded

theorem State.clearStationEntry_loaded : s.clearStationEntry i = (s.setStation i none).handWithdrawn i := by
  unfold State.clearStationEntry
  rw [loaded]

theorem State.parkStationEntry_parked (parked : x.cfg.parked = true) : s.parkStationEntry i = s := by
  unfold State.parkStationEntry
  rw [loaded]
  exact if_pos parked

theorem State.parkStationEntry_unparked (unparked : x.cfg.parked = false) : s.parkStationEntry i =
    (s.setStation i (some
      { cfg := { x.cfg with parked := true }, live := .parked, lastSeq := none, silence := none, lastHeard := none
        contents := none, phase := 0, counts := StationCounts.zero })).handWithdrawn i := by
  unfold State.parkStationEntry
  rw [loaded]
  exact if_neg (by simp [unparked])

theorem State.unparkStationEntry_unparked (unparked : x.cfg.parked = false) : s.unparkStationEntry i = s := by
  unfold State.unparkStationEntry
  rw [loaded]
  exact if_neg (by simp [unparked])

theorem State.unparkStationEntry_parked (parked : x.cfg.parked = true) : s.unparkStationEntry i =
    (s.setStation i (some (Station.start { x.cfg with parked := false }))).tripHandoff i := by
  unfold State.unparkStationEntry
  rw [loaded]
  exact if_pos parked

end

end

end Sys2Proof.Machine

end

section
/-! The station commands settled (O43). -/

namespace Sys2Proof.Machine

theorem arg_stationBlock {i : Nat} (place : i < 16) (c : StationConfig) : arg (stationBlock i c) 0 = i :=
  byteOf_toNat (Nat.le_trans (Nat.le_of_lt place) (by decide))

theorem StationConfig.Legal.unparked {c : StationConfig} (legal : c.Legal) : c.parked = false := by
  obtain ⟨_, _, _, _, _, unparked, _⟩ := legal
  exact unparked

/-- Settles O43: each station command, by its arguments, the entry it finds and the check of the tables. -/
theorem stationCommandsWriteTheirEntry : Obligations.StationCommandsWriteTheirEntry := by
  unfold Obligations.StationCommandsWriteTheirEntry
  intro src tag i s₀ s place start
  have index : arg [byteOf i] 0 = i := arg_single (by omega)
  have blockIndex (c : StationConfig) : arg (stationBlock i c) 0 = i := arg_stationBlock place c
  have fresh {c : StationConfig} (legal : c.Legal) : Station.afresh c StationCounts.zero = start c :=
    Station.afresh_unparked legal.unparked
  refine ⟨fun c legal admitted foreign only unparked consistent => ?load, fun x loaded admitted unparked consistent => ?clear,
    fun vacant admitted consistent => ?clearVacant, fun x loaded admitted unparked => ?park,
    fun x loaded admitted parked => ?parkAgain, fun x loaded admitted parked => ?unpark,
    fun x loaded admitted unparked => ?unparkAgain, fun args admitted none => ?loadRange,
    fun c legal admitted => ⟨fun taken => ?loadTaken, fun foreign only x loaded parked => ?loadParked,
      fun data foreign only unparked watching fails => ?loadIncomplete⟩,
    fun a admitted outside => ?clearRange, fun x loaded admitted parked => ?clearParked,
    fun data admitted unparked watching fails => ?clearIncomplete,
    fun a vacant => ⟨fun admitted => ?parkVacant, fun admitted => ?unparkVacant⟩, fun t => ?handWithdrawn⟩
  case load =>
    refine exec_writes (c := .loadStation) (s := s₀) admitted ?_
    refine (bodyLoadStation_unparked (blockIndex c) (stationArgs_block place legal) foreign only unparked).trans ?_
    rw [fresh legal, checkedWrite_consistent consistent, State.writeStation, fresh legal, State.leaveBlank_eq]
  case clear =>
    refine exec_writes (c := .clearStation) (s := s₀) admitted ?_
    refine (bodyClearStation_unparked index place ?_).trans ?_
    · exact fun y there => Option.some.inj (loaded.symm.trans there) ▸ unparked
    · rw [checkedWrite_consistent consistent, State.clearStationEntry_loaded loaded]
  case clearVacant =>
    refine exec_writes (c := .clearStation) (s := s₀) admitted ?_
    refine (bodyClearStation_unparked index place ?_).trans ?_
    · exact fun x there => absurd (vacant.symm.trans there) (Option.some_ne_none x).symm
    rw [State.setStation_self vacant, checkedWrite_consistent consistent, State.clearStationEntry_vacant vacant]
  case park =>
    refine exec_writes (c := .parkStation) (s := s₀) admitted ?_
    rw [← State.parkStationEntry_unparked loaded unparked]
    exact bodyParkStation_loaded index loaded
  case parkAgain =>
    refine exec_writes (c := .parkStation) (s := s₀) admitted ?_
    refine (bodyParkStation_loaded index loaded).trans ?_
    rw [State.parkStationEntry_parked loaded parked]
  case unpark =>
    refine exec_writes (c := .unparkStation) (s := s₀) admitted ?_
    refine (bodyUnparkStation_loaded index loaded).trans ?_
    rw [State.unparkStationEntry_parked loaded parked]
    rfl
  case unparkAgain =>
    refine exec_writes (c := .unparkStation) (s := s₀) admitted ?_
    refine (bodyUnparkStation_loaded index loaded).trans ?_
    rw [State.unparkStationEntry_unparked loaded unparked]
  case loadRange =>
    refine exec_refuses (c := .loadStation) (s := s₀) admitted ?_
    refine bodyLoadStation_unread (Option.eq_none_iff_forall_ne_some.mpr fun c read => none ?_)
    obtain ⟨small, legal, block⟩ := stationArgs_some admitted.length read
    exact ⟨_, c, small, legal, block⟩
  case loadTaken =>
    exact exec_refuses (c := .loadStation) (s := s₀) admitted
      (bodyLoadStation_taken (blockIndex c) (stationArgs_block place legal) taken)
  case loadParked =>
    exact exec_refuses (c := .loadStation) (s := s₀) admitted
      (bodyLoadStation_parked (blockIndex c) (stationArgs_block place legal) foreign only loaded parked)
  case loadIncomplete =>
    refine exec_refuses (c := .loadStation) (s := s₀) admitted ?_
    refine (bodyLoadStation_unparked (blockIndex c) (stationArgs_block place legal) foreign only unparked).trans ?_
    rw [fresh legal, checkedWrite_fails watching fails]
  case clearRange =>
    exact exec_refuses (c := .clearStation) (s := s₀) admitted (bodyClearStation_outside rfl outside)
  case clearParked =>
    exact exec_refuses (c := .clearStation) (s := s₀) admitted (bodyClearStation_parked index loaded parked)
  case clearIncomplete =>
    refine exec_refuses (c := .clearStation) (s := s₀) admitted ?_
    exact (bodyClearStation_unparked index place unparked).trans (checkedWrite_fails watching fails)
  case parkVacant => exact exec_refuses (c := .parkStation) (s := s₀) admitted (bodyParkStation_vacant rfl vacant)
  case unparkVacant => exact exec_refuses (c := .unparkStation) (s := s₀) admitted (bodyUnparkStation_vacant rfl vacant)
  case handWithdrawn => rfl

end Sys2Proof.Machine

end

section
/-! Argument blocks that end in a list (R208), and the block of LOAD LANE (R155). -/

namespace Sys2Proof.Machine

/-! ## Lists of argument bytes -/

/-- A block is its first bytes, by their offsets, and what follows them. -/
theorem args_split {n : Nat} {args : List Byte} (long : n ≤ args.length) :
    args = (List.range n).map (fun i => args.getD i 0) ++ args.drop n := by
  refine List.ext_getElem ?_ fun i here there => ?_
  · simp only [List.length_append, List.length_map, List.length_range, List.length_drop]
    omega
  · rw [List.getElem_append]
    split
    case isTrue first =>
      simp [here]
    case isFalse later =>
      simp only [List.length_map, List.length_range] at later ⊢
      rw [List.getElem_drop]
      congr 1
      omega

theorem byteOf_arg (args : List Byte) (i : Nat) : byteOf (arg args i) = args.getD i 0 := byteOf_byte _

theorem be16_arg16 (args : List Byte) (i : Nat) : be16 (arg16 args i) = [args.getD i 0, args.getD (i + 1) 0] :=
  be16_bytes _ _

/-- Pairs of bytes that read back as the pairs they were written from. -/
theorem argPairs_written {α : Type} {f g : α → Nat} {l : List α} (fits : ∀ k ∈ l, f k ≤ 255 ∧ g k ≤ 255) :
    argPairs (l.flatMap (fun k => [byteOf (f k), byteOf (g k)])) = l.map (fun k => (f k, g k)) := by
  induction l with
  | nil => rfl
  | cons k l ih =>
    obtain ⟨first, second⟩ := fits k List.mem_cons_self
    have here : argPairs ((k :: l).flatMap (fun k => [byteOf (f k), byteOf (g k)])) =
        ((byteOf (f k)).toNat, (byteOf (g k)).toNat) :: argPairs (l.flatMap (fun k => [byteOf (f k), byteOf (g k)])) := rfl
    rw [here, byteOf_toNat first, byteOf_toNat second, ih fun k later => fits k (List.mem_cons_of_mem _ later), List.map_cons]

/-- An even number of bytes are the bytes of their pairs. -/
theorem argPairs_read {n : Nat} {l : List Byte} (even : l.length = 2 * n) :
    (argPairs l).length = n ∧ (argPairs l).flatMap (fun p => [byteOf p.1, byteOf p.2]) = l := by
  induction n generalizing l with
  | zero =>
    rw [List.eq_nil_of_length_eq_zero even]
    exact ⟨rfl, rfl⟩
  | succ n ih =>
    match l, even with
    | a :: b :: rest, even =>
      have shorter : rest.length = 2 * n := by
        simp only [List.length_cons] at even
        omega
      obtain ⟨length, bytes⟩ := ih shorter
      refine ⟨congrArg (· + 1) length, ?_⟩
      show byteOf a.toNat :: byteOf b.toNat :: (argPairs rest).flatMap (fun p => [byteOf p.1, byteOf p.2]) = a :: b :: rest
      rw [byteOf_byte, byteOf_byte, bytes]

/-! ## The block of LOAD LANE (R47, R155) -/

/-- The candidates a block of LOAD LANE lists. -/
def candsOf (args : List Byte) : List Candidate :=
  (argPairs (args.drop 6)).map (fun p => ({ station := p.1, sweepLane := p.2 } : Candidate))

theorem laneArgs_eq (args : List Byte) : laneArgs args =
    if decide (arg args 0 < 32) && inRange 1 12000 (arg16 args 1) && inRange 1 15 (arg args 3) &&
      inRange 1 15 (arg args 4) && inRange 1 4 (arg args 5) &&
      (candsOf args).all (fun c => decide (c.station < 16) && decide (c.sweepLane < 8)) && decide (candsOf args).Nodup then
    some { datum := arg16 args 1, lossLimit := arg args 3, restoreCount := arg args 4, cands := candsOf args }
  else none := rfl

theorem arg_laneBlock {i : Nat} (place : i < 32) (c : LaneConfig) : arg (laneBlock i c) 0 = i :=
  byteOf_toNat (Nat.le_trans (Nat.le_of_lt place) (by decide))

theorem laneArgs_block {i : Nat} (place : i < 32) {c : LaneConfig} (legal : c.Legal) :
    laneArgs (laneBlock i c) = some c := by
  obtain ⟨datumLow, datumHigh, lossLow, lossHigh, restoreLow, restoreHigh, some_, four, distinct, ranges⟩ := legal
  have index := arg_laneBlock place c
  have datum : arg16 (laneBlock i c) 1 = c.datum := word16_be16 (by omega)
  have loss : arg (laneBlock i c) 3 = c.lossLimit := byteOf_toNat (by omega)
  have restore : arg (laneBlock i c) 4 = c.restoreCount := byteOf_toNat (by omega)
  have count : arg (laneBlock i c) 5 = c.cands.length := byteOf_toNat (by omega)
  have cands : candsOf (laneBlock i c) = c.cands := by
    have pairs : argPairs (c.cands.flatMap (fun k => [byteOf k.station, byteOf k.sweepLane])) =
        c.cands.map (fun k => (k.station, k.sweepLane)) :=
      argPairs_written fun k listed => by
        have := ranges k listed
        omega
    have last : (laneBlock i c).drop 6 = c.cands.flatMap (fun k => [byteOf k.station, byteOf k.sweepLane]) := rfl
    unfold candsOf
    rw [last, pairs, List.map_map]
    exact List.map_id' _
  rw [laneArgs_eq, if_pos]
  · rw [datum, loss, restore, cands]
  · rw [index, datum, loss, restore, count, cands]
    simp only [Bool.and_eq_true, decide_eq_true_eq, inRange_iff, List.all_eq_true]
    exact ⟨⟨⟨⟨⟨⟨place, datumLow, datumHigh⟩, lossLow, lossHigh⟩, restoreLow, restoreHigh⟩, some_, four⟩, ranges⟩, distinct⟩

theorem laneArgs_some {args : List Byte} {c : LaneConfig} (length : args.length = 6 + 2 * arg args 5)
    (read : laneArgs args = some c) : arg args 0 < 32 ∧ c.Legal ∧ args = laneBlock (arg args 0) c := by
  rw [laneArgs_eq] at read
  split at read
  case isTrue inside =>
    simp only [Bool.and_eq_true, decide_eq_true_eq, inRange_iff, List.all_eq_true] at inside
    obtain ⟨⟨⟨⟨⟨⟨place, datum⟩, loss⟩, restore⟩, count⟩, ranges⟩, distinct⟩ := inside
    have even : (args.drop 6).length = 2 * arg args 5 := by
      rw [List.length_drop]
      omega
    obtain ⟨pairs, bytes⟩ := argPairs_read even
    have listed : (candsOf args).length = arg args 5 := by
      unfold candsOf
      rw [List.length_map, pairs]
    cases read
    refine ⟨place, ⟨datum.1, datum.2, loss.1, loss.2, restore.1, restore.2, ?_, ?_, distinct, ranges⟩, ?_⟩
    · rw [listed]
      exact count.1
    · rw [listed]
      exact count.2
    · have last : (candsOf args).flatMap (fun k => [byteOf k.station, byteOf k.sweepLane]) = args.drop 6 := by
        unfold candsOf
        rw [List.flatMap_map]
        exact bytes
      unfold laneBlock
      dsimp only
      rw [listed, last, byteOf_arg, be16_arg16, byteOf_arg, byteOf_arg, byteOf_arg]
      exact args_split (n := 6) (args := args) (by omega)
  case isFalse => cases read

end Sys2Proof.Machine

end

section
/-! Proof of the statement on the lane commands that write (R61 to R64, R155, R156; O44). -/

namespace Sys2Proof.Machine

/-! ## LOAD LANE and CLEAR LANE -/

theorem bodyLoadLane_unread {args : List Byte} {s : State} (unread : laneArgs args = none) :
    bodyLoadLane args s = .refuse .range [] := by
  unfold bodyLoadLane
  dsimp only
  rw [unread]

section
variable {args : List Byte} {i : Nat} {s : State} (index : arg args 0 = i)
include index

theorem bodyLoadLane_read {c : LaneConfig} (read : laneArgs args = some c) : bodyLoadLane args s =
    checkedWrite s (s.setLane i (some (Lane.fresh c))) (s.leaveBlank.writeLane i c) := by
  unfold bodyLoadLane
  dsimp only
  rw [read, index]

theorem bodyClearLane_outside (outside : 32 ≤ i) : bodyClearLane args s = .refuse .range [] :=
  if_pos (index ▸ outside)

theorem bodyClearLane_inside (inside : i < 32) :
    bodyClearLane args s = checkedWrite s (s.setLane i none) (s.clearLaneEntry i) := by
  subst index
  exact if_neg (Nat.not_le_of_lt inside)

end

section
variable {i : Nat} {s : State}

theorem State.lostSource_untracked {old : Option Lane} (untracked : ∀ l ∈ old, l.tracked = none) (why : SourceReason) :
    s.lostSource i old why = s := by
  have none : old.bind (fun l => l.tracked) = none := by
    cases old with
    | none => rfl
    | some l => exact untracked l rfl
  unfold State.lostSource
  rw [none]

theorem State.lostSource_tracked {l : Lane} {r : Nat} (tracked : l.tracked = some r) (why : SourceReason) :
    s.lostSource i (some l) why = s.raise (.source i (some r) none none none why) := by
  have rank : (some l).bind (fun l => l.tracked) = some r := tracked
  unfold State.lostSource
  rw [rank]

theorem State.clearLaneEntry_vacant (vacant : s.lane i = none) : s.clearLaneEntry i = s := by
  unfold State.clearLaneEntry
  rw [vacant]

theorem State.clearLaneEntry_loaded {l : Lane} (loaded : s.lane i = some l) :
    s.clearLaneEntry i = ((s.setLane i none).laneUpdates [i]).lostSource i (some l) .cleared := by
  unfold State.clearLaneEntry
  rw [loaded]

/-- LOAD LANE as the mode leaves BLANK: the lane that stood is still the one that raises (R63). -/
theorem State.writeLane_leaveBlank (c : LaneConfig) : s.leaveBlank.writeLane i c =
    ((({ s with mode := if s.mode = Mode.blank then Mode.commissioning else s.mode }).setLane i
      (some (Lane.fresh c))).laneUpdates [i]).lostSource i (s.lane i) .reloaded := by
  rw [State.leaveBlank_eq]
  rfl

end

/-- Settles O44: each lane command, by its arguments, the lane it finds and the check of the tables. -/
theorem laneCommandsWriteTheirLane : Obligations.LaneCommandsWriteTheirLane := by
  unfold Obligations.LaneCommandsWriteTheirLane
  intro src tag i s₀ s place start
  have index : arg [byteOf i] 0 = i := arg_single (by omega)
  have loads {c : LaneConfig} (legal : c.Legal) : bodyLoadLane (laneBlock i c) s =
      checkedWrite s (s.setLane i (some (start c))) (s.leaveBlank.writeLane i c) :=
    bodyLoadLane_read (arg_laneBlock place c) (laneArgs_block place legal)
  refine ⟨fun args admitted none => ?loadRange, fun c data legal admitted watching fails => ?loadIncomplete,
    fun a admitted outside => ?clearRange, fun data admitted watching fails => ?clearIncomplete,
    fun c legal admitted consistent => ?load,
    fun admitted consistent => ⟨fun vacant => ?clearVacant, fun l loaded untracked => ?clearUntracked,
      fun l r loaded tracked => ?clearTracked⟩⟩
  case loadRange =>
    refine exec_refuses (c := .loadLane) (s := s₀) admitted ?_
    refine bodyLoadLane_unread (Option.eq_none_iff_forall_ne_some.mpr fun c read => none ?_)
    obtain ⟨small, legal, block⟩ := laneArgs_some admitted.length read
    exact ⟨_, c, small, legal, block⟩
  case loadIncomplete =>
    exact exec_refuses (c := .loadLane) (s := s₀) admitted ((loads legal).trans (checkedWrite_fails watching fails))
  case clearRange =>
    exact exec_refuses (c := .clearLane) (s := s₀) admitted (bodyClearLane_outside rfl outside)
  case clearIncomplete =>
    exact exec_refuses (c := .clearLane) (s := s₀) admitted
      ((bodyClearLane_inside index place).trans (checkedWrite_fails watching fails))
  case load =>
    intro t
    have writes : bodyLoadLane (laneBlock i c) s = written (t.lostSource i (s.lane i) .reloaded) := by
      rw [loads legal, checkedWrite_consistent consistent, State.writeLane_leaveBlank]
      rfl
    refine ⟨fun untracked => ?_, fun l r loaded tracked => ?_⟩
    · rw [State.lostSource_untracked untracked] at writes
      exact exec_writes (c := .loadLane) (s := s₀) admitted writes
    · rw [loaded, State.lostSource_tracked tracked] at writes
      exact exec_writes (c := .loadLane) (s := s₀) admitted writes
  case clearVacant =>
    refine exec_writes (c := .clearLane) (s := s₀) admitted ((bodyClearLane_inside index place).trans ?_)
    rw [checkedWrite_consistent consistent, State.clearLaneEntry_vacant vacant]
  case clearUntracked =>
    refine exec_writes (c := .clearLane) (s := s₀) admitted ((bodyClearLane_inside index place).trans ?_)
    rw [checkedWrite_consistent consistent, State.clearLaneEntry_loaded loaded,
      State.lostSource_untracked fun y same => Option.some.inj same ▸ untracked]
  case clearTracked =>
    refine exec_writes (c := .clearLane) (s := s₀) admitted ((bodyClearLane_inside index place).trans ?_)
    rw [checkedWrite_consistent consistent, State.clearLaneEntry_loaded loaded, State.lostSource_tracked tracked]

end Sys2Proof.Machine

end

section
/-! The block of LOAD SECTOR (R66, R91, R158, R208). -/

namespace Sys2Proof.Machine

theorem thresholdsOk_iff {rise fall : Thresholds} : thresholdsOk rise fall = true ↔
    rise.watch < rise.prepare ∧ rise.prepare < rise.evacuate ∧ rise.evacuate ≤ 12000 ∧
      fall.watch ≤ rise.watch ∧ fall.prepare ≤ rise.prepare ∧ fall.evacuate ≤ rise.evacuate := by
  simp only [thresholdsOk, Bool.and_eq_true, decide_eq_true_eq, and_assoc]

/-- The ranges of a pulse link that may be none. -/
theorem pulseLink_ok_iff {p : Option PulseLink} :
    (p.map (fun p => decide (p.station < 16) && decide (p.channel < 4))).getD true = true ↔
      ∀ k ∈ p, k.station < 16 ∧ k.channel < 4 := by
  cases p <;> simp

theorem SectorConfig.legal_iff {c : SectorConfig} :
    c.Legal ↔ sectorRanges c = true ∧ c.trips.length ≤ 2 ∧ c.parked = false := by
  simp only [sectorRanges, Bool.and_eq_true, thresholdsOk_iff, pulseLink_ok_iff, inRange_iff, decide_eq_true_eq,
    List.all_eq_true]
  unfold SectorConfig.Legal
  constructor
  · rintro ⟨a1, a2, a3, a4, a5, a6, a7, a8, a9, a10, a11, a12, a13, a14, a15, a16, a17, a18, a19, a20, a21, a22, a23, a24,
      a25, a26, a27, a28, a29⟩
    exact ⟨⟨⟨⟨⟨⟨⟨⟨⟨⟨⟨⟨⟨⟨⟨a1, a2⟩, a3⟩, a4, a5⟩, a6, a7, a8, a9, a10, a11⟩, a12, a13⟩, a14, a15⟩, a16, a17⟩, a18⟩, a19, a20⟩,
      a21, a22⟩, a23, a24⟩, a25⟩, a28⟩, a27⟩, a26, a29⟩
  · rintro ⟨⟨⟨⟨⟨⟨⟨⟨⟨⟨⟨⟨⟨⟨⟨a1, a2⟩, a3⟩, a4, a5⟩, a6, a7, a8, a9, a10, a11⟩, a12, a13⟩, a14, a15⟩, a16, a17⟩, a18⟩, a19, a20⟩,
      a21, a22⟩, a23, a24⟩, a25⟩, a28⟩, a27⟩, a26, a29⟩
    exact ⟨a1, a2, a3, a4, a5, a6, a7, a8, a9, a10, a11, a12, a13, a14, a15, a16, a17, a18, a19, a20, a21, a22, a23, a24,
      a25, a26, a27, a28, a29⟩

theorem sectorArgs_eq (args : List Byte) : sectorArgs args =
    if decide (arg args 0 < 8) && decide (arg args 29 ≤ 2) && sectorRanges (sectorOfArgs args) then some (sectorOfArgs args)
    else none := rfl

/-! ## Reading a written block -/

section
variable {i : Nat} {c : SectorConfig} {ch : Byte}

/-- The block byte by byte. -/
theorem sectorBlock_eq : sectorBlock i c ch =
    byteOf i :: byteOf c.first :: byteOf c.count :: byteOf c.quorum ::
    byteOf (c.rise.watch / 256) :: byteOf c.rise.watch :: byteOf (c.rise.prepare / 256) :: byteOf c.rise.prepare ::
    byteOf (c.rise.evacuate / 256) :: byteOf c.rise.evacuate ::
    byteOf (c.fall.watch / 256) :: byteOf c.fall.watch :: byteOf (c.fall.prepare / 256) :: byteOf c.fall.prepare ::
    byteOf (c.fall.evacuate / 256) :: byteOf c.fall.evacuate ::
    byteOf (c.blindDelay / 256) :: byteOf c.blindDelay :: byteOf c.rapidSpan ::
    byteOf (c.rapidLimit / 256) :: byteOf c.rapidLimit ::
    optByte (c.pulse.map PulseLink.station) :: (c.pulse.map (fun k => byteOf k.channel)).getD ch ::
    byteOf c.binLength :: byteOf c.surgeSpan :: byteOf (c.surgeLimit / 256) :: byteOf c.surgeLimit ::
    byteOf (c.surgeRelease / 256) :: byteOf c.surgeRelease :: byteOf c.trips.length ::
    c.trips.flatMap (fun k => [byteOf k.station, byteOf k.wire]) := rfl

theorem arg_sectorBlock (place : i < 8) : arg (sectorBlock i c ch) 0 = i :=
  byteOf_toNat (Nat.le_trans (Nat.le_of_lt place) (by decide))

/-- Six bytes of thresholds that fit them read back. -/
theorem thresholds_written {t : Thresholds} (watch : t.watch ≤ 65535) (prepare : t.prepare ≤ 65535)
    (evacuate : t.evacuate ≤ 65535) :
    ({ watch := word16 (byteOf (t.watch / 256)) (byteOf t.watch)
       prepare := word16 (byteOf (t.prepare / 256)) (byteOf t.prepare)
       evacuate := word16 (byteOf (t.evacuate / 256)) (byteOf t.evacuate) } : Thresholds) = t := by
  rw [word16_be16 watch, word16_be16 prepare, word16_be16 evacuate]

theorem pulse_written {p : Option PulseLink} (fits : ∀ k ∈ p, k.station < 16 ∧ k.channel < 4) :
    pulseArgs (optByte (p.map PulseLink.station)).toNat ((p.map (fun k => byteOf k.channel)).getD ch).toNat = p := by
  cases p with
  | none => rfl
  | some k =>
    obtain ⟨station, channel⟩ := fits k rfl
    have stationByte : (byteOf k.station).toNat = k.station := byteOf_toNat (by omega)
    have channelByte : (byteOf k.channel).toNat = k.channel := byteOf_toNat (by omega)
    show pulseArgs (byteOf k.station).toNat (byteOf k.channel).toNat = some k
    rw [stationByte, channelByte, pulseArgs, if_neg (by omega)]

theorem trips_written (fits : ∀ k ∈ c.trips, k.station < 16 ∧ k.wire < 8) :
    (argPairs ((sectorBlock i c ch).drop 30)).map (fun p => ({ station := p.1, wire := p.2 } : TripLink)) = c.trips := by
  have last : (sectorBlock i c ch).drop 30 = c.trips.flatMap (fun k => [byteOf k.station, byteOf k.wire]) := rfl
  have pairs : argPairs (c.trips.flatMap (fun k => [byteOf k.station, byteOf k.wire])) =
      c.trips.map (fun k => (k.station, k.wire)) :=
    argPairs_written fun k listed => by
      have := fits k listed
      omega
  rw [last, pairs, List.map_map]
  exact List.map_id' _

/-- The fields of a configuration in range fit the bytes that carry them. -/
theorem SectorConfig.Legal.fits (legal : c.Legal) :
    c.first ≤ 255 ∧ c.count ≤ 255 ∧ c.quorum ≤ 255 ∧
      (c.rise.watch ≤ 65535 ∧ c.rise.prepare ≤ 65535 ∧ c.rise.evacuate ≤ 65535) ∧
      (c.fall.watch ≤ 65535 ∧ c.fall.prepare ≤ 65535 ∧ c.fall.evacuate ≤ 65535) ∧
      c.blindDelay ≤ 65535 ∧ c.rapidSpan ≤ 255 ∧ c.binLength ≤ 255 ∧ c.surgeSpan ≤ 255 ∧ c.surgeRelease ≤ 65535 := by
  unfold SectorConfig.Legal at legal
  omega

theorem sectorOfArgs_block (legal : c.Legal) : sectorOfArgs (sectorBlock i c ch) = c := by
  obtain ⟨firstFits, countFits, quorumFits, ⟨w, p, e⟩, ⟨fw, fp, fe⟩, blindFits, spanFits, binFits, surgeSpanFits,
    releaseFits⟩ := legal.fits
  obtain ⟨_, _, _, _, _, _, _, _, _, _, _, _, _, _, _, _, rapidFits, pulse, _, _, _, _, _, surgeFits, _, _, _, links,
    parked⟩ := legal
  have first : arg (sectorBlock i c ch) 1 = c.first := by
    rw [sectorBlock_eq]
    exact byteOf_toNat firstFits
  have count : arg (sectorBlock i c ch) 2 = c.count := by
    rw [sectorBlock_eq]
    exact byteOf_toNat countFits
  have quorum : arg (sectorBlock i c ch) 3 = c.quorum := by
    rw [sectorBlock_eq]
    exact byteOf_toNat quorumFits
  have rise : thresholdArgs (sectorBlock i c ch) 4 = c.rise := by
    rw [sectorBlock_eq]
    exact thresholds_written w p e
  have fall : thresholdArgs (sectorBlock i c ch) 10 = c.fall := by
    rw [sectorBlock_eq]
    exact thresholds_written fw fp fe
  have blind : arg16 (sectorBlock i c ch) 16 = c.blindDelay := by
    rw [sectorBlock_eq]
    exact word16_be16 blindFits
  have span : arg (sectorBlock i c ch) 18 = c.rapidSpan := by
    rw [sectorBlock_eq]
    exact byteOf_toNat spanFits
  have rapid : arg16 (sectorBlock i c ch) 19 = c.rapidLimit := by
    rw [sectorBlock_eq]
    exact word16_be16 rapidFits
  have link : pulseArgs (arg (sectorBlock i c ch) 21) (arg (sectorBlock i c ch) 22) = c.pulse := by
    rw [sectorBlock_eq]
    exact pulse_written pulse
  have bin : arg (sectorBlock i c ch) 23 = c.binLength := by
    rw [sectorBlock_eq]
    exact byteOf_toNat binFits
  have surgeSpan : arg (sectorBlock i c ch) 24 = c.surgeSpan := by
    rw [sectorBlock_eq]
    exact byteOf_toNat surgeSpanFits
  have surge : arg16 (sectorBlock i c ch) 25 = c.surgeLimit := by
    rw [sectorBlock_eq]
    exact word16_be16 surgeFits
  have released : arg16 (sectorBlock i c ch) 27 = c.surgeRelease := by
    rw [sectorBlock_eq]
    exact word16_be16 releaseFits
  unfold sectorOfArgs
  rw [first, count, quorum, rise, fall, blind, span, rapid, link, bin, surgeSpan, surge, released, trips_written links,
    ← parked]

theorem sectorArgs_block (place : i < 8) (legal : c.Legal) : sectorArgs (sectorBlock i c ch) = some c := by
  have index : arg (sectorBlock i c ch) 0 = i := arg_sectorBlock place
  obtain ⟨ranges, two, _⟩ := SectorConfig.legal_iff.mp legal
  have count : arg (sectorBlock i c ch) 29 = c.trips.length := by
    rw [sectorBlock_eq]
    exact byteOf_toNat (by omega)
  rw [sectorArgs_eq, sectorOfArgs_block legal, index, count, ranges, decide_eq_true place, decide_eq_true two]
  rfl

end

/-! ## A block that reads back -/

/-- The pulse link bytes of a block, its channel byte as it stands where the link is none. -/
theorem pulseArgs_bytes (a b : Byte) :
    [optByte ((pulseArgs a.toNat b.toNat).map PulseLink.station),
      ((pulseArgs a.toNat b.toNat).map (fun k => byteOf k.channel)).getD b] = [a, b] := by
  unfold pulseArgs
  split
  case isTrue none =>
    rw [byte_eq_of_toNat none]
    rfl
  case isFalse some =>
    show [byteOf a.toNat, byteOf b.toNat] = [a, b]
    rw [byteOf_byte, byteOf_byte]

theorem thresholdArgs_bytes (args : List Byte) (i : Nat) : (thresholdArgs args i).bytes =
    [args.getD i 0, args.getD (i + 1) 0, args.getD (i + 2) 0, args.getD (i + 3) 0, args.getD (i + 4) 0,
      args.getD (i + 5) 0] := by
  unfold thresholdArgs Thresholds.bytes
  dsimp only
  rw [be16_arg16, be16_arg16, be16_arg16]
  rfl

theorem sectorArgs_some {args : List Byte} {c : SectorConfig} (length : args.length = 30 + 2 * arg args 29)
    (read : sectorArgs args = some c) :
    arg args 0 < 8 ∧ c.Legal ∧ args = sectorBlock (arg args 0) c (args.getD 22 0) := by
  rw [sectorArgs_eq] at read
  split at read
  case isTrue inside =>
    simp only [Bool.and_eq_true, decide_eq_true_eq] at inside
    obtain ⟨⟨place, two⟩, ranges⟩ := inside
    have even : (args.drop 30).length = 2 * arg args 29 := by
      rw [List.length_drop]
      omega
    obtain ⟨pairs, bytes⟩ := argPairs_read even
    have count : (sectorOfArgs args).trips.length = arg args 29 := by
      unfold sectorOfArgs
      rw [List.length_map, pairs]
    have last : (sectorOfArgs args).trips.flatMap (fun k => [byteOf k.station, byteOf k.wire]) = args.drop 30 := by
      unfold sectorOfArgs
      rw [List.flatMap_map]
      exact bytes
    cases read
    refine ⟨place, SectorConfig.legal_iff.mpr ⟨ranges, count ▸ two, rfl⟩, ?_⟩
    have pulse := pulseArgs_bytes (args.getD 21 0) (args.getD 22 0)
    obtain ⟨link, channel⟩ := List.cons.inj pulse
    have link' : optByte ((sectorOfArgs args).pulse.map PulseLink.station) = args.getD 21 0 := link
    have channel' : ((sectorOfArgs args).pulse.map (fun k => byteOf k.channel)).getD (args.getD 22 0) = args.getD 22 0 :=
      (List.cons.inj channel).1
    unfold sectorBlock
    rw [last, count, link', channel']
    unfold sectorOfArgs
    dsimp only
    rw [thresholdArgs_bytes, thresholdArgs_bytes]
    simp only [byteOf_arg, be16_arg16]
    exact args_split (n := 30) (args := args) (by omega)
  case isFalse => cases read

end Sys2Proof.Machine

end

section
/-! The sector commands, each at its checks and its execution (R84 to R87, R91, R102, R158 to R163). -/

namespace Sys2Proof.Machine

theorem Sector.latched_iff {x : Sector} : x.latched = true ↔ x.trip ≠ none := Option.isSome_iff_ne_none

theorem Sector.latched_eq_false_iff {x : Sector} : x.latched = false ↔ x.trip = none := Option.isSome_eq_false_iff.trans
  Option.isNone_iff_eq_none

/-! ## A sector started afresh (R68, R91, R104) -/

theorem LinkReading.faulty_eq (r : LinkReading) : r.faulty =
    (decide (r = .fault) || decide (r = .silent) || decide (r = .parked) || decide (r = .unusable)) := by
  cases r <;> rfl

theorem Sector.start_eq (t : State) (c : SectorConfig) (trip : Option TripRecord) : Sector.start t c trip =
    { cfg := c, valid := 0, rise := ⟨[], [], []⟩, hold := ⟨[], [], []⟩, level := .quiet, peak := none, index := 0
      blindCd := some c.blindDelay, blind := false, ring := [], lastRise := none, rapid := false
      bins := if c.pulse = none then [] else List.replicate 12 0
      binCd := if c.pulse = none then none else some c.binLength, window := 0, surge := false
      tripFault := c.trips.any (fun k =>
        readLink t k = .fault || readLink t k = .silent || readLink t k = .parked || readLink t k = .unusable)
      trip := trip, stage := .quiet, causes := Causes.none } := by
  unfold Sector.start
  rw [List.any_map]
  simp only [Function.comp_def, LinkReading.faulty_eq]
  cases c.pulse <;> rfl

/-! ## The checks (R158, R159) -/

section
variable {i : Nat} {c : SectorConfig} {s : State}

/-- The lanes of a range meet the ranges of no other loaded sector. -/
def RangeFree (s : State) (i : Nat) (c : SectorConfig) : Prop :=
  ∀ j, j ≠ i → ∀ y ∈ s.sector j, ∀ l ∈ c.range, l ∉ y.cfg.range

theorem rangeOverlaps_iff : rangeOverlaps s i c = true ↔ ∃ j, j ≠ i ∧ ∃ y ∈ s.sector j, ∃ l ∈ c.range, l ∈ y.cfg.range := by
  unfold rangeOverlaps
  simp only [List.any_eq_true, List.mem_range, Bool.and_eq_true, decide_eq_true_eq]
  constructor
  · rintro ⟨j, -, other, shares⟩
    cases held : s.sector j with
    | none => simp [held] at shares
    | some y =>
      rw [held, Option.map_some, Option.getD_some, List.any_eq_true] at shares
      obtain ⟨l, own, theirs⟩ := shares
      exact ⟨j, other, y, held, l, own, List.contains_iff_mem.mp theirs⟩
  · rintro ⟨j, other, y, held, l, own, theirs⟩
    refine ⟨j, lt_of_entryAt held, other, ?_⟩
    rw [held, Option.map_some, Option.getD_some, List.any_eq_true]
    exact ⟨l, own, List.contains_iff_mem.mpr theirs⟩

theorem rangeOverlaps_eq_false (free : RangeFree s i c) : rangeOverlaps s i c = false := by
  refine Bool.eq_false_iff.mpr fun overlaps => ?_
  obtain ⟨j, other, y, held, l, own, theirs⟩ := rangeOverlaps_iff.mp overlaps
  exact free j other y held l own theirs

theorem sectorParked_eq_true {x : Sector} (loaded : s.sector i = some x) (parked : x.cfg.parked = true) :
    sectorParked s i = true := by
  unfold sectorParked
  rw [loaded]
  exact parked

theorem sectorParked_eq_false (unparked : ∀ x ∈ s.sector i, x.cfg.parked = false) : sectorParked s i = false := by
  unfold sectorParked
  cases loaded : s.sector i with
  | none => rfl
  | some x => exact unparked x loaded

theorem sectorLatched_eq_true {x : Sector} (loaded : s.sector i = some x) (latched : x.trip ≠ none) :
    sectorLatched s i = true := by
  unfold sectorLatched
  rw [loaded]
  exact Sector.latched_iff.mpr latched

theorem sectorLatched_eq_false (clear : ∀ x ∈ s.sector i, x.trip = none) : sectorLatched s i = false := by
  unfold sectorLatched
  cases loaded : s.sector i with
  | none => rfl
  | some x => exact Sector.latched_eq_false_iff.mpr (clear x loaded)

theorem forall_sector_of_loaded {p : Sector → Prop} {x : Sector} (loaded : s.sector i = some x) (here : p x) :
    ∀ y ∈ s.sector i, p y :=
  fun _ there => Option.some.inj (loaded.symm.trans there) ▸ here

end

/-! ## LOAD SECTOR -/

/-- The check of the tables reads of the written state its first failure alone. -/
theorem checkedWrite_congr {s a b result : State} (same : a.firstFailure = b.firstFailure) :
    checkedWrite s a result = checkedWrite s b result := by
  unfold checkedWrite State.writeFailure
  rw [same]

theorem bodyLoadSector_unread {args : List Byte} {s : State} (unread : sectorArgs args = none) :
    bodyLoadSector args s = .refuse .range [] := by
  unfold bodyLoadSector
  dsimp only
  rw [unread]

section
variable {args : List Byte} {i : Nat} {s : State} {c : SectorConfig} (index : arg args 0 = i)
  (read : sectorArgs args = some c)
include index read

/-- LOAD SECTOR on arguments in range. -/
theorem bodyLoadSector_read : bodyLoadSector args s =
    if rangeOverlaps s i c then .refuse .range []
    else if sectorParked s i then .refuse .parked []
    else if sectorLatched s i then .refuse .latched []
    else checkedWrite s (s.setSector i (some (Sector.afresh s c none))) (s.leaveBlank.writeSector i c) := by
  have same : (s.setSector i (some (Sector.start s c none))).firstFailure =
      (s.setSector i (some (Sector.afresh s c none))).firstFailure :=
    State.setSector_firstFailure (x := some (Sector.start s c none)) (y := some (Sector.afresh s c none)) rfl i s
  unfold bodyLoadSector
  dsimp only
  rw [read, index, ← checkedWrite_congr same]

theorem bodyLoadSector_overlaps (overlaps : ∃ j, j ≠ i ∧ ∃ y ∈ s.sector j, ∃ l ∈ c.range, l ∈ y.cfg.range) :
    bodyLoadSector args s = .refuse .range [] := by
  rw [bodyLoadSector_read index read, rangeOverlaps_iff.mpr overlaps]
  rfl

section
variable (free : RangeFree s i c)
include free

theorem bodyLoadSector_parked {x : Sector} (loaded : s.sector i = some x) (parked : x.cfg.parked = true) :
    bodyLoadSector args s = .refuse .parked [] := by
  rw [bodyLoadSector_read index read, rangeOverlaps_eq_false free, sectorParked_eq_true loaded parked]
  rfl

theorem bodyLoadSector_latched {x : Sector} (loaded : s.sector i = some x) (unparked : x.cfg.parked = false)
    (latched : x.trip ≠ none) : bodyLoadSector args s = .refuse .latched [] := by
  rw [bodyLoadSector_read index read, rangeOverlaps_eq_false free,
    sectorParked_eq_false (forall_sector_of_loaded loaded unparked), sectorLatched_eq_true loaded latched]
  rfl

theorem bodyLoadSector_passes (passes : ∀ x ∈ s.sector i, x.cfg.parked = false ∧ x.trip = none) : bodyLoadSector args s =
    checkedWrite s (s.setSector i (some (Sector.afresh s c none))) (s.leaveBlank.writeSector i c) := by
  rw [bodyLoadSector_read index read, rangeOverlaps_eq_false free, sectorParked_eq_false fun x loaded => (passes x loaded).1,
    sectorLatched_eq_false fun x loaded => (passes x loaded).2]
  rfl

end

end

/-! ## CLEAR SECTOR, PARK SECTOR, UNPARK SECTOR, CLEAR TRIP -/

section
variable {args : List Byte} {i : Nat} {s : State} (index : arg args 0 = i)
include index

theorem bodyClearSector_outside (outside : 8 ≤ i) : bodyClearSector args s = .refuse .range [] :=
  if_pos (index ▸ outside)

theorem bodyClearSector_inside (inside : i < 8) : bodyClearSector args s =
    if sectorParked s i then .refuse .parked []
    else if sectorLatched s i then .refuse .latched []
    else checkedWrite s (s.setSector i none) (s.putSector i none) := by
  subst index
  exact if_neg (Nat.not_le_of_lt inside)

theorem bodyClearSector_passes (inside : i < 8) (passes : ∀ x ∈ s.sector i, x.cfg.parked = false ∧ x.trip = none) :
    bodyClearSector args s = checkedWrite s (s.setSector i none) (s.putSector i none) := by
  rw [bodyClearSector_inside index inside, sectorParked_eq_false fun x loaded => (passes x loaded).1,
    sectorLatched_eq_false fun x loaded => (passes x loaded).2]
  rfl

theorem bodyParkSector_vacant (vacant : s.sector i = none) : bodyParkSector args s = .refuse .range [] := by
  unfold bodyParkSector
  rw [index, vacant]

theorem bodyUnparkSector_vacant (vacant : s.sector i = none) : bodyUnparkSector args s = .refuse .range [] := by
  unfold bodyUnparkSector
  rw [index, vacant]

theorem bodyClearTrip_vacant (vacant : s.sector i = none) : bodyClearTrip args s = .refuse .range [] := by
  unfold bodyClearTrip
  rw [index, vacant]

section
variable {x : Sector} (loaded : s.sector i = some x)
include loaded

theorem bodyClearSector_parked (parked : x.cfg.parked = true) : bodyClearSector args s = .refuse .parked [] := by
  rw [bodyClearSector_inside index (lt_of_entryAt loaded), sectorParked_eq_true loaded parked]
  rfl

theorem bodyClearSector_latched (unparked : x.cfg.parked = false) (latched : x.trip ≠ none) :
    bodyClearSector args s = .refuse .latched [] := by
  rw [bodyClearSector_inside index (lt_of_entryAt loaded),
    sectorParked_eq_false (forall_sector_of_loaded loaded unparked), sectorLatched_eq_true loaded latched]
  rfl

theorem bodyParkSector_loaded : bodyParkSector args s =
    if x.latched then .refuse .latched [] else written (s.parkSectorEntry i x) := by
  unfold bodyParkSector
  rw [index, loaded]

theorem bodyParkSector_latched (latched : x.trip ≠ none) : bodyParkSector args s = .refuse .latched [] := by
  rw [bodyParkSector_loaded index loaded, Sector.latched_iff.mpr latched]
  rfl

theorem bodyParkSector_clear (clear : x.trip = none) : bodyParkSector args s = written (s.parkSectorEntry i x) := by
  rw [bodyParkSector_loaded index loaded, Sector.latched_eq_false_iff.mpr clear]
  rfl

theorem bodyUnparkSector_loaded : bodyUnparkSector args s = written (s.unparkSectorEntry i x) := by
  unfold bodyUnparkSector
  rw [index, loaded]

theorem bodyClearTrip_loaded : bodyClearTrip args s = written (s.clearLatch i) := by
  unfold bodyClearTrip
  rw [index, loaded]

end

end

section
variable {i : Nat} {x : Sector} {s : State}

theorem State.parkSectorEntry_parked (parked : x.cfg.parked = true) : s.parkSectorEntry i x = s := if_pos parked

theorem State.parkSectorEntry_unparked (unparked : x.cfg.parked = false) :
    s.parkSectorEntry i x = s.putSector i (some (Sector.parkedFrom x.cfg)) :=
  if_neg (by simp [unparked])

theorem State.unparkSectorEntry_parked (parked : x.cfg.parked = true) : s.unparkSectorEntry i x =
    s.putSector i (some (Sector.afresh s { x.cfg with parked := false } none)) := if_pos parked

theorem State.unparkSectorEntry_unparked (unparked : x.cfg.parked = false) : s.unparkSectorEntry i x = s :=
  if_neg (by simp [unparked])

theorem State.clearLatch_latched (loaded : s.sector i = some x) (latched : x.trip ≠ none) :
    s.clearLatch i = s.putSector i (some (Sector.restage { x with trip := none })) := by
  unfold State.clearLatch
  rw [loaded]
  exact if_pos (Option.isSome_iff_ne_none.mpr latched)

theorem State.clearLatch_clear (loaded : s.sector i = some x) (clear : x.trip = none) : s.clearLatch i = s := by
  unfold State.clearLatch
  rw [loaded]
  exact if_neg (by simp [clear])

end

end Sys2Proof.Machine

end

section
/-! The sector commands settled (O45). -/

namespace Sys2Proof.Machine

/-- Settles O45: each sector command, by its arguments, the sector it finds and the check of the tables. -/
theorem sectorCommandsWriteTheirSector : Obligations.SectorCommandsWriteTheirSector := by
  unfold Obligations.SectorCommandsWriteTheirSector
  refine ⟨fun t c trip => congrArg (Sector.laneUpdate t) (Sector.start_eq t c trip), fun src tag i s₀ => ?_⟩
  intro s place
  have index : arg [byteOf i] 0 = i := arg_single (by omega)
  have blockIndex (c : SectorConfig) (ch : Byte) : arg (sectorBlock i c ch) 0 = i := arg_sectorBlock place
  refine ⟨fun c ch legal admitted free passes consistent => ?load, fun args admitted none => ?loadRange,
    fun c ch legal admitted => ⟨fun overlaps => ?loadOverlaps, fun free => ⟨fun x loaded parked => ?loadParked,
      fun x loaded unparked latched => ?loadLatched, fun data passes watching fails => ?loadIncomplete⟩⟩,
    fun a admitted outside => ?clearRange, fun x loaded admitted parked => ?clearParked,
    fun x loaded admitted unparked latched => ?clearLatched, fun data admitted passes watching fails => ?clearIncomplete,
    fun a vacant => ⟨fun admitted => ?parkVacant, fun admitted => ?unparkVacant, fun admitted => ?tripVacant⟩,
    fun x loaded admitted latched => ?parkLatched, fun admitted passes consistent => ?clear,
    fun x loaded => ⟨fun admitted unparked clear => ?park, fun admitted parked clear => ?parkAgain,
      fun admitted parked => ?unpark, fun admitted unparked => ?unparkAgain, fun admitted latched => ?trip,
      fun admitted clear => ?tripAgain⟩⟩
  case load =>
    intro t
    have writes := (bodyLoadSector_passes (blockIndex c ch) (sectorArgs_block place legal) free passes).trans
      (checkedWrite_consistent consistent)
    rw [State.leaveBlank_eq] at writes
    exact exec_writes (c := .loadSector) (s := s₀) admitted writes
  case loadRange =>
    refine exec_refuses (c := .loadSector) (s := s₀) admitted ?_
    refine bodyLoadSector_unread (Option.eq_none_iff_forall_ne_some.mpr fun c read => none ?_)
    obtain ⟨small, legal, block⟩ := sectorArgs_some admitted.length read
    exact ⟨_, c, _, small, legal, block⟩
  case loadOverlaps =>
    exact exec_refuses (c := .loadSector) (s := s₀) admitted
      (bodyLoadSector_overlaps (blockIndex c ch) (sectorArgs_block place legal) overlaps)
  case loadParked =>
    exact exec_refuses (c := .loadSector) (s := s₀) admitted
      (bodyLoadSector_parked (blockIndex c ch) (sectorArgs_block place legal) free loaded parked)
  case loadLatched =>
    exact exec_refuses (c := .loadSector) (s := s₀) admitted
      (bodyLoadSector_latched (blockIndex c ch) (sectorArgs_block place legal) free loaded unparked latched)
  case loadIncomplete =>
    exact exec_refuses (c := .loadSector) (s := s₀) admitted
      ((bodyLoadSector_passes (blockIndex c ch) (sectorArgs_block place legal) free passes).trans
        (checkedWrite_fails watching fails))
  case clearRange => exact exec_refuses (c := .clearSector) (s := s₀) admitted (bodyClearSector_outside rfl outside)
  case clearParked =>
    exact exec_refuses (c := .clearSector) (s := s₀) admitted (bodyClearSector_parked index loaded parked)
  case clearLatched =>
    exact exec_refuses (c := .clearSector) (s := s₀) admitted (bodyClearSector_latched index loaded unparked latched)
  case clearIncomplete =>
    exact exec_refuses (c := .clearSector) (s := s₀) admitted
      ((bodyClearSector_passes index place passes).trans (checkedWrite_fails watching fails))
  case parkVacant => exact exec_refuses (c := .parkSector) (s := s₀) admitted (bodyParkSector_vacant rfl vacant)
  case unparkVacant => exact exec_refuses (c := .unparkSector) (s := s₀) admitted (bodyUnparkSector_vacant rfl vacant)
  case tripVacant => exact exec_refuses (c := .clearTrip) (s := s₀) admitted (bodyClearTrip_vacant rfl vacant)
  case parkLatched =>
    exact exec_refuses (c := .parkSector) (s := s₀) admitted (bodyParkSector_latched index loaded latched)
  case clear =>
    exact exec_writes (c := .clearSector) (s := s₀) admitted
      ((bodyClearSector_passes index place passes).trans (checkedWrite_consistent consistent))
  case park =>
    refine exec_writes (c := .parkSector) (s := s₀) admitted ((bodyParkSector_clear index loaded clear).trans ?_)
    rw [State.parkSectorEntry_unparked unparked]
    rfl
  case parkAgain =>
    refine exec_writes (c := .parkSector) (s := s₀) admitted ((bodyParkSector_clear index loaded clear).trans ?_)
    rw [State.parkSectorEntry_parked parked]
  case unpark =>
    refine exec_writes (c := .unparkSector) (s := s₀) admitted ((bodyUnparkSector_loaded index loaded).trans ?_)
    rw [State.unparkSectorEntry_parked parked]
  case unparkAgain =>
    refine exec_writes (c := .unparkSector) (s := s₀) admitted ((bodyUnparkSector_loaded index loaded).trans ?_)
    rw [State.unparkSectorEntry_unparked unparked]
  case trip =>
    refine exec_writes (c := .clearTrip) (s := s₀) admitted ((bodyClearTrip_loaded index loaded).trans ?_)
    rw [State.clearLatch_latched loaded latched]
  case tripAgain =>
    refine exec_writes (c := .clearTrip) (s := s₀) admitted ((bodyClearTrip_loaded index loaded).trans ?_)
    rw [State.clearLatch_clear loaded clear]

end Sys2Proof.Machine

end

section
/-! The blocks of LOAD ZONE and FORCE STAGE (R106, R164, R167, R208). -/

namespace Sys2Proof.Machine

/-! ## The bytes of LOAD ZONE -/

/-- A block of LOAD ZONE, its two lists counted. -/
def zoneBytes (z : Byte) (sectors sirens last : List Byte) : List Byte :=
  z :: byteOf sectors.length :: (sectors ++ byteOf sirens.length :: (sirens ++ last))

theorem zoneBlock_eq (z : Nat) (c : ZoneConfig) : zoneBlock z c = zoneBytes (byteOf z) (c.sectors.map byteOf) c.sirens
    [byteOf c.holdDown, byteOf (c.repeatInterval / 256), byteOf c.repeatInterval, byteOf c.tries, byteOf c.refresh] := by
  unfold zoneBlock zoneBytes be16
  simp only [List.append_assoc, List.length_map]
  rfl

/-- The arguments behind a list of others. -/
theorem arg_append (l r : List Byte) (k : Nat) : arg (l ++ r) (l.length + k) = arg r k := by
  unfold arg
  rw [List.getD_append_right _ _ _ _ (Nat.le_add_right _ _), Nat.add_sub_cancel_left]

section
variable {z : Byte} {sectors sirens last : List Byte} (fewSectors : sectors.length ≤ 255)
  (fewSirens : sirens.length ≤ 255)

include fewSectors in
theorem arg_zoneBytes_sectors : arg (zoneBytes z sectors sirens last) 1 = sectors.length := byteOf_toNat fewSectors

include fewSirens in
theorem arg_zoneBytes_sirens : arg (zoneBytes z sectors sirens last) (2 + sectors.length) = sirens.length := by
  have split : zoneBytes z sectors sirens last =
      (z :: byteOf sectors.length :: sectors) ++ byteOf sirens.length :: (sirens ++ last) := rfl
  have place : 2 + sectors.length = (z :: byteOf sectors.length :: sectors).length + 0 := by
    simp only [List.length_cons]
    omega
  rw [split, place, arg_append]
  exact byteOf_toNat fewSirens

theorem drop_zoneBytes_sirens :
    (zoneBytes z sectors sirens last).drop (3 + sectors.length) = sirens ++ last := by
  have split : zoneBytes z sectors sirens last =
      (z :: byteOf sectors.length :: (sectors ++ [byteOf sirens.length])) ++ (sirens ++ last) := by
    unfold zoneBytes
    simp only [List.cons_append, List.append_assoc, List.nil_append]
  have place : 3 + sectors.length = (z :: byteOf sectors.length :: (sectors ++ [byteOf sirens.length])).length := by
    simp only [List.length_cons, List.length_append, List.length_nil]
    omega
  rw [split, place, List.drop_left]

theorem arg_zoneBytes_last (k : Nat) :
    arg (zoneBytes z sectors sirens last) (3 + sectors.length + sirens.length + k) = arg last k := by
  have dropped (n : Nat) : arg (zoneBytes z sectors sirens last) (3 + sectors.length + n) = arg (sirens ++ last) n := by
    rw [← drop_zoneBytes_sirens (z := z) (sectors := sectors)]
    unfold arg
    rw [List.getD_eq_getElem?_getD, List.getD_eq_getElem?_getD, List.getElem?_drop]
  rw [Nat.add_assoc, dropped, arg_append]

theorem zoneOfArgs_bytes (fewSectors : sectors.length ≤ 255) (fewSirens : sirens.length ≤ 255) :
    zoneOfArgs (zoneBytes z sectors sirens last) =
      { sectors := sectors.map (fun b => b.toNat), sirens := sirens, holdDown := arg last 0
        repeatInterval := arg16 last 1, tries := arg last 3, refresh := arg last 4 } := by
  have behind (k : Nat) := arg_zoneBytes_last (z := z) (sectors := sectors) (sirens := sirens) (last := last) k
  have first : ((zoneBytes z sectors sirens last).drop 2).take sectors.length = sectors := List.take_left
  unfold zoneOfArgs
  dsimp only
  rw [arg_zoneBytes_sectors fewSectors, arg_zoneBytes_sirens fewSirens, drop_zoneBytes_sirens, List.take_left,
    first, behind 3, behind 4, show arg _ (3 + sectors.length + sirens.length) = arg last 0 from behind 0]
  unfold arg16
  rw [behind 1, show arg _ (3 + sectors.length + sirens.length + 1 + 1) = arg last 2 from behind 2]

end

/-- A block of the length LOAD ZONE requires is two counted lists and five bytes. -/
theorem zoneBytes_of_length {args : List Byte} (length : args.length = requiredLength .loadZone args) :
    ∃ z sectors sirens last, sectors.length ≤ 255 ∧ sirens.length ≤ 255 ∧ last.length = 5 ∧
      args = zoneBytes z sectors sirens last := by
  have total : args.length = 8 + arg args 1 + arg args (2 + arg args 1) := length
  match args, total with
  | z :: n :: rest, total =>
    have count : arg (z :: n :: rest) 1 = n.toNat := rfl
    have few : n.toNat ≤ 255 := Nat.le_of_lt_succ n.isLt
    rw [count, List.length_cons, List.length_cons] at total
    have sectors : (rest.take n.toNat).length = n.toNat := by
      rw [List.length_take]
      omega
    cases later : rest.drop n.toNat with
    | nil =>
      have none := congrArg List.length later
      rw [List.length_drop, List.length_nil] at none
      omega
    | cons m rest' =>
      have whole : rest = rest.take n.toNat ++ m :: rest' := by rw [← later, List.take_append_drop]
      have count' : arg (z :: n :: rest) (2 + n.toNat) = m.toNat := by
        have place : 2 + n.toNat = (z :: n :: rest.take n.toNat).length + 0 := by
          simp only [List.length_cons, sectors]
          omega
        have split : z :: n :: rest = (z :: n :: rest.take n.toNat) ++ m :: rest' := by
          rw [List.cons_append, List.cons_append, ← whole]
        rw [split, place, arg_append]
        rfl
      have few' : m.toNat ≤ 255 := Nat.le_of_lt_succ m.isLt
      have left := congrArg List.length later
      rw [List.length_drop, List.length_cons] at left
      rw [count'] at total
      have sirens : (rest'.take m.toNat).length = m.toNat := by
        rw [List.length_take]
        omega
      refine ⟨z, rest.take n.toNat, rest'.take m.toNat, rest'.drop m.toNat, sectors.trans_le few, sirens.trans_le few', ?_, ?_⟩
      · rw [List.length_drop]
        omega
      · unfold zoneBytes
        rw [sectors, sirens, byteOf_byte, byteOf_byte, List.take_append_drop, ← whole]

/-! ## The ranges (R106) -/

theorem addressOk_iff {node a : Byte} : addressOk node a = true ↔ a ≠ 0 ∧ a ≠ 255 ∧ a ≠ node := by
  simp only [addressOk, Bool.and_eq_true, decide_eq_true_eq, and_assoc]

theorem ZoneConfig.legal_iff {node : Byte} {c : ZoneConfig} : c.Legal node ↔ zoneRanges node c = true := by
  simp only [zoneRanges, Bool.and_eq_true, inRange_iff, decide_eq_true_eq, List.all_eq_true, addressOk_iff]
  unfold ZoneConfig.Legal
  tauto

theorem zoneArgs_eq (node : Byte) (args : List Byte) : zoneArgs node args =
    if decide (arg args 0 < 12) && zoneRanges node (zoneOfArgs args) then some (zoneOfArgs args) else none := rfl

section
variable {z : Nat} {node : Byte} {c : ZoneConfig}

theorem arg_zoneBlock (place : z < 12) : arg (zoneBlock z c) 0 = z :=
  byteOf_toNat (Nat.le_trans (Nat.le_of_lt place) (by decide))

theorem zoneOfArgs_block (legal : c.Legal node) : zoneOfArgs (zoneBlock z c) = c := by
  obtain ⟨_, eight, _, sectors, _, four, _, _, _, holdFits, _, repeatFits, _, triesFits, refreshFits⟩ := legal
  have listed : (c.sectors.map byteOf).map (fun b => b.toNat) = c.sectors := by
    rw [List.map_map]
    refine (List.map_congr_left fun i member => ?_).trans (List.map_id _)
    exact byteOf_toNat (Nat.le_trans (Nat.le_of_lt (sectors i member)) (by decide))
  rw [zoneBlock_eq, zoneOfArgs_bytes (by rw [List.length_map]; omega) (by omega), listed]
  have hold : (byteOf c.holdDown).toNat = c.holdDown := byteOf_toNat (by omega)
  have interval : word16 (byteOf (c.repeatInterval / 256)) (byteOf c.repeatInterval) = c.repeatInterval :=
    word16_be16 (by omega)
  have tries : (byteOf c.tries).toNat = c.tries := byteOf_toNat (by omega)
  have refresh : (byteOf c.refresh).toNat = c.refresh := byteOf_toNat (by omega)
  show ({ sectors := c.sectors, sirens := c.sirens, holdDown := (byteOf c.holdDown).toNat
          repeatInterval := word16 (byteOf (c.repeatInterval / 256)) (byteOf c.repeatInterval)
          tries := (byteOf c.tries).toNat, refresh := (byteOf c.refresh).toNat } : ZoneConfig) = c
  rw [hold, interval, tries, refresh]

theorem zoneArgs_block (place : z < 12) (legal : c.Legal node) : zoneArgs node (zoneBlock z c) = some c := by
  rw [zoneArgs_eq, zoneOfArgs_block legal, arg_zoneBlock place, ZoneConfig.legal_iff.mp legal, decide_eq_true place]
  rfl

end

theorem zoneArgs_some {node : Byte} {args : List Byte} {c : ZoneConfig}
    (length : args.length = requiredLength .loadZone args) (read : zoneArgs node args = some c) :
    arg args 0 < 12 ∧ c.Legal node ∧ args = zoneBlock (arg args 0) c := by
  rw [zoneArgs_eq] at read
  split at read
  case isTrue inside =>
    simp only [Bool.and_eq_true, decide_eq_true_eq] at inside
    obtain ⟨place, ranges⟩ := inside
    cases read
    refine ⟨place, ZoneConfig.legal_iff.mpr ranges, ?_⟩
    obtain ⟨z, sectors, sirens, last, fewSectors, fewSirens, five, rfl⟩ := zoneBytes_of_length length
    match last, five with
    | [hold, high, low, tries, refresh], _ =>
      have listed : (sectors.map (fun b => b.toNat)).map byteOf = sectors := by
        rw [List.map_map]
        exact (List.map_congr_left fun b _ => byteOf_byte b).trans (List.map_id _)
      have index : byteOf (arg (zoneBytes z sectors sirens [hold, high, low, tries, refresh]) 0) = z := byteOf_byte z
      have interval := be16_bytes high low
      obtain ⟨intervalHigh, tail⟩ := List.cons.inj interval
      rw [zoneBlock_eq, zoneOfArgs_bytes fewSectors fewSirens, listed, index]
      show zoneBytes z sectors sirens _ = zoneBytes z sectors sirens [byteOf hold.toNat, byteOf ((high.toNat * 256 + low.toNat) / 256),
        byteOf (high.toNat * 256 + low.toNat), byteOf tries.toNat, byteOf refresh.toNat]
      rw [byteOf_byte, intervalHigh, (List.cons.inj tail).1, byteOf_byte, byteOf_byte]
  case isFalse => cases read

/-! ## The block of FORCE STAGE (R167) -/

theorem Stage.ofNum_num (st : Stage) : Stage.ofNum st.num = some st := by
  cases st <;> rfl

theorem Stage.ofNum_some {n : Nat} {st : Stage} (read : Stage.ofNum n = some st) : n = st.num := by
  unfold Stage.ofNum at read
  split at read <;> cases read <;> rfl

theorem Stage.byte_toNat (st : Stage) : st.byte.toNat = st.num := by
  cases st <;> rfl

theorem forceArgs_block {st : Stage} {minutes z : Nat} (above : st ≠ .quiet) (low : 1 ≤ minutes) (high : minutes ≤ 1440) :
    forceArgs ([byteOf z, st.byte] ++ be16 minutes) = some { stage := st, left := minutes } := by
  have stage : arg ([byteOf z, st.byte] ++ be16 minutes) 1 = st.num := Stage.byte_toNat st
  have left : arg16 ([byteOf z, st.byte] ++ be16 minutes) 2 = minutes := word16_be16 (by omega)
  unfold forceArgs
  rw [stage, Stage.ofNum_num, left]
  dsimp only
  rw [decide_eq_true above, inRange_iff.mpr ⟨low, high⟩]
  rfl

theorem forceArgs_some {args : List Byte} {f : Force} (length : args.length = 4) (read : forceArgs args = some f) :
    f.stage ≠ .quiet ∧ 1 ≤ f.left ∧ f.left ≤ 1440 ∧ args = [byteOf (arg args 0), f.stage.byte] ++ be16 f.left := by
  unfold forceArgs at read
  split at read
  case h_1 st known =>
    split at read
    case isTrue inside =>
      simp only [Bool.and_eq_true, decide_eq_true_eq, inRange_iff] at inside
      obtain ⟨above, low, high⟩ := inside
      cases read
      refine ⟨above, low, high, ?_⟩
      have stage : args.getD 1 0 = st.byte := byte_eq_of_toNat (Stage.ofNum_some known)
      dsimp only
      rw [byteOf_arg, be16_arg16, ← stage]
      exact (args_split (n := 4) (args := args) length.ge).trans
        (by rw [List.drop_eq_nil_of_le length.le, List.append_nil]; rfl)
    case isFalse => cases read
  case h_2 => cases read

end Sys2Proof.Machine

end

section
/-! A zone written while its alert is in flight (R130), and the writes of a zone (R114, R118, R119). -/

namespace Sys2Proof.Machine

/-! ## The siren records follow (R130) -/

/-- The state a record takes on at a tries limit (R130). -/
def SirenRecord.fittedState (n : Nat) (r : SirenRecord) : Delivery :=
  if r.state = .pending ∧ min r.tries n = n ∧ r.cd = none then .unreached
  else if r.state = .unreached ∧ min r.tries n < n then .pending
  else r.state

theorem SirenRecord.fitLimit_eq (n : Nat) (r : SirenRecord) :
    r.fitLimit n = { r with tries := min r.tries n, state := r.fittedState n } := by
  obtain ⟨addr, state, tries, cd⟩ := r
  unfold SirenRecord.fitLimit SirenRecord.fittedState
  cases state with
  | delivered => rfl
  | pending =>
    simp only [Option.isNone_iff_eq_none, true_and, reduceCtorEq, false_and, if_false]
    split <;> rfl
  | unreached =>
    simp only [true_and, reduceCtorEq, false_and, if_false]
    split <;> rfl

/-- The records of an entry whose zone is written (R130). -/
def Entry.fitted (c : ZoneConfig) (e : Entry) : List SirenRecord :=
  (followSirens c.sirens e.records).map (SirenRecord.fitLimit c.tries)

/-- The raisings of the records that become UNREACHED at once (R130). -/
def Entry.lostTo (c : ZoneConfig) (e : Entry) : List Detail :=
  ((followSirens c.sirens e.records).zip (e.fitted c)).filterMap (fun p =>
    if p.1.state = .pending ∧ p.2.state = .unreached then some (e.unreachedDetail p.2) else none)

section
variable {z : Nat} {c : ZoneConfig} {s : State}

theorem State.followZoneWrite_idle (idle : ∀ e ∈ s.dispatch.queue, e.zone ≠ z) : s.followZoneWrite z c = s := by
  unfold State.followZoneWrite
  rw [entryOf_eq_none idle]

theorem State.followZoneWrite_at {before after : List Entry} {e : Entry} (queue : s.dispatch.queue = before ++ e :: after)
    (zone : e.zone = z) (zones : (s.dispatch.queue.map Entry.zone).Nodup) :
    s.followZoneWrite z c = (e.lostTo c).foldl (fun t d => t.raise d) { s with dispatch := { s.dispatch with
      queue := if ({ e with records := e.fitted c } : Entry).active then before ++ { e with records := e.fitted c } :: after
        else before ++ after } } := by
  have found : entryOf z s.dispatch.queue = some e := by
    rw [queue] at zones ⊢
    exact entryOf_at zone zones
  unfold State.followZoneWrite
  rw [found]
  exact congrArg ((e.lostTo c).foldl (fun t d => t.raise d)) (State.updEntry_at queue zone zones)

end

end Sys2Proof.Machine

end

section
/-! The zone commands, each at its checks and its execution (R114, R118, R119, R164, R165, R167, R168). -/

namespace Sys2Proof.Machine

/-- The consistency check sees of a written zone its configuration alone. -/
theorem State.setZone_firstFailure {x y : Option Zone} (same : x.map Zone.cfg = y.map Zone.cfg) (z : Nat) (s : State) :
    (s.setZone z x).firstFailure = (s.setZone z y).firstFailure := by
  unfold State.firstFailure State.configs
  simp only [State.setZone_sectors, State.setZone_zones, State.setZone_lanes, State.setZone_stations,
    State.setZone_console, mapEntries_setIfInBounds, same]

theorem State.leaveBlank_zone (z : Nat) (s : State) : s.leaveBlank.zone z = s.zone z := by
  rw [State.leaveBlank_eq]
  rfl

theorem State.leaveBlank_dispatch (s : State) : s.leaveBlank.dispatch = s.dispatch := by
  rw [State.leaveBlank_eq]

theorem State.leaveBlank_watching_iff (s : State) : s.leaveBlank.mode = .watching ↔ s.mode = .watching := by
  unfold State.leaveBlank
  split
  case isTrue blank => simp [blank]
  case isFalse => exact Iff.rfl

/-! ## LOAD ZONE -/

section
variable {z : Nat} {c : ZoneConfig} {s : State}

/-- A zone written, its records in flight brought along, and evaluated (R118). -/
def State.zoneWritten (z : Nat) (c : ZoneConfig) (x : Zone) (s : State) : State :=
  ((s.setZone z (some x)).followZoneWrite z c).evaluateZone z

theorem State.zoneWritten_layer (x : Zone) : OnlyZones s (s.zoneWritten z c x) :=
  ((s.setZone_layer z _).trans (State.followZoneWrite_layer z c _)).trans (State.evaluateZone_layer z _)

theorem State.zoneWritten_mode (x : Zone) : (s.zoneWritten z c x).mode = s.mode :=
  (State.zoneWritten_layer x).mode

theorem State.zoneWritten_zone (place : z < 12) (x : Zone) :
    (s.zoneWritten z c x).zone z = some (s.evaluated x) := by
  have layer : OnlyZones s ((s.setZone z (some x)).followZoneWrite z c) :=
    (s.setZone_layer z _).trans (State.followZoneWrite_layer z c _)
  unfold State.zoneWritten
  rw [State.evaluateZone_same, State.followZoneWrite_zone, State.zone_setZone_same _ _ _ place, layer.evaluated]
  rfl

theorem State.evaluated_cfg (x : Zone) : (s.evaluated x).cfg = x.cfg := (Zone.evaluated_follows _ _ x).cfg

/-- The refresh of a written zone (R118): loaded in WATCHING, for a zone above QUIET that has one. -/
theorem Zone.writtenRefresh_eq {x : Zone} (cfg : x.cfg = c) (m : Mode) :
    (if m = .watching then x.loadRefresh else none) =
      if m = .watching ∧ x.stage ≠ .quiet ∧ c.refresh ≠ 0 then some c.refresh else none := by
  unfold Zone.loadRefresh
  rw [cfg]
  by_cases watching : m = .watching
  · by_cases none : x.stage = .quiet ∨ c.refresh = 0
    · rw [if_pos watching, if_pos none, if_neg (by tauto)]
    · rw [if_pos watching, if_neg none, if_pos (by tauto)]
  · rw [if_neg watching, if_neg (by tauto)]

/-- A zone loaded afresh keeps the refresh its first evaluation loads. -/
theorem Zone.evaluated_fresh_refresh (cs : List (Nat × Sector)) (watching : Bool) :
    ((Zone.fresh c).evaluated cs watching).refreshCd =
      if watching = true then ((Zone.fresh c).evaluated cs watching).loadRefresh else none := by
  have first := Zone.evaluated_fresh c cs watching
  by_cases quiet : ((Zone.fresh c).evaluated cs watching).stage = .quiet
  · have rests : ((Zone.fresh c).evaluated cs watching).loadRefresh = none := if_pos (Or.inl quiet)
    rw [(first.quiet quiet).2.1, rests, ite_self]
  · cases watching with
    | true =>
      unfold Zone.loadRefresh
      rw [(first.dispatched quiet rfl).2.2, if_pos rfl]
      exact (if_congr (or_iff_right quiet) rfl rfl).symm
    | false => exact (first.undispatched quiet rfl).2.2

section
variable (place : z < 12)
include place

theorem State.writeZone_written {x y : Zone} (loaded : Zone.loaded c (s.zone z) = x)
    (there : (s.zoneWritten z c x).zone z = some y) :
    s.writeZone z c = (s.zoneWritten z c x).setZone z (some { y with
      refreshCd := if s.mode = .watching ∧ y.stage ≠ .quiet ∧ c.refresh ≠ 0 then some c.refresh else none }) := by
  have cfg : y.cfg = c := by
    rw [State.zoneWritten_zone place] at there
    rw [← Option.some.inj there, State.evaluated_cfg, ← loaded]
    unfold Zone.loaded
    split <;> rfl
  have unfolded : s.writeZone z c = match (s.zoneWritten z c (Zone.loaded c (s.zone z))).zone z with
      | none => s.zoneWritten z c (Zone.loaded c (s.zone z))
      | some y => (s.zoneWritten z c (Zone.loaded c (s.zone z))).setZone z (some { y with
          refreshCd := if (s.zoneWritten z c (Zone.loaded c (s.zone z))).mode = .watching then y.loadRefresh else none }) := rfl
  rw [unfolded, loaded, there]
  dsimp only
  rw [State.zoneWritten_mode, Zone.writtenRefresh_eq cfg]

/-- The first load of a zone: nothing in flight follows, and the evaluation loads its refresh (R118, R120). -/
theorem State.writeZone_fresh (vacant : s.zone z = none) (idle : ∀ e ∈ s.dispatch.queue, e.zone ≠ z) :
    s.writeZone z c = (s.setZone z (some (Zone.fresh c))).evaluateZone z := by
  have loaded : Zone.loaded c (s.zone z) = Zone.fresh c := by rw [vacant]; rfl
  have still : (s.setZone z (some (Zone.fresh c))).followZoneWrite z c = s.setZone z (some (Zone.fresh c)) :=
    State.followZoneWrite_idle idle
  have whole : s.zoneWritten z c (Zone.fresh c) = (s.setZone z (some (Zone.fresh c))).evaluateZone z :=
    congrArg (State.evaluateZone z) still
  have there : (s.zoneWritten z c (Zone.fresh c)).zone z = some (s.evaluated (Zone.fresh c)) :=
    State.zoneWritten_zone place (Zone.fresh c)
  have kept := Zone.evaluated_fresh_refresh (c := c) (contributing s c.sectors) (decide (s.mode = .watching))
  simp only [decide_eq_true_eq] at kept
  rw [State.writeZone_written place loaded there, ← Zone.writtenRefresh_eq (c := c) (State.evaluated_cfg (Zone.fresh c)),
    ← whole]
  refine State.setZone_self (there.trans (congrArg some ?_))
  exact congrArg (fun r => { s.evaluated (Zone.fresh c) with refreshCd := r }) kept

end

end

theorem bodyLoadZone_unread {args : List Byte} {s : State} (unread : zoneArgs s.node args = none) :
    bodyLoadZone args s = .refuse .range [] := by
  unfold bodyLoadZone
  dsimp only
  rw [unread]

/-! ## CLEAR ZONE, FORCE STAGE, RELEASE FORCE -/

theorem bodyForceStage_unread {args : List Byte} {s : State} (unread : s.zone (arg args 0) = none ∨ forceArgs args = none) :
    bodyForceStage args s = .refuse .range [] := by
  unfold bodyForceStage
  rcases unread with vacant | none
  · rw [vacant]
  · rw [none]
    cases s.zone (arg args 0) <;> rfl

section
variable {args : List Byte} {z : Nat} {s : State} (index : arg args 0 = z)
include index

theorem bodyLoadZone_read {c : ZoneConfig} (read : zoneArgs s.node args = some c) : bodyLoadZone args s =
    checkedWrite s (s.setZone z (some (Zone.fresh c))) (s.leaveBlank.writeZone z c) := by
  unfold bodyLoadZone
  dsimp only
  rw [read, index]

theorem bodyClearZone_outside (outside : 12 ≤ z) : bodyClearZone args s = .refuse .range [] :=
  if_pos (index ▸ outside)

theorem bodyClearZone_inside (inside : z < 12) :
    bodyClearZone args s = checkedWrite s (s.setZone z none) (s.clearZoneEntry z) := by
  subst index
  exact if_neg (Nat.not_le_of_lt inside)

theorem bodyReleaseForce_vacant (vacant : s.zone z = none) : bodyReleaseForce args s = .refuse .range [] := by
  unfold bodyReleaseForce
  rw [index, vacant]

section
variable {x : Zone} (loaded : s.zone z = some x)
include loaded

theorem bodyForceStage_read {f : Force} (read : forceArgs args = some f) :
    bodyForceStage args s = written ((s.setZone z (some { x with force := some f })).evaluateZone z) := by
  unfold bodyForceStage State.setForce
  rw [index, loaded, read]

theorem bodyReleaseForce_forced (forced : x.force ≠ none) :
    bodyReleaseForce args s = written ((s.setZone z (some { x with force := none })).evaluateZone z) := by
  unfold bodyReleaseForce State.setForce
  rw [index, loaded]
  exact congrArg written (if_pos (Option.isSome_iff_ne_none.mpr forced))

theorem bodyReleaseForce_free (free : x.force = none) : bodyReleaseForce args s = written s := by
  unfold bodyReleaseForce
  rw [index, loaded]
  exact congrArg written (if_neg (by simp [free]))

end

end

end Sys2Proof.Machine

end

section
/-! The zone commands settled (O46). -/

namespace Sys2Proof.Machine

/-- Settles O46: the siren records of a written zone, and each zone command, by its arguments, the zone it finds and the
check of the tables. -/
theorem zoneCommandsWriteTheirZone : Obligations.ZoneCommandsWriteTheirZone := by
  unfold Obligations.ZoneCommandsWriteTheirZone
  refine ⟨fun z c s => ⟨State.followZoneWrite_idle, fun before e after queue zone zones => ?follow⟩, fun src tag z s₀ => ?_⟩
  case follow =>
    intro kept fitted lost
    have records : e.fitted c = fitted := List.map_congr_left fun r _ => r.fitLimit_eq c.tries
    have raisings : e.lostTo c = lost := by
      unfold Entry.lostTo Entry.unreachedDetail
      rw [records, zone]
      rfl
    rw [State.followZoneWrite_at queue zone zones, records, raisings]
    rfl
  intro s place
  have index : arg [byteOf z] 0 = z := arg_single (by omega)
  have loads {c : ZoneConfig} (legal : c.Legal s.node) : bodyLoadZone (zoneBlock z c) s =
      checkedWrite s (s.setZone z (some (Zone.fresh c))) (s.leaveBlank.writeZone z c) :=
    bodyLoadZone_read (arg_zoneBlock place) (zoneArgs_block place legal)
  refine ⟨fun c legal admitted => ?load, fun args admitted none => ?loadRange,
    fun c y data legal admitted watching cfg fails => ?loadIncomplete, fun a admitted outside => ?clearRange,
    fun data admitted watching fails => ?clearIncomplete, fun args admitted none => ?forceRange,
    fun a admitted vacant => ?releaseRange, fun admitted consistent => ?clear,
    fun x loaded => ⟨fun stage minutes above low high admitted => ?force, fun admitted forced => ?release,
      fun admitted free => ?releaseAgain⟩⟩
  case load =>
    intro start consistent t
    have writes : bodyLoadZone (zoneBlock z c) s = written (t.writeZone z c) := by
      refine (loads legal).trans ((checkedWrite_consistent consistent).trans ?_)
      rw [State.leaveBlank_eq]
    have step := exec_writes (c := .loadZone) (tag := tag) (s := s₀) admitted writes
    have out : s.leaveBlank = t := State.leaveBlank_eq s
    have zone : t.zone z = s.zone z := out ▸ State.leaveBlank_zone z s
    have dispatch : t.dispatch = s.dispatch := out ▸ State.leaveBlank_dispatch s
    have mode : t.mode = .watching ↔ s.mode = .watching := out ▸ State.leaveBlank_watching_iff s
    clear_value t
    refine ⟨fun vacant idle => ?_, fun x loaded => ?_⟩
    · rw [State.writeZone_fresh place (zone.trans vacant) (dispatch ▸ idle)] at step
      exact step
    · intro v
      have there : v.zone z = some (t.evaluated { x with cfg := c }) := State.zoneWritten_zone place _
      have old : Zone.loaded c (t.zone z) = { x with cfg := c } := by rw [zone, loaded]; rfl
      rw [State.writeZone_written place old there] at step
      simp only [mode] at step
      exact ⟨_, there, step⟩
  case loadRange =>
    refine exec_refuses (c := .loadZone) (s := s₀) admitted ?_
    refine bodyLoadZone_unread (Option.eq_none_iff_forall_ne_some.mpr fun c read => none ?_)
    obtain ⟨small, legal, block⟩ := zoneArgs_some admitted.length read
    exact ⟨_, c, small, legal, block⟩
  case loadIncomplete =>
    refine exec_refuses (c := .loadZone) (s := s₀) admitted ((loads legal).trans (checkedWrite_fails watching ?_))
    rw [← fails]
    exact State.setZone_firstFailure (x := some (Zone.fresh c)) (y := some y) (congrArg some cfg.symm) z s
  case clearRange => exact exec_refuses (c := .clearZone) (s := s₀) admitted (bodyClearZone_outside rfl outside)
  case clearIncomplete =>
    exact exec_refuses (c := .clearZone) (s := s₀) admitted
      ((bodyClearZone_inside index place).trans (checkedWrite_fails watching fails))
  case forceRange =>
    refine exec_refuses (c := .forceStage) (s := s₀) admitted (bodyForceStage_unread ?_)
    refine or_iff_not_imp_left.mpr fun loaded => Option.eq_none_iff_forall_ne_some.mpr fun f read => none ?_
    obtain ⟨above, low, high, block⟩ := forceArgs_some admitted.length read
    exact ⟨_, f.stage, f.left, loaded, above, low, high, block⟩
  case releaseRange =>
    exact exec_refuses (c := .releaseForce) (s := s₀) admitted (bodyReleaseForce_vacant rfl vacant)
  case clear =>
    exact exec_writes (c := .clearZone) (s := s₀) admitted
      ((bodyClearZone_inside index place).trans (checkedWrite_consistent consistent))
  case force =>
    have forceIndex : arg ([byteOf z, stage.byte] ++ be16 minutes) 0 = z := byteOf_toNat (by omega)
    exact exec_writes (c := .forceStage) (s := s₀) admitted
      (bodyForceStage_read forceIndex loaded (forceArgs_block above low high))
  case release =>
    exact exec_writes (c := .releaseForce) (s := s₀) admitted (bodyReleaseForce_forced index loaded forced)
  case releaseAgain =>
    exact exec_writes (c := .releaseForce) (s := s₀) admitted (bodyReleaseForce_free index loaded free)

end Sys2Proof.Machine

end

section
/-! Proof of the statement on the reset cause and the counters (R176, R183, R184; O48). -/

namespace Sys2Proof.Machine

/-- A reply with little data carries all of it (R140). -/
theorem State.reply_of_short {src code tag : Byte} {o : Outcome} {data : List Byte} (short : data.length ≤ 53)
    (e : ReplyEffect) (s : State) : s.reply src code tag o data e =
      { s with replies := s.replies ++ [{ dst := src, payload := code :: tag :: o.code :: data, effect := e }] } := by
  unfold State.reply
  rw [replyPayload_of_short code tag o short]

/-- Settles O48: each of the three commands has one execution. -/
theorem resetCauseAndCountersAreCleared : Obligations.ResetCauseAndCountersAreCleared := by
  unfold Obligations.ResetCauseAndCountersAreCleared
  refine ⟨fun src tag s₀ => ?cause, fun src tag s₀ => ?counters⟩
  case cause =>
    intro s
    refine ⟨fun admitted => ?read, fun admitted => exec_writes (c := .clearResetCause) (s := s₀) admitted rfl⟩
    have short : (causeData s.cause).length ≤ 53 := by
      rw [show (causeData s.cause).length = 5 from rfl]
      decide
    refine (exec_reads (c := .readResetCause) (s := s₀) admitted rfl).trans ?_
    rw [State.reply_of_short short]
    rfl
  case counters =>
    intro s admitted
    exact exec_writes (c := .clearCounters) (s := s₀) admitted rfl

end Sys2Proof.Machine

end

section
/-! The announcements of GO WATCH (R117, R131, R196). -/

namespace Sys2Proof.Machine

/-- A zone above QUIET as GO WATCH leaves it (R117). -/
def Zone.announced (x : Zone) : Zone :=
  { x with serial := x.serial + 1, refreshCd := if x.cfg.refresh = 0 then none else some x.cfg.refresh }

/-- The announcement of a zone, as it stood before GO WATCH. -/
def State.announceFrom (s t : State) (z : Nat) : State :=
  match s.zone z with
  | some x => if x.stage = .quiet then t else (t.setZone z (some x.announced)).alertRaised z
  | none => t

/-- What the announcements of the zones below `n` have made of the state that took GO WATCH. -/
structure State.WatchPass (s : State) (n : Nat) (t : State) : Prop where
  layer : t = { s with mode := .watching, zones := t.zones, dispatch := { s.dispatch with queue := t.dispatch.queue } }
  ahead : ∀ z, n ≤ z → t.zone z = s.zone z
  rests : ∀ z, (∀ x ∈ s.zone z, x.stage = .quiet) →
    t.zone z = s.zone z ∧ entriesOf z t.dispatch.queue = entriesOf z s.dispatch.queue
  announces : ∀ z x, z < n → s.zone z = some x → x.stage ≠ .quiet →
    t.zone z = some x.announced ∧ entriesOf z t.dispatch.queue = [s.entryFor z x.announced false]

section
variable {n : Nat} {x : Zone} {s t : State}

theorem Zone.loadRefresh_high (high : x.stage ≠ .quiet) :
    x.loadRefresh = if x.cfg.refresh = 0 then none else some x.cfg.refresh :=
  if_congr (or_iff_right high) rfl rfl

theorem State.announce_rests (quiet : ∀ x ∈ t.zone n, x.stage = .quiet) : t.announce n = t := by
  unfold State.announce
  cases loaded : t.zone n with
  | none => rfl
  | some x => exact if_pos (quiet x loaded)

theorem State.announce_high (loaded : t.zone n = some x) (high : x.stage ≠ .quiet) :
    t.announce n = (t.setZone n (some x.announced)).alertRaised n := by
  unfold State.announce
  rw [loaded]
  dsimp only
  rw [if_neg high, Zone.loadRefresh_high high]
  rfl

/-- A zone that stands as it stood before GO WATCH announces as it stood then. -/
theorem State.announce_from (here : t.zone n = s.zone n) : t.announce n = s.announceFrom t n := by
  unfold State.announceFrom
  rw [← here]
  cases loaded : t.zone n with
  | none => exact State.announce_rests (by simp [loaded])
  | some x =>
    dsimp only
    split
    case isTrue quiet => exact State.announce_rests (by simpa [loaded] using quiet)
    case isFalse high => exact State.announce_high loaded high

theorem State.announce_high_queue (loaded : t.zone n = some x) (high : x.stage ≠ .quiet) : t.announce n =
    { t.setZone n (some x.announced) with dispatch := { t.dispatch with
      queue := insertEntry (t.entryFor n x.announced false) (withoutZone n t.dispatch.queue) } } := by
  have written : (t.setZone n (some x.announced)).zone n = some x.announced :=
    State.zone_setZone_same _ _ _ (lt_of_entryAt loaded)
  rw [State.announce_high loaded high, State.alertRaised_of_loaded written]
  rfl

theorem State.WatchPass.start (s : State) : s.WatchPass 0 { s with mode := .watching } where
  layer := rfl
  ahead _ _ := rfl
  rests _ _ := ⟨rfl, rfl⟩
  announces _ _ none := absurd none (Nat.not_lt_zero _)

/-- The turn of a zone that does not announce. -/
theorem State.WatchPass.next_rests (h : s.WatchPass n t) (quiet : ∀ x ∈ s.zone n, x.stage = .quiet) :
    s.WatchPass (n + 1) (t.announce n) := by
  rw [State.announce_rests (by rwa [h.ahead n le_rfl])]
  refine ⟨h.layer, fun z later => h.ahead z (by omega), h.rests, fun z x before loaded high => ?_⟩
  by_cases here : z = n
  · subst here
    exact absurd (quiet x loaded) high
  · exact h.announces z x (by omega) loaded high

/-- The turn of a zone above QUIET. -/
theorem State.WatchPass.next_announces (h : s.WatchPass n t) (loaded : s.zone n = some x) (high : x.stage ≠ .quiet) :
    s.WatchPass (n + 1) (t.announce n) := by
  have there : t.zone n = some x := (h.ahead n le_rfl).trans loaded
  have entry : t.entryFor n x.announced false = s.entryFor n x.announced false :=
    State.entryFor_congr (congrArg State.sectors h.layer) (congrArg State.time h.layer) _ _ _
  have turn := State.announce_high_queue there high
  rw [entry] at turn
  have zones (z : Nat) : (t.announce n).zone z = (t.setZone n (some x.announced)).zone z := by
    rw [turn]
    rfl
  have queue : (t.announce n).dispatch.queue =
      insertEntry (s.entryFor n x.announced false) (withoutZone n t.dispatch.queue) := by
    rw [turn]
  have others (z : Nat) (other : n ≠ z) : (t.announce n).zone z = t.zone z := by
    rw [zones, setZone_zone, if_neg fun same => other same.1]
  have entries (z : Nat) (other : n ≠ z) :
      entriesOf z (t.announce n).dispatch.queue = entriesOf z t.dispatch.queue := by
    rw [queue, entriesOf_insertEntry_other (e := s.entryFor n x.announced false) other, entriesOf_withoutZone_other other]
  refine ⟨?_, fun z later => ?_, fun z quiet => ?_, fun z y before held above => ?_⟩
  · rw [turn]
    exact congrArg (fun u : State => { u with
      zones := (t.setZone n (some x.announced)).zones
      dispatch := { u.dispatch with
        queue := insertEntry (s.entryFor n x.announced false) (withoutZone n t.dispatch.queue) } }) h.layer
  · rw [others z (by omega), h.ahead z (by omega)]
  · have other : n ≠ z := fun same => high (quiet x (same ▸ loaded))
    rw [others z other, entries z other]
    exact h.rests z quiet
  · by_cases here : n = z
    · subst here
      cases loaded.symm.trans held
      refine ⟨(zones n).trans (State.zone_setZone_same _ _ _ (lt_of_entryAt loaded)), ?_⟩
      rw [queue]
      exact entriesOf_insertEntry_new rfl (entriesOf_withoutZone_same n _)
    · rw [others z here, entries z here]
      exact h.announces z y (by omega) held above

theorem State.WatchPass.next (h : s.WatchPass n t) : s.WatchPass (n + 1) (t.announce n) := by
  by_cases quiet : ∀ x ∈ s.zone n, x.stage = .quiet
  · exact h.next_rests quiet
  · simp only [not_forall] at quiet
    obtain ⟨x, loaded, high⟩ := quiet
    exact h.next_announces loaded high

end

section
variable (s : State)

/-- The alert of an announcement carries the new serial and what the zone stands at, with fresh records (R117, R122). -/
theorem State.entryFor_announced (z : Nat) (x : Zone) :
    (s.entryFor z x.announced false).serial = x.serial + 1 ∧ (s.entryFor z x.announced false).stage = x.stage ∧
      (s.entryFor z x.announced false).causes = x.causes ∧ (s.entryFor z x.announced false).refresh = false ∧
      (s.entryFor z x.announced false).peakSector = x.peakSector ∧
      (s.entryFor z x.announced false).created = s.time.now ∧
      (s.entryFor z x.announced false).records =
        x.cfg.sirens.map (fun a => { addr := a, state := .pending, tries := 0, cd := none }) :=
  ⟨rfl, rfl, rfl, rfl, rfl, rfl, rfl⟩

theorem State.watchPass (n : Nat) : s.WatchPass n (eachBelow n State.announce { s with mode := .watching }) :=
  eachBelow_induct (P := s.WatchPass) (fun _ _ h => h.next) (.start s) n

theorem State.announcements_from (n : Nat) : eachBelow n State.announce { s with mode := .watching } =
    (List.range n).foldl s.announceFrom { s with mode := .watching } := by
  induction n with
  | zero => rfl
  | succ n ih =>
    rw [eachBelow_succ, List.range_succ, List.foldl_append, ← ih]
    exact State.announce_from ((s.watchPass n).ahead n le_rfl)

theorem State.enterWatching_pass : s.WatchPass 12 s.enterWatching := s.watchPass 12

theorem State.enterWatching_from :
    s.enterWatching = (List.range 12).foldl s.announceFrom { s with mode := .watching } := s.announcements_from 12

end

end Sys2Proof.Machine

end

section
/-! Proof of the statement on the mode and store commands (R116, R117, R131, R177 to R182, R194 to R199; O49). -/

namespace Sys2Proof.Machine

theorem bodyEraseTables_latched {s : State} {i : Nat} {x : Sector} (loaded : s.sector i = some x)
    (latched : x.trip ≠ none) : bodyEraseTables [] s = .refuse .latched [] :=
  if_pos (State.anySector_iff.mpr ⟨i, x, loaded, Sector.latched_iff.mpr latched⟩)

theorem State.eraseAll_eq (s : State) : s.eraseAll = { s with
    stations := Vector.replicate 16 none
    lanes := Vector.replicate 32 none
    sectors := Vector.replicate 8 none
    zones := Vector.replicate 12 none
    outputs := Vector.replicate 6 (Output.idle OutputConfig.unset)
    mode := .blank
    dispatch := { s.dispatch with queue := [] } } := rfl

theorem bodyEraseTables_clear {s : State} (clear : ∀ i, ∀ x ∈ s.sector i, x.trip = none) :
    bodyEraseTables [] s = written s.eraseAll := by
  refine if_neg fun any => ?_
  obtain ⟨i, x, loaded, latched⟩ := State.anySector_iff.mp any
  exact Sector.latched_iff.mp latched (clear i x loaded)

theorem bodyGoWatch_fails {data : List Byte} {s : State} (fails : s.firstFailure = some data) :
    bodyGoWatch [] s = .refuse .incomplete data := by
  unfold bodyGoWatch
  rw [fails]

theorem bodyGoWatch_passes {s : State} (passes : s.firstFailure = none) :
    bodyGoWatch [] s = written s.enterWatching := by
  unfold bodyGoWatch
  rw [passes]

/-- Settles O49: the check of the tables, and each mode, store and reset command by what it finds. -/
theorem modeAndStoreCommandsTakeEffect : Obligations.ModeAndStoreCommandsTakeEffect := by
  unfold Obligations.ModeAndStoreCommandsTakeEffect
  refine ⟨fun s => ⟨firstFailure_eq_none_iff s, fun n a b => firstFailure_eq_some⟩, fun src tag s₀ => ?_⟩
  intro s
  refine ⟨fun data admitted fails => exec_refuses (c := .goWatch) (s := s₀) admitted (bodyGoWatch_fails fails),
    fun admitted passes => ?watch, fun admitted => exec_writes (c := .goCommission) (s := s₀) admitted rfl,
    fun admitted clear => ?erase,
    fun i x admitted loaded latched =>
      exec_refuses (c := .eraseTables) (s := s₀) admitted (bodyEraseTables_latched loaded latched),
    fun image taken admitted => ?save, fun admitted => exec_admitted (c := .restart) (s := s₀) admitted,
    fun admitted => exec_admitted (c := .reset) (s := s₀) admitted⟩
  case watch =>
    have pass := s.enterWatching_pass
    have fold := s.enterWatching_from
    have step := exec_writes (c := .goWatch) (tag := tag) (s := s₀) admitted (bodyGoWatch_passes passes)
    generalize s.enterWatching = u at pass fold step
    refine ⟨u, step, pass.layer, fold, fun z place => ⟨pass.rests z, fun x loaded high => ?_⟩⟩
    obtain ⟨zone, entries⟩ := pass.announces z x place loaded high
    exact ⟨zone, _, entries, s.entryFor_announced z x⟩
  case erase =>
    have step := exec_writes (c := .eraseTables) (tag := tag) (s := s₀) admitted (bodyEraseTables_clear clear)
    rw [State.eraseAll_eq] at step
    exact step
  case save =>
    subst taken
    exact exec_admitted (c := .saveTables) (s := s₀) admitted

end Sys2Proof.Machine

end

section
/-! LOAD OUTPUT (R133, R136, R170) and LOAD CONSOLE (R149). -/

namespace Sys2Proof.Machine

/-! ## The block of LOAD OUTPUT (R208) -/

theorem Cadence.ok_iff {c : Cadence} : c.ok = true ↔ c.Legal := by
  unfold Cadence.ok Cadence.Legal
  simp only [Bool.and_eq_true, inRange_iff, and_assoc]

theorem Cadences.bytes_eq (c : Cadences) : c.bytes = be16 c.c1.cycle ++ be16 c.c1.onTime ++ be16 c.c2.cycle ++
    be16 c.c2.onTime ++ be16 c.c3.cycle ++ be16 c.c3.onTime := rfl

/-- The three cadences a block of LOAD OUTPUT spells. -/
def cadencesOf (args : List Byte) : Cadences :=
  { c1 := cadenceArgs args 4, c2 := cadenceArgs args 8, c3 := cadenceArgs args 12 }

/-- The ranges of LOAD OUTPUT on what its block spells (R170). -/
def outputRanges (k : Nat) (c : OutputConfig) : Bool :=
  inRange 1 6 k && decide (c.code ≤ 8) && decide (c.argIndex ≤ 11) && (decide (c.code ≠ 3) || decide (c.argIndex ≤ 7)) &&
    decide (c.argStage ≠ .quiet) && c.written.c1.ok && c.written.c2.ok && c.written.c3.ok

theorem outputRanges_iff {k : Nat} {c : OutputConfig} : outputRanges k c = true ↔ (1 ≤ k ∧ k ≤ 6) ∧ c.Legal := by
  unfold outputRanges OutputConfig.Legal
  simp only [Bool.and_eq_true, Bool.or_eq_true, decide_eq_true_eq, inRange_iff, Cadence.ok_iff, ← imp_iff_not_or, and_assoc]

section
variable {args : List Byte}

theorem outputArgs_stage {st : Stage} (known : Stage.ofNum (arg args 3) = some st) : outputArgs args =
    if outputRanges (arg args 0) { code := arg args 1, argIndex := arg args 2, argStage := st, written := cadencesOf args }
      then some { code := arg args 1, argIndex := arg args 2, argStage := st, written := cadencesOf args } else none := by
  unfold outputArgs
  dsimp only
  rw [known]
  rfl

theorem outputArgs_noStage (unknown : Stage.ofNum (arg args 3) = none) : outputArgs args = none := by
  unfold outputArgs
  dsimp only
  rw [unknown]

end

section
variable {k : Nat} {c : OutputConfig}

theorem arg_outputBlock (high : k ≤ 6) : arg (outputBlock k c) 0 = k := byteOf_toNat (by omega)

/-- A cadence in range reads back from its four bytes. -/
theorem Cadence.Legal.written {d : Cadence} (legal : d.Legal) :
    ({ cycle := word16 (byteOf (d.cycle / 256)) (byteOf d.cycle)
       onTime := word16 (byteOf (d.onTime / 256)) (byteOf d.onTime) } : Cadence) = d := by
  obtain ⟨_, cycle, _, onTime⟩ := legal
  rw [word16_be16 (by omega), word16_be16 (by omega)]

theorem cadencesOf_block (legal : c.Legal) : cadencesOf (outputBlock k c) = c.written := by
  obtain ⟨_, _, _, _, c1, c2, c3⟩ := legal
  have first : cadenceArgs (outputBlock k c) 4 = c.written.c1 := c1.written
  have second : cadenceArgs (outputBlock k c) 8 = c.written.c2 := c2.written
  have third : cadenceArgs (outputBlock k c) 12 = c.written.c3 := c3.written
  unfold cadencesOf
  rw [first, second, third]

theorem outputArgs_block (low : 1 ≤ k) (high : k ≤ 6) (legal : c.Legal) : outputArgs (outputBlock k c) = some c := by
  have ranges := outputRanges_iff.mpr ⟨⟨low, high⟩, legal⟩
  have cadences := cadencesOf_block (k := k) legal
  obtain ⟨codeFits, indexFits, _⟩ := legal
  have code : arg (outputBlock k c) 1 = c.code := byteOf_toNat (by omega)
  have index : arg (outputBlock k c) 2 = c.argIndex := byteOf_toNat (by omega)
  have stage : Stage.ofNum (arg (outputBlock k c) 3) = some c.argStage :=
    (congrArg Stage.ofNum (Stage.byte_toNat c.argStage)).trans (Stage.ofNum_num _)
  rw [outputArgs_stage stage, arg_outputBlock high, code, index, cadences]
  exact if_pos ranges

end

theorem cadencesOf_bytes (args : List Byte) : (cadencesOf args).bytes =
    [args.getD 4 0, args.getD 5 0, args.getD 6 0, args.getD 7 0, args.getD 8 0, args.getD 9 0, args.getD 10 0,
      args.getD 11 0, args.getD 12 0, args.getD 13 0, args.getD 14 0, args.getD 15 0] := by
  unfold cadencesOf cadenceArgs
  rw [Cadences.bytes_eq]
  dsimp only
  rw [be16_arg16, be16_arg16, be16_arg16, be16_arg16, be16_arg16, be16_arg16]
  rfl

theorem outputArgs_some {args : List Byte} {c : OutputConfig} (length : args.length = 16)
    (read : outputArgs args = some c) :
    1 ≤ arg args 0 ∧ arg args 0 ≤ 6 ∧ c.Legal ∧ args = outputBlock (arg args 0) c := by
  cases known : Stage.ofNum (arg args 3) with
  | none =>
    rw [outputArgs_noStage known] at read
    cases read
  | some st =>
    rw [outputArgs_stage known] at read
    split at read
    case isTrue inside =>
      cases read
      obtain ⟨⟨low, high⟩, legal⟩ := outputRanges_iff.mp inside
      refine ⟨low, high, legal, ?_⟩
      have stage : args.getD 3 0 = st.byte := byte_eq_of_toNat (Stage.ofNum_some known)
      unfold outputBlock
      dsimp only
      rw [byteOf_arg, byteOf_arg, byteOf_arg, cadencesOf_bytes, ← stage]
      exact (args_split (n := 16) (args := args) length.ge).trans
        (by rw [List.drop_eq_nil_of_le length.le, List.append_nil]; rfl)
    case isFalse => cases read

/-! ## LOAD OUTPUT (R136) -/

theorem bodyLoadOutput_unread {args : List Byte} {s : State} (unread : outputArgs args = none) :
    bodyLoadOutput args s = .refuse .range [] := by
  unfold bodyLoadOutput
  rw [unread]

theorem bodyLoadOutput_read {args : List Byte} {k : Nat} {c : OutputConfig} {s : State} (index : arg args 0 = k)
    (read : outputArgs args = some c) : bodyLoadOutput args s = written (s.leaveBlank.writeOutput k c) := by
  unfold bodyLoadOutput
  rw [read, index]

section
variable {s : State} {c : OutputConfig} {o : Output}

theorem OutputConfig.selection_eq_iff {d : OutputConfig} :
    d.selection = c.selection ↔ d.code = c.code ∧ d.argIndex = c.argIndex ∧ d.argStage = c.argStage := by
  unfold OutputConfig.selection
  simp only [Prod.mk.injEq]

theorem Output.write_same (same : o.cfg.selection = c.selection) : o.write s c = { o with cfg := c } := if_pos same

theorem Output.write_starts (other : o.cfg.selection ≠ c.selection) (holds : conditionOf s c = true) : o.write s c =
    { cfg := c, working := c.written, condition := true, inUse := some (cadenceFor s c), phase := some 0, closed := true } :=
  (if_neg other).trans (if_pos holds)

theorem Output.write_stops (other : o.cfg.selection ≠ c.selection) (fails : conditionOf s c = false) : o.write s c =
    { cfg := c, working := o.working, condition := false, inUse := none, phase := none, closed := false } :=
  (if_neg other).trans (if_neg (by simp [fails]))

theorem State.writeOutput_found {k : Nat} (found : s.output k = some o) :
    s.writeOutput k c = s.setOutput k (o.write s c) := by
  unfold State.writeOutput
  rw [found]

theorem State.leaveBlank_output (k : Nat) (s : State) : s.leaveBlank.output k = s.output k := by
  rw [State.leaveBlank_eq]
  rfl

end

/-! ## LOAD CONSOLE (R149) -/

section
variable {l : List Byte} {s : State}

theorem bodyLoadConsole_eq (fits : l.length ≤ 255) : bodyLoadConsole (byteOf l.length :: l) s =
    if decide (l.length ≤ 2) && l.all (addressOk s.node) && decide l.Nodup then written { s with console := l }
    else .refuse .range [] := by
  have read : consoleArgs s.node (byteOf l.length :: l) =
      if decide (l.length ≤ 2) && l.all (addressOk s.node) && decide l.Nodup then some l else none := by
    have count : arg (byteOf l.length :: l) 0 = l.length := byteOf_toNat fits
    unfold consoleArgs
    rw [count]
    rfl
  unfold bodyLoadConsole
  rw [read]
  split
  case h_1 none =>
    split at none
    case isTrue => cases none
    case isFalse outside => rw [if_neg outside]
  case h_2 m some =>
    split at some
    case isTrue inside =>
      cases some
      rw [if_pos inside]
    case isFalse => cases some

theorem bodyLoadConsole_takes (fits : l.length ≤ 255) (two : l.length ≤ 2) (distinct : l.Nodup)
    (addresses : ∀ a ∈ l, a ≠ 0 ∧ a ≠ 255 ∧ a ≠ s.node) :
    bodyLoadConsole (byteOf l.length :: l) s = written { s with console := l } := by
  rw [bodyLoadConsole_eq fits, if_pos]
  simp only [Bool.and_eq_true, decide_eq_true_eq, List.all_eq_true, addressOk_iff]
  exact ⟨⟨two, addresses⟩, distinct⟩

theorem bodyLoadConsole_range (fits : l.length ≤ 255)
    (outside : 2 < l.length ∨ ¬ l.Nodup ∨ ∃ a ∈ l, a = 0 ∨ a = 255 ∨ a = s.node) :
    bodyLoadConsole (byteOf l.length :: l) s = .refuse .range [] := by
  rw [bodyLoadConsole_eq fits, if_neg]
  simp only [Bool.and_eq_true, decide_eq_true_eq, List.all_eq_true, addressOk_iff]
  rintro ⟨⟨two, addresses⟩, distinct⟩
  rcases outside with long | twice | ⟨a, listed, wrong⟩
  · omega
  · exact twice distinct
  · have := addresses a listed
    tauto

end

end Sys2Proof.Machine

end

section
/-! SET NOTICES and CLEAR NOTICES on the notice unit (R172, R174, R188, R190). -/

namespace Sys2Proof.Machine

/-! ## The classes after a pass over them -/

section
variable {f : NoticeUnit → NoticeClass → NoticeUnit} {g : ClassState → NoticeClass → ClassState}

/-- A pass that changes each class in its turn changes each listed class once. -/
theorem classes_foldl (own : ∀ w c, (f w c).get c = g (w.get c) c) (other : ∀ w c d, c ≠ d → (f w c).get d = w.get d)
    {l : List NoticeClass} (distinct : l.Nodup) (u : NoticeUnit) (c : NoticeClass) :
    (l.foldl f u).get c = if c ∈ l then g (u.get c) c else u.get c := by
  induction l generalizing u with
  | nil => rfl
  | cons d l ih =>
    obtain ⟨fresh, distinct⟩ := List.nodup_cons.mp distinct
    rw [List.foldl_cons, ih distinct]
    by_cases here : c = d
    · subst here
      rw [if_neg fresh, if_pos List.mem_cons_self, own]
    · rw [other u d c (Ne.symm here)]
      simp only [List.mem_cons, here, false_or]

theorem classes_all (own : ∀ w c, (f w c).get c = g (w.get c) c) (other : ∀ w c d, c ≠ d → (f w c).get d = w.get d)
    (u : NoticeUnit) (c : NoticeClass) : (NoticeClass.all.foldl f u).get c = g (u.get c) c := by
  rw [classes_foldl own other (by decide), if_pos c.mem_all]

end

/-! ## CLEAR NOTICES (R188) -/

section
variable (set : Byte)

/-- CLEAR NOTICES on one class, if the set names it. -/
def NoticeUnit.clearIf (u : NoticeUnit) (c : NoticeClass) : NoticeUnit :=
  if inClassSet set c then u.clearClass c else u

theorem NoticeUnit.clearIf_own (u : NoticeUnit) (c : NoticeClass) : (u.clearIf set c).get c =
    if inClassSet set c then { u.get c with detail := none, count := 0 } else u.get c := by
  unfold NoticeUnit.clearIf
  split
  · rw [NoticeUnit.clearClass, NoticeUnit.withdraw_get, NoticeUnit.get_set_same]
  · rfl

theorem NoticeUnit.clearIf_other (u : NoticeUnit) (c d : NoticeClass) (other : c ≠ d) :
    (u.clearIf set c).get d = u.get d := by
  unfold NoticeUnit.clearIf
  split
  · rw [NoticeUnit.clearClass, NoticeUnit.withdraw_get, NoticeUnit.get_set_other _ _ other]
  · rfl

theorem NoticeUnit.clearIf_out (u : NoticeUnit) (c : NoticeClass) :
    (u.clearIf set c).out = u.out.filter (fun it => !(inClassSet set c && it.isNotice c)) := by
  unfold NoticeUnit.clearIf
  split
  case isTrue named =>
    rw [named]
    show ((u.set c _).out).filter _ = _
    rw [NoticeUnit.set_out]
    rfl
  case isFalse absent =>
    rw [Bool.eq_false_iff.mpr absent]
    exact (List.filter_true _).symm

theorem NoticeUnit.clearIf_period (u : NoticeUnit) (c : NoticeClass) :
    (u.clearIf set c).period = u.period ∧ (u.clearIf set c).statusCd = u.statusCd := by
  unfold NoticeUnit.clearIf
  split
  · exact ⟨NoticeUnit.set_period c _ u, NoticeUnit.set_statusCd c _ u⟩
  · exact ⟨rfl, rfl⟩

theorem NoticeUnit.clearSet_get (u : NoticeUnit) (c : NoticeClass) : (u.clearSet set).get c =
    if inClassSet set c then { u.get c with detail := none, count := 0 } else u.get c :=
  classes_all (g := fun x c => if inClassSet set c then { x with detail := none, count := 0 } else x)
    (NoticeUnit.clearIf_own set) (NoticeUnit.clearIf_other set) u c

theorem NoticeUnit.clearSet_rest (u : NoticeUnit) :
    (u.clearSet set).period = u.period ∧ (u.clearSet set).statusCd = u.statusCd :=
  foldl_keeps (P := fun w : NoticeUnit => w.period = u.period ∧ w.statusCd = u.statusCd)
    (fun w c h => ⟨(w.clearIf_period set c).1.trans h.1, (w.clearIf_period set c).2.trans h.2⟩) _ u ⟨rfl, rfl⟩

theorem NoticeUnit.clearIfs_out (l : List NoticeClass) (u : NoticeUnit) : (l.foldl (NoticeUnit.clearIf set) u).out =
    u.out.filter (fun it => !l.any (fun c => inClassSet set c && it.isNotice c)) := by
  induction l generalizing u with
  | nil => exact (List.filter_true _).symm
  | cons c l ih =>
    rw [List.foldl_cons, ih, NoticeUnit.clearIf_out, List.filter_filter]
    refine List.filter_congr fun it _ => ?_
    rw [List.any_cons, Bool.not_or, Bool.and_comm]

theorem NoticeUnit.clearSet_out (u : NoticeUnit) : (u.clearSet set).out =
    u.out.filter (fun it => !NoticeClass.all.any (fun c => inClassSet set c && it.isNotice c)) :=
  NoticeUnit.clearIfs_out set NoticeClass.all u

end

end Sys2Proof.Machine

end

section
/-! SET NOTICES class by class, and what it makes of the outgoing list (R172, R188). -/

namespace Sys2Proof.Machine

/-! ## Queuing on the list alone -/

/-- The outgoing list after an item is queued (R187). -/
def enqueued (it : OutItem) (out : List OutItem) : List OutItem :=
  if it ∈ out ∨ 28 ≤ out.length then out else out ++ [it]

/-- The outgoing list after a NOTICE of a class is queued to each address of a list (R186). -/
def noticesQueued (c : NoticeClass) (l : List Byte) (out : List OutItem) : List OutItem :=
  l.foldl (fun out a => enqueued (.notice c a) out) out

theorem NoticeUnit.enqueue_out (it : OutItem) (u : NoticeUnit) : (u.enqueue it).out = enqueued it u.out := by
  unfold NoticeUnit.enqueue enqueued
  split <;> rfl

theorem NoticeUnit.enqueueNotices_out (c : NoticeClass) (l : List Byte) (u : NoticeUnit) :
    (u.enqueueNotices c l).out = noticesQueued c l u.out := by
  unfold NoticeUnit.enqueueNotices noticesQueued
  induction l generalizing u with
  | nil => rfl
  | cons a l ih => rw [List.foldl_cons, List.foldl_cons, ih, NoticeUnit.enqueue_out]

section
variable {it x : OutItem} {out : List OutItem}

theorem mem_enqueued_other (other : x ≠ it) : x ∈ enqueued it out ↔ x ∈ out := by
  unfold enqueued
  split
  · exact Iff.rfl
  · simp [other]

theorem mem_enqueued_self (place : out.length < 28) : it ∈ enqueued it out := by
  unfold enqueued
  split
  case isTrue held => exact held.resolve_right (by omega)
  case isFalse => simp

theorem length_enqueued : (enqueued it out).length ≤ out.length + 1 := by
  unfold enqueued
  split
  · omega
  · simp

end

section
variable {c : NoticeClass} {it : OutItem}

theorem mem_noticesQueued_other (other : it.isNotice c = false) (l : List Byte) (out : List OutItem) :
    it ∈ noticesQueued c l out ↔ it ∈ out := by
  unfold noticesQueued
  induction l generalizing out with
  | nil => exact Iff.rfl
  | cons a l ih =>
    have apart : it ≠ .notice c a := by
      rintro rfl
      exact Bool.false_ne_true (other.symm.trans (OutItem.isNotice_notice.mpr rfl))
    rw [List.foldl_cons, ih, mem_enqueued_other apart]

theorem length_noticesQueued (l : List Byte) (out : List OutItem) :
    (noticesQueued c l out).length ≤ out.length + l.length := by
  unfold noticesQueued
  induction l generalizing out with
  | nil => exact le_rfl
  | cons a l ih =>
    rw [List.foldl_cons, List.length_cons]
    have := ih (enqueued (.notice c a) out)
    have := length_enqueued (it := .notice c a) (out := out)
    omega

theorem mem_noticesQueued {l : List Byte} {out : List OutItem} (room : out.length + l.length ≤ 28) (a : Byte) :
    .notice c a ∈ noticesQueued c l out ↔ .notice c a ∈ out ∨ a ∈ l := by
  unfold noticesQueued
  induction l generalizing out with
  | nil => simp
  | cons b l ih =>
    rw [List.length_cons] at room
    have longer := length_enqueued (it := .notice c b) (out := out)
    rw [List.foldl_cons, ih (by omega), List.mem_cons]
    by_cases here : a = b
    · subst here
      simp [mem_enqueued_self (it := .notice c a) (out := out) (by omega)]
    · rw [mem_enqueued_other (by simp [here])]
      simp [here]

end

/-! ## One class (R188) -/

section
variable (set : Byte) (l : List Byte) (u : NoticeUnit)

/-- What SET NOTICES does to the outgoing list at a class that stands as in `u`. -/
def NoticeUnit.outStep (out : List OutItem) (c : NoticeClass) : List OutItem :=
  if (u.get c).enable = false ∧ set.getLsbD c.num = true ∧ (u.get c).detail ≠ none then
    (l.foldl (fun (w : NoticeUnit) a => w.enqueue (.notice c a)) { u with out := out }).out
  else if (u.get c).enable = true ∧ set.getLsbD c.num = false then out.filter (fun it => !it.isNotice c)
  else out

section
variable {u : NoticeUnit} {c : NoticeClass} (out : List OutItem)

theorem NoticeUnit.outStep_queues (off : (u.get c).enable = false) (on : set.getLsbD c.num = true)
    (flag : (u.get c).detail ≠ none) : u.outStep set l out c = noticesQueued c l out :=
  (if_pos ⟨off, on, flag⟩).trans (NoticeUnit.enqueueNotices_out c l { u with out := out })

theorem NoticeUnit.outStep_withdraws (on : (u.get c).enable = true) (off : set.getLsbD c.num = false) :
    u.outStep set l out c = out.filter (fun it => !it.isNotice c) :=
  (if_neg fun h => Bool.false_ne_true (h.1.symm.trans on)).trans (if_pos ⟨on, off⟩)

theorem NoticeUnit.outStep_keeps (same : (u.get c).enable = set.getLsbD c.num) : u.outStep set l out c = out :=
  (if_neg fun h => Bool.false_ne_true (h.1.symm.trans (same.trans h.2.1))).trans
    (if_neg fun h => Bool.false_ne_true (h.2.symm.trans (same.symm.trans h.1)))

theorem NoticeUnit.outStep_clear (clear : (u.get c).detail = none) (off : (u.get c).enable = false) :
    u.outStep set l out c = out :=
  (if_neg fun h => h.2.2 clear).trans (if_neg fun h => Bool.false_ne_true (off.symm.trans h.1))

/-- Four things a class may come to at SET NOTICES. -/
theorem NoticeUnit.outStep_cases : u.outStep set l out c = noticesQueued c l out ∨
    u.outStep set l out c = out.filter (fun it => !it.isNotice c) ∨ u.outStep set l out c = out := by
  unfold NoticeUnit.outStep
  split
  · exact .inl (NoticeUnit.enqueueNotices_out c l { u with out := out })
  · split
    · exact .inr (.inl rfl)
    · exact .inr (.inr rfl)

theorem NoticeUnit.mem_outStep_other {it : OutItem} (other : it.isNotice c = false) :
    it ∈ u.outStep set l out c ↔ it ∈ out := by
  rcases NoticeUnit.outStep_cases set l (u := u) (c := c) out with queued | withdrawn | kept
  · rw [queued, mem_noticesQueued_other other]
  · rw [withdrawn, List.mem_filter]
    simp [other]
  · rw [kept]

theorem NoticeUnit.length_outStep : (u.outStep set l out c).length ≤ out.length + l.length := by
  rcases NoticeUnit.outStep_cases set l (u := u) (c := c) out with queued | withdrawn | kept
  · rw [queued]
    exact length_noticesQueued l out
  · rw [withdrawn]
    exact (List.length_filter_le _ _).trans (Nat.le_add_right _ _)
  · rw [kept]
    exact Nat.le_add_right _ _

end

theorem NoticeUnit.writeEnable_own (on : Bool) (w : NoticeUnit) (c : NoticeClass) :
    (w.writeEnable c on l).get c = { w.get c with enable := on } := by
  unfold NoticeUnit.writeEnable
  dsimp only
  split
  · split
    · rw [(NoticeUnit.enqueueNotices_only c l _).get, NoticeUnit.get_set_same]
    · rw [NoticeUnit.get_set_same]
  · split
    · rw [NoticeUnit.withdraw_get, NoticeUnit.get_set_same]
    · rw [NoticeUnit.get_set_same]

theorem NoticeUnit.writeEnable_other (on : Bool) (w : NoticeUnit) {c d : NoticeClass} (other : c ≠ d) :
    (w.writeEnable c on l).get d = w.get d := by
  unfold NoticeUnit.writeEnable
  dsimp only
  split
  · split
    · rw [(NoticeUnit.enqueueNotices_only c l _).get, NoticeUnit.get_set_other _ _ other]
    · rw [NoticeUnit.get_set_other _ _ other]
  · split
    · rw [NoticeUnit.withdraw_get, NoticeUnit.get_set_other _ _ other]
    · rw [NoticeUnit.get_set_other _ _ other]

theorem NoticeUnit.writeEnable_out (w : NoticeUnit) {c : NoticeClass} (same : w.get c = u.get c) :
    (w.writeEnable c (inClassSet set c) l).out = u.outStep set l w.out c := by
  unfold NoticeUnit.writeEnable inClassSet
  dsimp only
  rw [same]
  cases enable : (u.get c).enable
  · cases on : set.getLsbD c.num
    · rw [NoticeUnit.outStep_keeps set l w.out (enable.trans on.symm)]
      exact NoticeUnit.set_out c _ w
    · cases detail : (u.get c).detail with
      | none =>
        rw [NoticeUnit.outStep_clear set l w.out detail enable]
        simp [ClassState.flag, detail]
      | some d =>
        rw [NoticeUnit.outStep_queues set l w.out enable on (by simp [detail])]
        simp [ClassState.flag, detail, NoticeUnit.enqueueNotices_out]
  · cases on : set.getLsbD c.num
    · rw [NoticeUnit.outStep_withdraws set l w.out enable on]
      simp [NoticeUnit.withdraw]
    · rw [NoticeUnit.outStep_keeps set l w.out (enable.trans on.symm)]
      exact NoticeUnit.set_out c _ w

end

end Sys2Proof.Machine

end

section
/-! The outgoing list after SET NOTICES (R188, R190). -/

namespace Sys2Proof.Machine

/-! ## The pass over the classes -/

/-- A class has its own place in the order of the six. -/
theorem NoticeClass.all_split (c : NoticeClass) :
    ∃ before after, NoticeClass.all = before ++ c :: after ∧ c ∉ before ∧ c ∉ after ∧ before.length ≤ 5 := by
  obtain ⟨before, after, split⟩ := List.append_of_mem c.mem_all
  have distinct : NoticeClass.all.Nodup := by decide
  have length := congrArg List.length split
  rw [split, List.nodup_middle, List.nodup_cons, List.mem_append, not_or] at distinct
  rw [List.length_append, List.length_cons, show NoticeClass.all.length = 6 from rfl] at length
  exact ⟨before, after, split, distinct.1.1, distinct.1.2, by omega⟩

section
variable (set : Byte) (l : List Byte) (u : NoticeUnit)

theorem NoticeUnit.writeEnables_out {cs : List NoticeClass} (distinct : cs.Nodup) {w : NoticeUnit}
    (same : ∀ c ∈ cs, w.get c = u.get c) :
    (cs.foldl (fun w c => w.writeEnable c (inClassSet set c) l) w).out = cs.foldl (u.outStep set l) w.out := by
  induction cs generalizing w with
  | nil => rfl
  | cons c cs ih =>
    obtain ⟨fresh, distinct⟩ := List.nodup_cons.mp distinct
    rw [List.foldl_cons, List.foldl_cons, ih distinct, NoticeUnit.writeEnable_out set l u w (same c List.mem_cons_self)]
    intro d later
    have other : c ≠ d := fun here => fresh (here ▸ later)
    rw [NoticeUnit.writeEnable_other l _ w other, same d (List.mem_cons_of_mem c later)]

theorem NoticeUnit.mem_outSteps {it : OutItem} {cs : List NoticeClass} (other : ∀ c ∈ cs, it.isNotice c = false)
    (out : List OutItem) : it ∈ cs.foldl (u.outStep set l) out ↔ it ∈ out := by
  induction cs generalizing out with
  | nil => exact Iff.rfl
  | cons c cs ih =>
    rw [List.foldl_cons, ih fun d later => other d (List.mem_cons_of_mem c later),
      NoticeUnit.mem_outStep_other set l out (other c List.mem_cons_self)]

theorem NoticeUnit.length_outSteps (cs : List NoticeClass) (out : List OutItem) :
    (cs.foldl (u.outStep set l) out).length ≤ out.length + cs.length * l.length := by
  induction cs generalizing out with
  | nil => simp
  | cons c cs ih =>
    have step := NoticeUnit.length_outStep set l (u := u) (c := c) out
    rw [List.foldl_cons, List.length_cons, Nat.succ_mul]
    have := ih (u.outStep set l out c)
    omega

/-- A NOTICE of a class stands in the list as the turn of that class leaves it; the turns before have left room. -/
theorem NoticeUnit.mem_outSteps_all (c : NoticeClass) (out : List OutItem) :
    ∃ mid : List OutItem, mid.length ≤ out.length + 5 * l.length ∧ ∀ a,
      (.notice c a ∈ mid ↔ .notice c a ∈ out) ∧
        (.notice c a ∈ NoticeClass.all.foldl (u.outStep set l) out ↔ .notice c a ∈ u.outStep set l mid c) := by
  obtain ⟨before, after, split, fresh, done, few⟩ := c.all_split
  have apart {cs : List NoticeClass} (absent : c ∉ cs) (a : Byte) : ∀ d ∈ cs, (OutItem.notice c a).isNotice d = false :=
    fun d listed => Bool.eq_false_iff.mpr fun same => absent (OutItem.isNotice_notice.mp same ▸ listed)
  refine ⟨before.foldl (u.outStep set l) out, ?_, fun a => ⟨NoticeUnit.mem_outSteps set l u (apart fresh a) out, ?_⟩⟩
  · have length := NoticeUnit.length_outSteps set l u before out
    have bound := Nat.mul_le_mul_right l.length few
    omega
  · rw [split, List.foldl_append, List.foldl_cons, NoticeUnit.mem_outSteps set l u (apart done a)]

end

/-! ## SET NOTICES (R188, R190) -/

section
variable (set : Byte) (period : Nat) (l : List Byte) (u : NoticeUnit)

/-- The classes taken in their order, before the period is written. -/
def NoticeUnit.enabled : NoticeUnit :=
  NoticeClass.all.foldl (fun w c => w.writeEnable c (inClassSet set c) l) u

theorem NoticeUnit.write_eq : u.write set period l = { u.enabled set l with period := period, statusCd := loadStatus period } :=
  rfl

theorem NoticeUnit.write_get (c : NoticeClass) :
    (u.write set period l).get c = { u.get c with enable := set.getLsbD c.num } := by
  have rest : (u.write set period l).get c = (u.enabled set l).get c := by
    rw [NoticeUnit.write_eq]
    cases c <;> rfl
  rw [rest]
  exact classes_all (g := fun x c => { x with enable := inClassSet set c }) (fun w c => NoticeUnit.writeEnable_own l _ w c)
    (fun w c d other => NoticeUnit.writeEnable_other l _ w other) u c

theorem NoticeUnit.write_out : (u.write set period l).out = NoticeClass.all.foldl (u.outStep set l) u.out :=
  NoticeUnit.writeEnables_out set l u (by decide) fun _ _ => rfl

theorem NoticeUnit.mem_write_status (a : Byte) : .status a ∈ (u.write set period l).out ↔ .status a ∈ u.out := by
  rw [NoticeUnit.write_out]
  exact NoticeUnit.mem_outSteps set l u (fun _ _ => rfl) u.out

variable {set l u} {c : NoticeClass} {a : Byte}

theorem NoticeUnit.mem_write_kept (same : (u.get c).enable = set.getLsbD c.num) :
    .notice c a ∈ (u.write set period l).out ↔ .notice c a ∈ u.out := by
  obtain ⟨mid, _, turn⟩ := NoticeUnit.mem_outSteps_all set l u c u.out
  rw [NoticeUnit.write_out, (turn a).2, NoticeUnit.outStep_keeps set l mid same, (turn a).1]

theorem NoticeUnit.mem_write_withdrawn (on : (u.get c).enable = true) (off : set.getLsbD c.num = false) :
    .notice c a ∉ (u.write set period l).out := by
  obtain ⟨mid, _, turn⟩ := NoticeUnit.mem_outSteps_all set l u c u.out
  rw [NoticeUnit.write_out, (turn a).2, NoticeUnit.outStep_withdraws set l mid on off, List.mem_filter]
  simp [OutItem.isNotice]

theorem NoticeUnit.mem_write_queued (off : (u.get c).enable = false) (on : set.getLsbD c.num = true) (two : l.length ≤ 2)
    (few : u.out.length ≤ 16) : .notice c a ∈ (u.write set period l).out ↔
      .notice c a ∈ u.out ∨ ((u.get c).detail ≠ none ∧ a ∈ l) := by
  obtain ⟨mid, short, turn⟩ := NoticeUnit.mem_outSteps_all set l u c u.out
  rw [NoticeUnit.write_out, (turn a).2, ← (turn a).1]
  by_cases flag : (u.get c).detail = none
  · rw [NoticeUnit.outStep_clear set l mid flag off]
    simp [flag]
  · rw [NoticeUnit.outStep_queues set l mid off on flag, mem_noticesQueued (by omega)]
    simp [flag]

end

/-! ## The arguments of SET NOTICES (R172) -/

theorem periodArgs_block (set : Byte) {period : Nat} (legal : period = 0 ∨ (10 ≤ period ∧ period ≤ 3600)) :
    periodArgs (set :: be16 period) = some period := by
  have read : arg16 (set :: be16 period) 1 = period := word16_be16 (by omega)
  unfold periodArgs
  dsimp only
  rw [read, if_pos]
  simp only [Bool.or_eq_true, decide_eq_true_eq, inRange_iff]
  exact legal

theorem periodArgs_some {args : List Byte} {period : Nat} (length : args.length = 3) (read : periodArgs args = some period) :
    (period = 0 ∨ (10 ≤ period ∧ period ≤ 3600)) ∧ args = args.getD 0 0 :: be16 period := by
  unfold periodArgs at read
  dsimp only at read
  split at read
  case isTrue inside =>
    simp only [Bool.or_eq_true, decide_eq_true_eq, inRange_iff] at inside
    cases read
    refine ⟨inside, ?_⟩
    rw [be16_arg16]
    exact (args_split (n := 3) (args := args) length.ge).trans
      (by rw [List.drop_eq_nil_of_le length.le, List.append_nil]; rfl)
  case isFalse => cases read

section
variable {args : List Byte} {s : State}

theorem bodySetNotices_unread (unread : periodArgs args = none) : bodySetNotices args s = .refuse .range [] := by
  unfold bodySetNotices
  rw [unread]

theorem bodySetNotices_read {period : Nat} (read : periodArgs args = some period) : bodySetNotices args s =
    written { s with notices := s.notices.write (args.getD 0 0) period s.console } := by
  unfold bodySetNotices
  rw [read]

end

end Sys2Proof.Machine

end

section
/-! The console, output and notice commands settled (O47). -/

namespace Sys2Proof.Machine

/-- Settles O47: each command by its arguments; SET NOTICES and CLEAR NOTICES by what they make of each class and of the
outgoing list. -/
theorem consoleOutputAndNoticeCommandsWrite : Obligations.ConsoleOutputAndNoticeCommandsWrite := by
  unfold Obligations.ConsoleOutputAndNoticeCommandsWrite
  refine ⟨⟨fun src tag k c o s₀ => ?output, fun src tag args s₀ => ?range, fun src tag set period s₀ => ?setNotices,
    fun src tag set s₀ => ?clearNotices⟩, fun src tag l s₀ => ?console⟩
  case output =>
    intro s low high legal found admitted t
    have out : s.leaveBlank = t := State.leaveBlank_eq s
    have there : t.output k = some o := (out ▸ State.leaveBlank_output k s : t.output k = s.output k).trans found
    have writes : bodyLoadOutput (outputBlock k c) s = written (t.setOutput k (o.write t c)) := by
      rw [bodyLoadOutput_read (arg_outputBlock high) (outputArgs_block low high legal), out, State.writeOutput_found there]
    clear_value t
    refine ⟨fun code index stage => ?_, fun differs => ?_⟩
    · rw [Output.write_same (OutputConfig.selection_eq_iff.mpr ⟨code, index, stage⟩)] at writes
      exact exec_writes (c := .loadOutput) (s := s₀) admitted writes
    · have other : o.cfg.selection ≠ c.selection := fun same => by
        have := OutputConfig.selection_eq_iff.mp same
        tauto
      refine ⟨fun holds => ?_, fun fails => ?_⟩
      · rw [Output.write_starts other holds] at writes
        exact exec_writes (c := .loadOutput) (s := s₀) admitted writes
      · rw [Output.write_stops other fails] at writes
        exact exec_writes (c := .loadOutput) (s := s₀) admitted writes
  case range =>
    intro s
    refine ⟨fun admitted none => ?_, fun admitted none => ?_⟩
    · refine exec_refuses (c := .loadOutput) (s := s₀) admitted (bodyLoadOutput_unread ?_)
      refine Option.eq_none_iff_forall_ne_some.mpr fun c read => none ?_
      obtain ⟨low, high, legal, block⟩ := outputArgs_some admitted.length read
      exact ⟨_, c, low, high, legal, block⟩
    · refine exec_refuses (c := .setNotices) (s := s₀) admitted (bodySetNotices_unread ?_)
      refine Option.eq_none_iff_forall_ne_some.mpr fun period read => none ?_
      obtain ⟨legal, block⟩ := periodArgs_some admitted.length read
      exact ⟨_, period, legal, block⟩
  case setNotices =>
    intro s legal admitted
    refine ⟨s.notices.write set period s.console,
      exec_writes (c := .setNotices) (s := s₀) admitted (bodySetNotices_read (periodArgs_block set legal)), rfl, rfl,
      NoticeUnit.write_out set period s.console s.notices, NoticeUnit.write_get set period s.console s.notices,
      fun c a => NoticeUnit.mem_write_kept period, fun c a => NoticeUnit.mem_write_withdrawn period,
      fun c a => NoticeUnit.mem_write_queued period, NoticeUnit.mem_write_status set period s.console s.notices⟩
  case clearNotices =>
    intro s admitted
    exact ⟨s.notices.clearSet set, exec_writes (c := .clearNotices) (s := s₀) admitted rfl,
      (s.notices.clearSet_rest set).1, (s.notices.clearSet_rest set).2, s.notices.clearSet_get set,
      s.notices.clearSet_out set⟩
  case console =>
    intro s admitted
    have fits : l.length ≤ 255 := by
      have length : l.length + 1 = 1 + (byteOf l.length).toNat := admitted.length
      have := (byteOf l.length).isLt
      omega
    exact ⟨fun two distinct addresses =>
        exec_writes (c := .loadConsole) (s := s₀) admitted (bodyLoadConsole_takes fits two distinct addresses),
      fun outside => exec_refuses (c := .loadConsole) (s := s₀) admitted (bodyLoadConsole_range fits outside)⟩

end Sys2Proof.Machine

end
